-- ==== Sys2Proof/Word.lean ====
section
/-! DEFINITION. The plainest value types of the TDN240 model: the byte that every layout is built of, a
value of the 32-bit millisecond count, and a tool id as the four bytes it is sent in. -/

namespace Sys2Proof

/-- One byte of a hall-line payload or of a local-port frame. -/
abbrev Byte := BitVec 8

/-- A value of the 32-bit count of milliseconds since the last reset (00_scope.md, "Time"). -/
abbrev Millis := BitVec 32

/-- A tool id: compared and never interpreted (00_scope.md, "Numbering"); 0 is not a tool id. -/
abbrev ToolId := BitVec 32

end Sys2Proof
end

