-- ==== Sys2Proof/Config.lean ====
section
/-! DEFINITION. The fixed sizes and intervals of the TDN240, each with the rule that gives it. The spec
leaves no value of the device open to the implementation; one moment in time is a free value (`takenLater`). -/

namespace Sys2Proof.Config

/-- Rows of the record table (R2). -/
def tableRows : Nat := 96
/-- Call slots of the custody engine (R58). -/
def callSlots : Nat := 4
/-- Outbound slots of the custody engine (R59). -/
def outboundSlots : Nat := 4
/-- Entries of the accepted list (R60). -/
def acceptedMax : Nat := 16
/-- Frames of the transmit queue (R33). -/
def txMax : Nat := 8
/-- Frames of the receive queue (R38). -/
def rxMax : Nat := 4
/-- Roster entries, one for each station number (R46). -/
def stations : Nat := 62
/-- Entries of the notice queue (R179). -/
def noticeMax : Nat := 32
/-- Rows of the reservation table (R166). -/
def reservationMax : Nat := 16
/-- Entries of the demand list (R159). -/
def demandMax : Nat := 8
/-- Pull-in slots of the pocket bank, hence locks PULLING (R90). -/
def pullInSlots : Nat := 4
/-- Locks PULLING or HOLDING at a time (R90). -/
def energisedMax : Nat := 8
/-- Pockets a SERVICE_OPEN may list (R119). -/
def serviceMax : Nat := 8
/-- Digits of a key buffer (R106). -/
def keysMax : Nat := 8
/-- Tool ids a LIST_RECORDS returns at most (R21). -/
def listMax : Nat := 60
/-- Bit errors at which a frame is discarded (R31). -/
def bitErrorMax : Nat := 8
/-- Tries of a call and of an offer (R66, R71). -/
def triesMax : Nat := 3
/-- The call wait in ms (R64, R66). -/
def callWait : Nat := 100
/-- The offer wait in ms (R70, R71). -/
def offerWait : Nat := 60
/-- The check wait in ms (R79). -/
def checkWait : Nat := 60
/-- The inter-key interval in ms (R106). -/
def interKeyMs : Nat := 5000
/-- The access window in ms (R108). -/
def windowMs : Nat := 30000
/-- The keypad lockout in ms (R109). -/
def lockoutMs : Nat := 60000
/-- The capture interval in ms (R127). -/
def captureMs : Nat := 10000
/-- Staleness of a reference, in hundredths of a degree (R130). -/
def staleLimit : Nat := 200
/-- Largest length in tenths of a micrometre (R5). -/
def lengthMax : Nat := 5000000
/-- Largest radius in tenths of a micrometre (R5). -/
def radiusMax : Nat := 1000000
/-- Largest life quantity in seconds (R5). -/
def lifeMax : Nat := 4194303
/-- Largest runout, at which a computed runout saturates (R140). -/
def runoutMax : Nat := 65535
/-- Beacon interval used for a peer that has announced none, in ms (R47). -/
def unannouncedBeacon : Nat := 2000

/-- Whether command frames wait in the slot from the next tick of the count on, by the number of the draw. The spec
leaves the moment at which a command in the slot is taken open (R176): a free value, with no body. DESIGN CHOICE
(log 28). -/
opaque takenLater : Nat → Bool

end Sys2Proof.Config
end

