-- ==== Sys2Proof/Syntax.lean ====
section
/-! DEFINITION. The commands of the block: one constructor of `Instr` for each row of
spec/opcode_table.json, in the table's order. A host command carries the fields of its local-port payload
(11_formats.md, 11.3) at the widths of the layout; an event carries what the outside world decides about it.
A timer's expiry names the timer. A delivery of a received frame (R39) carries nothing: it takes the oldest
frame of the receive queue. -/

namespace Sys2Proof

/-- The two keypads (00_scope.md, "Numbering"). -/
inductive PanelId where
  | a
  | b
  deriving DecidableEq, Repr

/-- The two incremental scales of the measuring head (R125). -/
inductive Scale where
  | z
  | x
  deriving DecidableEq, Repr

/-- A whole frame as its cells were read from the hall line (R27, 11.1), its CRC cells included. -/
structure WireFrame where
  cls : BitVec 2
  kind : BitVec 4
  source : BitVec 6
  destination : BitVec 6
  length : BitVec 6
  payload : List Byte
  crc : BitVec 16
  deriving DecidableEq, Repr

/-- What the receiver read that may be a framing error (R36). Widths and gaps are in nanoseconds. -/
inductive FramingCause where
  /-- a dominant pulse of this width -/
  | pulse (widthNs : Nat)
  /-- two successive dominant edges of a frame this far apart -/
  | edgeGap (gapNs : Nat)
  /-- the first header cell's edge this long after the start mark's edge -/
  | firstEdgeGap (gapNs : Nat)
  /-- no edge for this long since the last one, before the last CRC cell -/
  | noEdge (sinceNs : Nat)
  /-- the length field of the header -/
  | lengthField (length : BitVec 6)
  deriving DecidableEq, Repr

/-- The commands and events of the TDN240, one constructor for each row of the table. -/
inductive Instr where
  -- Local port
  | reset
  /-- a read transaction that shifts out this many bytes before it is released -/
  | readTransaction (bytesOut : Nat)
  | commandCollision
  | unknownCommand (code : Byte) (payload : List Byte)
  | readStatus
  | readNotice
  /-- the 61 bytes of the CONFIGURE payload -/
  | configure (payload : List Byte)
  | restore (state placeKind placeNumber prior counterpart handoff : Byte) (image : List Byte)
  | join
  | rejoin
  | readPeer (station : Byte)
  | pardon (station : Byte)
  -- Record commands
  | create (placeKind placeNumber : Byte) (image : List Byte)
  | drop (tool : ToolId)
  | resolve (tool : ToolId) (choice : Byte)
  | markDamaged (tool : ToolId)
  | regrind (tool : ToolId) (newLength : Option (BitVec 24))
  | readRecord (tool : ToolId)
  | listRecords (start : Byte)
  -- Crib commands
  | issue (panel : Byte) (cls : BitVec 16) (forStation : Byte)
  | returnTool (panel : Byte) (pocket : Option Byte)
  | serviceOpen (panel : Byte) (list : List Byte)
  | cancel (panel : Byte)
  | identifyPocket (pocket : Byte) (tool : ToolId)
  | clearPocketFault (pocket : Byte)
  | readPocket (pocket : Byte)
  | readPanel (panel : Byte)
  | readReservations
  -- Measuring commands
  | identifyHead (tool : ToolId)
  | measureReference (n : Byte) (t : BitVec 16)
  | measure (tool : ToolId) (n : Byte) (t : BitVec 16)
  | abortMeasure
  | readHead
  -- Magazine commands
  | load (slot : Byte) (tool : ToolId)
  | unload (slot : Byte)
  | charge (slot : Byte) (seconds : BitVec 16)
  | readSlot (slot : Byte)
  -- Demand commands
  | setDemand (entries : List (BitVec 16 × Byte))
  | startDemand (mode interval target hold : Byte)
  | stopDemand
  | readDemand
  -- Hall line
  | lineIdle
  | arbitrationLost
  /-- the flag: the cell read back was a start mark -/
  | bitError (startMark : Bool)
  | frameSent
  | frameReceived (frame : WireFrame)
  -- Deliveries of the oldest received frame
  | malformedFrame
  | presence
  | call
  | offer
  | accept
  | decline
  | here
  | check
  | checkReply
  | demand
  -- Line supervision
  /-- the start of the dominant run, in ns, and whether the node's own driver is sensed asserting -/
  | lineHeld (startNs : Nat) (driverAsserting : Bool)
  /-- the end of the last dominant pulse, in ns on the same time line -/
  | lineReleased (endNs : Nat)
  -- Timers of the roster and the custody engine
  | nodeOnline
  | beaconExpiry
  | peerAbsent (station : Nat)
  | callWaitExpiry (slot : Nat)
  | offerWaitExpiry (slot : Nat)
  | checkWaitExpiry (tool : ToolId)
  -- Pocket bank
  /-- the settled input level of the sensor: high or low -/
  | pocketFirstReading (pocket : Nat) (levelHigh : Bool)
  | pocketRemoval (pocket : Nat)
  | pocketInsertion (pocket : Nat)
  | currentSeen (pocket : Nat)
  | pullInExpiry (pocket : Nat)
  | shortCurrent (pocket : Nat)
  | holdExpiry (pocket : Nat)
  | supplyLow
  | supplyNormal
  -- Panels
  | digitKey (panel : PanelId) (digit : Nat)
  | enter (panel : PanelId)
  | clear (panel : PanelId)
  | interKeyExpiry (panel : PanelId)
  | lockoutExpiry (panel : PanelId)
  | windowExpiry (panel : PanelId)
  -- Measuring unit
  | scaleStep (scale : Scale) (up : Bool)
  | scaleError (scale : Scale)
  /-- the sense of the edge on the capture line -/
  | capture (rising : Bool)
  | captureTimeout
  /-- the settled input level of the seat sensor: high or low -/
  | seatFirstReading (levelHigh : Bool)
  | headSeated
  | headUnseated
  -- Demand sequencer and reservation table
  | cycleExpiry
  /-- the level to which the trigger input settled -/
  | triggerEdge (levelHigh : Bool)
  | reservationExpiry (requester : Nat) (cls : Nat)
  -- Receiver
  | dominantEdge
  /-- the width of the dominant pulse, in ns -/
  | startMarkRead (widthNs : Nat)
  | framingError (cause : FramingCause)
  /-- the level of the six strap pins as a number -/
  | resetEnds (straps : BitVec 6)
  deriving DecidableEq, Repr

end Sys2Proof
end

