-- ==== Sys2Proof/Machine/State.lean ====
section
/-! DEFINITION. What the TDN240 holds: the types of its tables, and `State`, block by block as
00_scope.md lists the blocks, with the queue of commands that wait. All of it is plain data. Where a rule
says that a field is present exactly in some state (R8, R84), the field stands in that state's constructor,
so the rule holds by construction. -/

namespace Sys2Proof.Machine

/-! ### Local port -/

/-- The node states (10, 10.6). -/
inductive NodeState where
  | unconfigured
  | configured
  | listening
  | online
  | listenOnly
  deriving DecidableEq, Repr

/-- The results of 10.2. The 255 of an idle read transaction is no result of a command. -/
inductive HostResult where
  | ok
  | notConfigured
  | badState
  | badStation
  | notOnline
  | busy
  | noSuchTool
  | toolExists
  | tableFull
  | noCallSlot
  | callPending
  | placeConflict
  | noAccess
  | noneAvailable
  | pocketFault
  | supplyLow
  | slotOccupied
  | noReference
  | referenceStale
  | regrindLimit
  | outOfRange
  | unknownCommand
  deriving DecidableEq, Repr

/-- A response in the response slot (R176): result byte and payload. -/
structure Response where
  result : HostResult
  payload : List Byte
  deriving DecidableEq, Repr

/-- The notice kinds, category by category in the order of 11.4. -/
inductive NoticeKind where
  | recordArrived | recordDeparted | recordChanged | callDone | calledWhilePlaced | recordInDoubt
  | offerDeclined | lateAccept | doubtSettled | duplicateCustody
  | forcedRemoval | serviceRemoved | pocketEmptied | unexpectedInsert | pocketFault
  | pocketFaultCleared | supplyLow | supplyNormal | accessOpened | accessClosed | accessDenied
  | keypadLocked | pocketOpened | issueDone | returnDone | serviceDone
  | headSeated | headUnseated | strayCapture | scaleError | referenceDone | measureDone
  | loadRefused | uncharged | lifeLow | lifeWorn | remeasureDue | lifeOverrun
  | cycleOverrun | demandDone | demandMet | reservationAdded | reservationFull | reservationServed
  | reservationEnded
  | txDiscarded | lineHeld | lineReleased | driverFault | duplicateStation | peerPresent
  | peerAbsent | peerDoubtful | nodeOnline
  deriving DecidableEq, Repr

/-- An entry of the notice queue (R179). -/
structure Notice where
  kind : NoticeKind
  object : BitVec 32
  argument : BitVec 32
  timestamp : Millis
  deriving DecidableEq, Repr

/-- The notice queue and its OVERFLOW flag (R179). -/
structure NoticeQueue where
  entries : List Notice
  overflow : Bool
  deriving DecidableEq, Repr

/-- The local port's own state (R175 to R183, R187). READY and ATTN are computed (Flags.lean). -/
structure Port where
  /-- the RESET pin is held, or power is not yet stable -/
  resetHeld : Bool
  /-- the number read from the strap pins (R183) -/
  station : BitVec 6
  nodeState : NodeState
  /-- the command whose frame waits in the command slot (R176) -/
  commandSlot : Option Instr
  response : Option Response
  /-- the bytes that the last read transaction shifted out (the data output, R175) -/
  dataOut : List Byte
  collision : Bool
  listenDeadline : Option Millis
  deriving DecidableEq, Repr

/-! ### Configuration -/

/-- The privileges of R104. -/
inductive Privilege where
  | issue
  | ret
  | both
  | service
  deriving DecidableEq, Repr

/-- An entry of the code table (R104). -/
structure CodeEntry where
  enabled : Bool
  digits : List Nat
  privilege : Privilege
  deriving DecidableEq, Repr

/-- The values that CONFIGURE loads (R184), each as stored after its treatment. -/
structure NodeConfig where
  pocketCount : Nat
  slotCount : Nat
  head : Bool
  lineRate : Nat
  beaconCode : Nat
  debounceMs : Nat
  pullInMs : Nat
  holdS : Nat
  sensorHigh : Bool
  captureRising : Bool
  triggerHigh : Bool
  lRef : Nat
  rRef : Nat
  alpha : Nat
  band : Nat
  codeTable : List CodeEntry
  /-- bits 0 to 5: custody, crib, measure, life, demand, line (R181) -/
  routing : BitVec 6
  deriving DecidableEq, Repr

/-! ### Tool records -/

/-- The verdicts of R6. -/
inductive Verdict where
  | within
  | outOfBand
  | runoutHigh
  | clamped
  deriving DecidableEq, Repr

/-- The measured block of R6. -/
structure Measured where
  length : Nat
  radius : Nat
  runout : Nat
  verdict : Verdict
  station : Nat
  temperature : Int
  kept : Nat
  lifeAtMeasure : Nat
  deriving DecidableEq, Repr

/-- The record image (R5, R6): the parts of a record that travel. -/
structure Image where
  toolId : ToolId
  cls : Nat
  nomLength : Nat
  lengthTol : Nat
  nomRadius : Nat
  radiusTol : Nat
  runoutLimit : Nat
  lifeLimit : Nat
  lifeUsed : Nat
  warnMargin : Nat
  remeasureInterval : Nat
  regrinds : Nat
  damaged : Bool
  measured : Option Measured
  deriving DecidableEq, Repr

/-- The custody part of R8: the counterpart station and the handoff number. -/
structure CustodyPart where
  counterpart : Nat
  handoff : Byte
  deriving DecidableEq, Repr

/-- The prior state of R8. -/
inductive Prior where
  | loose
  | missing
  deriving DecidableEq, Repr

/-- The eight record states of R9, each with its place and its local-only fields of R8: the check state
of an IN_DOUBT record is the deadline of its outstanding check, if any. -/
inductive RecordState where
  | stocked (pocket : Nat)
  | loaded (slot : Nat)
  | seated
  | measuring
  | loose
  | missing
  | outbound (part : CustodyPart) (prior : Prior)
  | inDoubt (part : CustodyPart) (prior : Prior) (check : Option Millis)
  deriving DecidableEq, Repr

/-- A held record (R8). -/
structure ToolRecord where
  image : Image
  state : RecordState
  deriving DecidableEq, Repr

/-! ### Hall line -/

/-- The line conditions of R26. -/
inductive LineCondition where
  | idle
  | receiving
  | transmitting
  | held
  deriving DecidableEq, Repr

/-- The receiver (R26, R36): it does not run until CONFIGURE, then waits for a start mark or assembles
the frame that a start mark opened. -/
inductive Receiver where
  | stopped
  | waiting
  | assembling
  deriving DecidableEq, Repr

/-- The nine frame kinds of section 2.3. -/
inductive FrameKind where
  | accept
  | decline
  | here
  | checkReply
  | call
  | offer
  | check
  | demand
  | presence
  deriving DecidableEq, Repr

/-- A valid frame in the receive queue (R38). -/
structure RxFrame where
  cls : BitVec 2
  kind : BitVec 4
  source : BitVec 6
  destination : BitVec 6
  payload : List Byte
  deriving DecidableEq, Repr

/-- Whose frame a queued frame is (R35, R62): the last CALL of a call slot (1 to 4), the last OFFER of an
outbound slot (1 to 4), the CHECK of a tool's record, the roster's PRESENCE, the DEMAND of the run, or none
of these (a reply, a withdrawal, a frame whose owner has asked for its removal). -/
inductive FrameOwner where
  | call (slot : Nat)
  | offer (slot : Nat)
  | check (tool : ToolId)
  | presence
  | demandRun
  | nobody
  deriving DecidableEq, Repr

/-- A frame in the transmit queue (R33) with its bit-error count (R31). While it is in transmission a
replacement of its payload and a removal wait for the end of the attempt (R35). -/
structure TxFrame where
  kind : FrameKind
  destination : Nat
  payload : List Byte
  owner : FrameOwner
  bitErrors : Nat
  /-- in transmission: the head fixed at the start of the attempt -/
  sending : Bool
  /-- the payload that later attempts carry, set while the frame was in transmission -/
  replacement : Option (List Byte)
  /-- the owner offers a new frame if that replacement is answered as not queued (R52, R162) -/
  reoffer : Bool
  /-- the frame leaves the queue when its attempt ends -/
  removeAfter : Bool
  deriving DecidableEq, Repr

/-- The line controller (02, R45). -/
structure Line where
  condition : LineCondition
  receiver : Receiver
  rxOverrun : Bool
  rxQueue : List RxFrame
  txQueue : List TxFrame
  driverDisabled : Bool
  duplicateSeen : Bool
  /-- the start of the dominant run that made the line HELD, in ns (R40) -/
  heldSince : Option Nat
  /-- the last whole frame that the node has sent, as it stood on the line (R27, R32, R183): the line's output -/
  lastSent : Option WireFrame
  deriving DecidableEq, Repr

/-! ### Roster -/

/-- The roster states of R46. -/
inductive PeerState where
  | unknown
  | present
  | absent
  deriving DecidableEq, Repr

/-- What a peer's PRESENCE announces: its functions and its beacon interval code (R46, 11.1). -/
structure Announced where
  pockets : Nat
  slots : Nat
  head : Bool
  beaconCode : Nat
  deriving DecidableEq, Repr

/-- A roster entry (R46). -/
structure Peer where
  state : PeerState
  announced : Option Announced
  lastHeard : Millis
  absence : Option Millis
  strikes : Nat
  doubtful : Bool
  deriving DecidableEq, Repr

/-- The roster: the entry of station n at index n - 1, and the beacon deadline (R52). -/
structure Roster where
  peers : List Peer
  beacon : Option Millis
  deriving DecidableEq, Repr

/-! ### Custody engine -/

/-- The purpose of a call: the place at this node where the tool stands (R58). -/
inductive Purpose where
  | pocket (number : Nat)
  | slot (number : Nat)
  | head
  deriving DecidableEq, Repr

/-- An open call slot (R58). Whether its last CALL is still queued is read off the transmit queue. -/
structure CallSlot where
  tool : ToolId
  purpose : Purpose
  tries : Nat
  deadline : Millis
  busyStation : Option Nat
  deriving DecidableEq, Repr

/-- A busy outbound slot (R59). Whether its last OFFER is still queued is read off the transmit queue. -/
structure OutSlot where
  tool : ToolId
  caller : Nat
  handoff : Byte
  tries : Nat
  deadline : Millis
  deriving DecidableEq, Repr

/-- An entry of the accepted list (R60). -/
structure Accepted where
  source : Nat
  handoff : Byte
  tool : ToolId
  deriving DecidableEq, Repr

/-- The custody engine (R58 to R61); slot n stands at index n - 1. -/
structure Custody where
  calls : List (Option CallSlot)
  outs : List (Option OutSlot)
  accepted : List Accepted
  handoff : Byte
  deriving DecidableEq, Repr

/-! ### Pocket bank -/

/-- A debounced sensor reading: of a pocket (R84) or of the head seat (R128). -/
inductive Reading where
  | unsettled
  | present
  | absent
  deriving DecidableEq, Repr

/-- The occupancy of a pocket (R84); HELD names the record STOCKED there. -/
inductive Occupancy where
  | empty
  | held (tool : ToolId)
  | unknown
  deriving DecidableEq, Repr

/-- The purposes of an open request (R89), which are also the kinds of a crib operation (R112). -/
inductive OpenPurpose where
  | issue
  | ret
  | service
  deriving DecidableEq, Repr

/-- The open purpose of a pocket with its panel (R84). -/
structure Opening where
  purpose : OpenPurpose
  panel : PanelId
  deriving DecidableEq, Repr

/-- The lock phase of R84, with the fields that are present in that phase only. -/
inductive Lock where
  | closed
  | queued (why : Opening)
  | pulling (why : Opening) (currentSeen : Bool)
  | holding (why : Opening) (deadline : Millis)
  deriving DecidableEq, Repr

/-- The latched lock faults of R84. -/
inductive LockFault where
  | none
  | openLoad
  | short
  deriving DecidableEq, Repr

/-- An entry of the pocket table (R84). -/
structure Pocket where
  presence : Reading
  occupancy : Occupancy
  lock : Lock
  fault : LockFault
  reservedFor : Option Nat
  deriving DecidableEq, Repr

/-- A pull-in slot that holds a PULLING pocket (R90, R91). -/
structure PullIn where
  pocket : Nat
  deadline : Millis
  deriving DecidableEq, Repr

/-- The lock supply (R94). -/
inductive Supply where
  | normal
  | low
  deriving DecidableEq, Repr

/-- The pocket bank: pocket p at index p - 1, the drive queue, pull-in slot n at index n - 1. -/
structure Bank where
  pockets : List Pocket
  queue : List Nat
  pullIns : List (Option PullIn)
  supply : Supply
  deriving DecidableEq, Repr

/-! ### Panel unit -/

/-- The reports of the pocket bank to the panel unit (R97). -/
inductive Report where
  | opened
  | taken
  | serviceRemoved
  | filled
  | forced
  | unexpectedInsert
  | holdExpired
  | driveFault
  | supplyLow
  | cancelled
  deriving DecidableEq, Repr

/-- The status of a pocket in an operation (R112). -/
inductive PocketStatus where
  | waiting
  | opened
  | ended (report : Report)
  deriving DecidableEq, Repr

/-- A pocket of an operation, its status, and whether it has reached OPEN (R112, R120). -/
structure OpPocket where
  pocket : Nat
  status : PocketStatus
  reachedOpen : Bool
  deriving DecidableEq, Repr

/-- The kind of an operation (R112); an ISSUE holds its class and for-station (0 for none). -/
inductive OpKind where
  | issue (cls : Nat) (forStation : Nat)
  | ret
  | service
  deriving DecidableEq, Repr

/-- A crib operation (R112). -/
structure Operation where
  kind : OpKind
  pockets : List OpPocket
  deriving DecidableEq, Repr

/-- An access window (R105). -/
structure Window where
  privilege : Privilege
  entry : Nat
  expiry : Millis
  deriving DecidableEq, Repr

/-- A panel (R105). -/
structure Panel where
  keys : List Nat
  interKey : Option Millis
  mismatches : Nat
  lockout : Option Millis
  window : Option Window
  operation : Option Operation
  deriving DecidableEq, Repr

/-- The two panels. -/
structure Panels where
  a : Panel
  b : Panel
  deriving DecidableEq, Repr

/-! ### Measuring unit -/

/-- A sample: both counters as latched (R127). -/
structure Sample where
  z : BitVec 32
  x : BitVec 32
  deriving DecidableEq, Repr

/-- The two kinds of run (R131, R133). -/
inductive RunKind where
  | reference
  | measurement (tool : ToolId)
  deriving DecidableEq, Repr

/-- An active run (R131, R133). -/
structure Run where
  kind : RunKind
  n : Nat
  t : Int
  deadline : Millis
  deriving DecidableEq, Repr

/-- The stored reference (R130). -/
structure Reference where
  valid : Bool
  z : BitVec 32
  x : BitVec 32
  t : Int
  deriving DecidableEq, Repr

/-- The measuring unit (07). -/
structure Head where
  z : BitVec 32
  x : BitVec 32
  seat : Reading
  scaleErrors : Nat
  reference : Reference
  run : Option Run
  samples : List Sample
  deriving DecidableEq, Repr

/-! ### Magazine unit -/

/-- The unfit reasons of R11. -/
inductive UnfitReason where
  | damaged
  | unmeasured
  | outOfBand
  | runoutHigh
  | clamped
  | worn
  | remeasureDue
  deriving DecidableEq, Repr

/-- The HERE reasons that close a call, and NOT_FIT (11.3, "Block reason"); NO_SLOT closes none. -/
inductive BlockReason where
  | inPlace
  | inUse
  | inTransit
  | inDoubt
  | peerDoubtful
  | notFit
  deriving DecidableEq, Repr

/-- The refusal causes of R145. -/
inductive RefusalCause where
  | unfit (reason : UnfitReason)
  | noAnswer
  | blocked (reason : BlockReason)
  | abandoned
  | dropped
  deriving DecidableEq, Repr

/-- A slot of the magazine with the fields of its state (R145). -/
inductive MagSlot where
  | empty
  | calling (tool : ToolId)
  | loaded (tool : ToolId)
  | refused (cause : RefusalCause)
  deriving DecidableEq, Repr

/-! ### Demand and reservations -/

/-- An entry of a demand list: a class and a count. -/
structure DemandEntry where
  cls : Nat
  count : Nat
  deriving DecidableEq, Repr

/-- The modes of R159; the interval is in seconds. -/
inductive DemandMode where
  | interval (seconds : Nat)
  | trigger
  deriving DecidableEq, Repr

/-- The demand sequencer (R159). Whether the run's last DEMAND is queued is read off the transmit queue. -/
structure Sequencer where
  list : List DemandEntry
  running : Bool
  mode : DemandMode
  target : Nat
  cycles : Nat
  hold : Nat
  deadline : Option Millis
  deriving DecidableEq, Repr

/-- A row of the reservation table (R166). Its marked count is counted off the pocket table. -/
structure Reservation where
  requester : Nat
  cls : Nat
  wanted : Nat
  expiry : Millis
  deriving DecidableEq, Repr

/-! ### The state -/

/-- The model's own input, no state of the chip: when a command frame that has entered the slot is taken. The spec
leaves that moment open (R176), so each answer is a free value. DESIGN CHOICE (log 28). -/
structure Delay where
  /-- a command frame that enters the slot now waits there, and one that waits there waits on -/
  later : Bool
  /-- how many of these answers have been drawn -/
  draws : Nat
  deriving DecidableEq, Repr

/-- The whole state of a node, and the commands that wait, first in first out. -/
structure State where
  pending : List Instr
  now : Millis
  delay : Delay
  port : Port
  notices : NoticeQueue
  config : NodeConfig
  records : List ToolRecord
  line : Line
  roster : Roster
  custody : Custody
  bank : Bank
  panels : Panels
  head : Head
  magazine : List MagSlot
  demand : Sequencer
  reservations : List Reservation
  deriving DecidableEq, Repr

/-- The faults of the model: NONE. The spec gives every command an effect in every state, so no command
stops the machine and the type has no constructor. Nothing raises a fault: safe. -/
inductive Fault where
  deriving DecidableEq, Repr

/-- The refusals of the model. -/
inductive Refusal where
  /-- raised by an arm of `exec` for a command that has no meaning yet, and by no meaning; safe, since the
  machine stops. No arm raises it now. -/
  | notModelled (mnemonic : String)
  deriving DecidableEq, Repr

/-- What a step answers. -/
abbrev StepOutcome := Host.Outcome State Fault Refusal

/-! ### Reset values -/

/-- The port's reset values (R187), while the reset is still held; the station number is read when it
ends. DESIGN CHOICE (log 2): station 0 until then. -/
def Port.atReset : Port where
  resetHeld := true
  station := 0
  nodeState := .unconfigured
  commandSlot := none
  response := none
  dataOut := []
  collision := false
  listenDeadline := none

/-- "No configuration value is held" (R187). DESIGN CHOICE (log 3): zeros stand for it. The routing mask
enables no category, as R181 states. -/
def NodeConfig.atReset : NodeConfig where
  pocketCount := 0
  slotCount := 0
  head := false
  lineRate := 0
  beaconCode := 0
  debounceMs := 0
  pullInMs := 0
  holdS := 0
  sensorHigh := false
  captureRising := false
  triggerHigh := false
  lRef := 0
  rRef := 0
  alpha := 0
  band := 0
  codeTable := []
  routing := 0

/-- The line controller after reset (R45, R26). -/
def Line.atReset : Line where
  condition := .idle
  receiver := .stopped
  rxOverrun := false
  rxQueue := []
  txQueue := []
  driverDisabled := false
  duplicateSeen := false
  heldSince := none
  lastSent := none

/-- A roster entry after reset and after REJOIN (R46). -/
def Peer.atReset : Peer where
  state := .unknown
  announced := none
  lastHeard := 0
  absence := none
  strikes := 0
  doubtful := false

/-- The roster after reset (R46). -/
def Roster.atReset : Roster where
  peers := List.replicate Config.stations Peer.atReset
  beacon := none

/-- The custody engine after reset (R83). -/
def Custody.atReset : Custody where
  calls := List.replicate Config.callSlots none
  outs := List.replicate Config.outboundSlots none
  accepted := []
  handoff := 0

/-- The pocket bank after reset (R85). -/
def Bank.atReset : Bank where
  pockets := []
  queue := []
  pullIns := List.replicate Config.pullInSlots none
  supply := .normal

/-- A pocket entry as CONFIGURE creates it (R85). -/
def Pocket.fresh : Pocket where
  presence := .unsettled
  occupancy := .unknown
  lock := .closed
  fault := .none
  reservedFor := none

/-- A panel after reset (R105). -/
def Panel.atReset : Panel where
  keys := []
  interKey := none
  mismatches := 0
  lockout := none
  window := none
  operation := none

/-- The reference after reset (R130): not valid, its values 0. -/
def Reference.atReset : Reference where
  valid := false
  z := 0
  x := 0
  t := 0

/-- The measuring unit after reset (R144). -/
def Head.atReset : Head where
  z := 0
  x := 0
  seat := .unsettled
  scaleErrors := 0
  reference := Reference.atReset
  run := none
  samples := []

/-- The demand sequencer after reset (R159). DESIGN CHOICE (log 4): mode INTERVAL with interval 0, target
0 and hold time 0, for which the spec gives no reset value. -/
def Sequencer.atReset : Sequencer where
  list := []
  running := false
  mode := .interval 0
  target := 0
  cycles := 0
  hold := 0
  deadline := none

/-- The node right after the RESET command (R187): every block at its reset values, the reset still held. The
RESET_ENDS event follows, which starts the count from 0 and reads the straps. -/
def State.reset : State where
  pending := []
  now := 0
  delay := { later := false, draws := 0 }
  port := Port.atReset
  notices := { entries := [], overflow := false }
  config := NodeConfig.atReset
  records := []
  line := Line.atReset
  roster := Roster.atReset
  custody := Custody.atReset
  bank := Bank.atReset
  panels := { a := Panel.atReset, b := Panel.atReset }
  head := Head.atReset
  magazine := []
  demand := Sequencer.atReset
  reservations := []

end Sys2Proof.Machine
end

