-- ==== Sys2Proof/Machine/Operands.lean ====
section
/-! DEFINITION. The operand forms: the codes and byte layouts of 11_formats.md, the parsing of what a peer or
the host sends, the range checks and clamps of R7 and R184, and the CRC of R189. -/

namespace Sys2Proof.Machine

/-! ### Bytes and numbers (R188) -/

/-- `width` bytes of n, most significant first (R188). -/
def beBytes : Nat → Nat → List Byte
  | 0, _ => []
  | w + 1, n => BitVec.ofNat 8 (n >>> (8 * w)) :: beBytes w n

/-- The number that bytes spell, most significant first (R188). -/
def beNat (bytes : List Byte) : Nat :=
  bytes.foldl (fun acc b => acc * 256 + b.toNat) 0

/-- One byte. -/
def byte (n : Nat) : List Byte := beBytes 1 n

/-- A flag: 1 for yes and 0 for no (11.3). -/
def flagByte (b : Bool) : List Byte := byte (if b then 1 else 0)

/-- A none item of this width: every byte 255 (11.3). -/
def noneBytes (width : Nat) : List Byte := List.replicate width 255

/-- A 32-bit word as four bytes. -/
def wordBytes (w : BitVec 32) : List Byte := beBytes 4 w.toNat

/-- A temperature as two bytes in two's complement (R188). -/
def tempBytes (t : Int) : List Byte := beBytes 2 (BitVec.ofInt 16 t).toNat

/-- An item of this width, or its none form of 255s (11.3). -/
def orNone (width : Nat) (v : Option Nat) : List Byte :=
  match v with
  | some n => beBytes width n
  | none => noneBytes width

/-- An item of this width, or its none form of 0 (11.3: ids, places, positions and counts). -/
def orZero (width : Nat) (v : Option Nat) : List Byte := beBytes width (v.getD 0)

/-- The number at a byte offset of a payload, `width` bytes wide. -/
def field (bytes : List Byte) (offset width : Nat) : Nat := beNat ((bytes.drop offset).take width)

/-- A quantity clamped to a range. -/
def clampNat (lo hi n : Nat) : Nat := max lo (min hi n)

/-- A temperature clamped to its range (00_scope.md, "Units and ranges"). -/
def clampTemp (t : Int) : Int := max (-1000) (min 5000 t)

/-- The distance of two quantities. -/
def absDiff (a b : Nat) : Nat := (a - b) + (b - a)

/-! ### Codes (11.3, 11.4) -/

/-- The result codes of 10.2. -/
def HostResult.code : HostResult → Nat
  | .ok => 0
  | .notConfigured => 1
  | .badState => 2
  | .badStation => 3
  | .notOnline => 4
  | .busy => 5
  | .noSuchTool => 6
  | .toolExists => 7
  | .tableFull => 8
  | .noCallSlot => 9
  | .callPending => 10
  | .placeConflict => 11
  | .noAccess => 12
  | .noneAvailable => 13
  | .pocketFault => 14
  | .supplyLow => 15
  | .slotOccupied => 16
  | .noReference => 17
  | .referenceStale => 18
  | .regrindLimit => 19
  | .outOfRange => 20
  | .unknownCommand => 21

/-- The notice categories (R181), numbered as the bits of the routing mask. -/
inductive Category where
  | custody
  | crib
  | measure
  | life
  | demand
  | line
  deriving DecidableEq, Repr

/-- The bit of a category in the routing mask (11.3, CONFIGURE byte 60). -/
def Category.bit : Category → Nat
  | .custody => 0
  | .crib => 1
  | .measure => 2
  | .life => 3
  | .demand => 4
  | .line => 5

/-- The base of a category's notice kinds (11.4). -/
def Category.base : Category → Nat
  | .custody => 1
  | .crib => 32
  | .measure => 64
  | .life => 80
  | .demand => 96
  | .line => 112

/-- The category of a notice kind and its position there (11.4). -/
def NoticeKind.rank : NoticeKind → Category × Nat
  | .recordArrived => (.custody, 0)
  | .recordDeparted => (.custody, 1)
  | .recordChanged => (.custody, 2)
  | .callDone => (.custody, 3)
  | .calledWhilePlaced => (.custody, 4)
  | .recordInDoubt => (.custody, 5)
  | .offerDeclined => (.custody, 6)
  | .lateAccept => (.custody, 7)
  | .doubtSettled => (.custody, 8)
  | .duplicateCustody => (.custody, 9)
  | .forcedRemoval => (.crib, 0)
  | .serviceRemoved => (.crib, 1)
  | .pocketEmptied => (.crib, 2)
  | .unexpectedInsert => (.crib, 3)
  | .pocketFault => (.crib, 4)
  | .pocketFaultCleared => (.crib, 5)
  | .supplyLow => (.crib, 6)
  | .supplyNormal => (.crib, 7)
  | .accessOpened => (.crib, 8)
  | .accessClosed => (.crib, 9)
  | .accessDenied => (.crib, 10)
  | .keypadLocked => (.crib, 11)
  | .pocketOpened => (.crib, 12)
  | .issueDone => (.crib, 13)
  | .returnDone => (.crib, 14)
  | .serviceDone => (.crib, 15)
  | .headSeated => (.measure, 0)
  | .headUnseated => (.measure, 1)
  | .strayCapture => (.measure, 2)
  | .scaleError => (.measure, 3)
  | .referenceDone => (.measure, 4)
  | .measureDone => (.measure, 5)
  | .loadRefused => (.life, 0)
  | .uncharged => (.life, 1)
  | .lifeLow => (.life, 2)
  | .lifeWorn => (.life, 3)
  | .remeasureDue => (.life, 4)
  | .lifeOverrun => (.life, 5)
  | .cycleOverrun => (.demand, 0)
  | .demandDone => (.demand, 1)
  | .demandMet => (.demand, 2)
  | .reservationAdded => (.demand, 3)
  | .reservationFull => (.demand, 4)
  | .reservationServed => (.demand, 5)
  | .reservationEnded => (.demand, 6)
  | .txDiscarded => (.line, 0)
  | .lineHeld => (.line, 1)
  | .lineReleased => (.line, 2)
  | .driverFault => (.line, 3)
  | .duplicateStation => (.line, 4)
  | .peerPresent => (.line, 5)
  | .peerAbsent => (.line, 6)
  | .peerDoubtful => (.line, 7)
  | .nodeOnline => (.line, 8)

/-- The kind code of a notice (11.4): NODE_ONLINE, for one, is 120. -/
def NoticeKind.code (k : NoticeKind) : Nat := k.rank.1.base + k.rank.2

/-- The category of a notice (R181). -/
def NoticeKind.category (k : NoticeKind) : Category := k.rank.1

/-- Node state codes (11.3, READ_STATUS byte 1). -/
def NodeState.code : NodeState → Nat
  | .unconfigured => 0
  | .configured => 1
  | .listening => 2
  | .online => 3
  | .listenOnly => 4

/-- Line condition codes (11.3, READ_STATUS byte 2). -/
def LineCondition.code : LineCondition → Nat
  | .idle => 0
  | .receiving => 1
  | .transmitting => 2
  | .held => 3

/-- Frame kind codes (section 2.3). -/
def FrameKind.code : FrameKind → Nat
  | .accept => 1
  | .decline => 2
  | .here => 3
  | .checkReply => 4
  | .call => 5
  | .offer => 6
  | .check => 7
  | .demand => 8
  | .presence => 9

/-- The frame kind of a code, if it is assigned (section 2.3). -/
def FrameKind.ofCode (n : Nat) : Option FrameKind :=
  [.accept, .decline, .here, .checkReply, .call, .offer, .check, .demand, .presence].find?
    (fun k => k.code == n)

/-- The priority class of a kind (R27). -/
def FrameKind.cls : FrameKind → Nat
  | .accept | .decline | .here | .checkReply => 0
  | .call | .offer | .check => 1
  | .demand => 2
  | .presence => 3

/-- The payload lengths of a kind (section 2.3). -/
def FrameKind.lengthOk : FrameKind → Nat → Bool
  | .accept, n | .here, n | .check, n => n == 5
  | .decline, n | .checkReply, n | .call, n => n == 6
  | .offer, n => n == 32 || n == 48
  | .demand, n => n % 3 == 1 && n ≤ 25
  | .presence, n => n == 3

/-- Whether the destination suits the kind (R39): 63 for CALL, DEMAND and PRESENCE, 1 to 62 otherwise. -/
def FrameKind.destinationOk : FrameKind → Nat → Bool
  | .call, n | .demand, n | .presence, n => n == 63
  | _, n => 1 ≤ n && n ≤ 62

/-- Record state codes (11.3). -/
def RecordState.code : RecordState → Nat
  | .stocked _ => 1
  | .loaded _ => 2
  | .seated => 3
  | .measuring => 4
  | .loose => 5
  | .missing => 6
  | .outbound _ _ => 7
  | .inDoubt _ _ _ => 8

/-- The place of a record as its state fixes it (R9), in the two bytes of 11.3. -/
def RecordState.placeCode : RecordState → Nat × Nat
  | .stocked p => (1, p)
  | .loaded n => (2, n)
  | .seated | .measuring => (3, 0)
  | _ => (0, 0)

/-- The prior state as a record state code (11.3). -/
def Prior.code : Prior → Nat
  | .loose => 5
  | .missing => 6

/-- The state that a prior state stands for (R8). -/
def Prior.toState : Prior → RecordState
  | .loose => .loose
  | .missing => .missing

/-- The custody part of a record, present in OUTBOUND and IN_DOUBT only (R8). -/
def RecordState.custodyPart : RecordState → Option CustodyPart
  | .outbound c _ | .inDoubt c _ _ => some c
  | _ => none

/-- The prior state of a record, present together with the custody part (R8). -/
def RecordState.prior : RecordState → Option Prior
  | .outbound _ p | .inDoubt _ p _ => some p
  | _ => none

/-- The deadline of the outstanding check, in IN_DOUBT only (R8). -/
def RecordState.check : RecordState → Option Millis
  | .inDoubt _ _ d => d
  | _ => none

/-- Verdict codes (11.2). -/
def Verdict.code : Verdict → Nat
  | .within => 0
  | .outOfBand => 1
  | .runoutHigh => 2
  | .clamped => 3

/-- The verdict of a code; a code above 3 is stored as CLAMPED (R190). -/
def Verdict.ofCode : Nat → Verdict
  | 0 => .within
  | 1 => .outOfBand
  | 2 => .runoutHigh
  | _ => .clamped

/-- Privilege codes (11.3). -/
def Privilege.code : Privilege → Nat
  | .issue => 0
  | .ret => 1
  | .both => 2
  | .service => 3

/-- The privilege of a two-bit code (11.3). -/
def Privilege.ofCode : Nat → Privilege
  | 0 => .issue
  | 1 => .ret
  | 2 => .both
  | _ => .service

/-- Presence and seat reading codes (11.3). -/
def Reading.code : Reading → Nat
  | .unsettled => 0
  | .present => 1
  | .absent => 2

/-- Occupancy codes (11.3). -/
def Occupancy.code : Occupancy → Nat
  | .empty => 0
  | .held _ => 1
  | .unknown => 2

/-- Lock phase codes (11.3). -/
def Lock.code : Lock → Nat
  | .closed => 0
  | .queued _ => 1
  | .pulling _ _ => 2
  | .holding _ _ => 3

/-- Fault codes (11.3). -/
def LockFault.code : LockFault → Nat
  | .none => 0
  | .openLoad => 1
  | .short => 2

/-- Supply state codes (11.3). -/
def Supply.code : Supply → Nat
  | .normal => 0
  | .low => 1

/-- Open purpose codes, which are also the operation kind codes (11.3). -/
def OpenPurpose.code : OpenPurpose → Nat
  | .issue => 1
  | .ret => 2
  | .service => 3

/-- Panel codes (11.3). -/
def panelCode : PanelId → Nat
  | .a => 1
  | .b => 2

/-- The panel of a byte; any value but 1 and 2 is out of range (11.3). -/
def panelOf (b : Byte) : Option PanelId :=
  if b = 1 then some .a else if b = 2 then some .b else none

/-- Pocket-bank report codes (11.3). -/
def Report.code : Report → Nat
  | .opened => 1
  | .taken => 2
  | .serviceRemoved => 3
  | .filled => 4
  | .forced => 5
  | .unexpectedInsert => 6
  | .holdExpired => 7
  | .driveFault => 8
  | .supplyLow => 9
  | .cancelled => 10

/-- A pocket status in two bytes (11.3). -/
def PocketStatus.bytes : PocketStatus → List Byte
  | .waiting => byte 0 ++ byte 0
  | .opened => byte 1 ++ byte 0
  | .ended r => byte 2 ++ byte r.code

/-- The purpose of an operation kind. -/
def OpKind.purpose : OpKind → OpenPurpose
  | .issue _ _ => .issue
  | .ret => .ret
  | .service => .service

/-- Slot state codes (11.3). -/
def MagSlot.code : MagSlot → Nat
  | .empty => 0
  | .calling _ => 1
  | .loaded _ => 2
  | .refused _ => 3

/-- Unfit reason codes; 0 stands for none (11.3). -/
def UnfitReason.code : UnfitReason → Nat
  | .damaged => 1
  | .unmeasured => 2
  | .outOfBand => 3
  | .runoutHigh => 4
  | .clamped => 5
  | .worn => 6
  | .remeasureDue => 7

/-- Block reason codes (11.3): the HERE reason codes, and 7 for NOT_FIT. -/
def BlockReason.code : BlockReason → Nat
  | .inPlace => 1
  | .inUse => 2
  | .inTransit => 3
  | .inDoubt => 4
  | .peerDoubtful => 5
  | .notFit => 7

/-- The HERE reason code of NO_SLOT (11.1), which closes no call. -/
def noSlotCode : Nat := 6

/-- The block reason of a HERE reason code other than NO_SLOT (11.1). -/
def BlockReason.ofHere : Nat → Option BlockReason
  | 1 => some .inPlace
  | 2 => some .inUse
  | 3 => some .inTransit
  | 4 => some .inDoubt
  | 5 => some .peerDoubtful
  | _ => none

/-- A refusal cause in two bytes (11.3). -/
def RefusalCause.bytes : RefusalCause → List Byte
  | .unfit r => byte 1 ++ byte r.code
  | .noAnswer => byte 2 ++ byte 0
  | .blocked r => byte 3 ++ byte r.code
  | .abandoned => byte 4 ++ byte 0
  | .dropped => byte 5 ++ byte 0

/-- The DECLINE reasons (R75, 11.1). -/
inductive DeclineReason where
  | peerDoubtful
  | notFit
  | alreadyHeld
  | notCalled
  deriving DecidableEq, Repr

/-- DECLINE reason codes (11.1). -/
def DeclineReason.code : DeclineReason → Nat
  | .peerDoubtful => 1
  | .notFit => 2
  | .alreadyHeld => 3
  | .notCalled => 4

/-- The CHECK_REPLY answers (R81). -/
inductive CheckAnswer where
  | holding
  | passed
  | unknown
  deriving DecidableEq, Repr

/-- CHECK_REPLY answer codes (11.1). -/
def CheckAnswer.code : CheckAnswer → Nat
  | .holding => 1
  | .passed => 2
  | .unknown => 3

/-- The outcomes of a call with what CALL_DONE and the magazine slot need of them (R65). -/
inductive CallOutcome where
  | taken
  | noAnswer
  | blocked (reason : BlockReason)
  | withdrawn
  | abandoned
  deriving DecidableEq, Repr

/-- CALL_DONE outcome codes (11.4). -/
def CallOutcome.code : CallOutcome → Nat
  | .taken => 1
  | .noAnswer => 2
  | .blocked _ => 3
  | .withdrawn => 4
  | .abandoned => 5

/-- CALL_DONE reason codes (11.4). -/
def CallOutcome.reasonCode : CallOutcome → Nat
  | .blocked r => r.code
  | _ => 0

/-- The causes of RECORD_IN_DOUBT (11.4). -/
inductive DoubtCause where
  | retries
  | absent
  | rejoin
  deriving DecidableEq, Repr

/-- RECORD_IN_DOUBT cause codes (11.4). -/
def DoubtCause.code : DoubtCause → Nat
  | .retries => 1
  | .absent => 2
  | .rejoin => 3

/-- The causes of ACCESS_CLOSED (R111). -/
inductive CloseCause where
  | expired
  | used
  | clear
  | lockout
  deriving DecidableEq, Repr

/-- ACCESS_CLOSED cause codes (11.4). -/
def CloseCause.code : CloseCause → Nat
  | .expired => 1
  | .used => 2
  | .clear => 3
  | .lockout => 4

/-- The outcomes of a crib operation (R116, R118, R120). -/
inductive OpOutcome where
  | taken
  | notTaken
  | forced
  | driveFault
  | supplyLow
  | cancelled
  | placed
  | notPlaced
  | completed
  deriving DecidableEq, Repr

/-- Operation outcome codes (11.4). -/
def OpOutcome.code : OpOutcome → Nat
  | .taken => 1
  | .notTaken => 2
  | .forced => 3
  | .driveFault => 4
  | .supplyLow => 5
  | .cancelled => 6
  | .placed => 7
  | .notPlaced => 8
  | .completed => 9

/-- The outcomes of a run (R131, R135). -/
inductive RunOutcome where
  | verdict (v : Verdict)
  | sparse
  | timeout
  | aborted
  | unseated
  | scaleError
  | done
  | displaced
  deriving DecidableEq, Repr

/-- Run outcome codes (11.4). -/
def RunOutcome.code : RunOutcome → Nat
  | .verdict v => v.code
  | .sparse => 4
  | .timeout => 5
  | .aborted => 6
  | .unseated => 7
  | .scaleError => 8
  | .done => 9
  | .displaced => 10

/-- SCALE_ERROR scale codes (11.4). -/
def scaleCode : Scale → Nat
  | .z => 1
  | .x => 2

/-- The causes of RESERVATION_ENDED (R168, R172). -/
inductive EndCause where
  | withdrawn
  | expired
  | absent
  deriving DecidableEq, Repr

/-- RESERVATION_ENDED cause codes (11.4). -/
def EndCause.code : EndCause → Nat
  | .withdrawn => 1
  | .expired => 2
  | .absent => 3

/-- TX_DISCARDED cause codes (11.4). -/
inductive DiscardCause where
  | bitErrors
  | queueFull
  deriving DecidableEq, Repr

/-- TX_DISCARDED cause codes (11.4). -/
def DiscardCause.code : DiscardCause → Nat
  | .bitErrors => 1
  | .queueFull => 2

/-- Roster state codes (11.3). -/
def PeerState.code : PeerState → Nat
  | .unknown => 0
  | .present => 1
  | .absent => 2

/-! ### The PRESENCE payload and the functions item (11.1, 11.3) -/

/-- The three bytes of a PRESENCE payload (11.1). -/
def presenceBytes (a : Announced) : List Byte :=
  byte a.pockets ++ byte a.slots ++ byte ((if a.head then 128 else 0) + a.beaconCode % 4)

/-- The functions and interval item: the PRESENCE payload, or 255s when not announced (11.3). -/
def functionsBytes (a : Option Announced) : List Byte :=
  match a with
  | some a => presenceBytes a
  | none => noneBytes 3

/-- What a PRESENCE payload announces; bits 6 to 2 of byte 2 are ignored (R188). -/
def parsePresence (payload : List Byte) : Announced where
  pockets := field payload 0 1
  slots := field payload 1 1
  head := 128 ≤ field payload 2 1
  beaconCode := field payload 2 1 % 4

/-- Whether a PRESENCE's counts are in range (R47). -/
def Announced.inRange (a : Announced) : Bool := a.pockets ≤ 48 && a.slots ≤ 64

/-- The beacon interval of a code in ms (R52). -/
def beaconMs (code : Nat) : Nat := 250 * 2 ^ code

/-! ### Custody payloads (11.1) -/

/-- The tool id at the start of a payload. -/
def toolAt (payload : List Byte) : ToolId := BitVec.ofNat 32 (field payload 0 4)

/-- The byte at an offset of a payload. -/
def byteAt (payload : List Byte) (offset : Nat) : Byte := BitVec.ofNat 8 (field payload offset 1)

/-- The purpose of a CALL payload, if its kind and number are in range (R63, 11.1). -/
def parsePurpose (kind number : Nat) : Option Purpose :=
  if kind = 1 then (if 1 ≤ number ∧ number ≤ 48 then some (.pocket number) else none)
  else if kind = 2 then (if 1 ≤ number ∧ number ≤ 64 then some (.slot number) else none)
  else if kind = 3 then some .head
  else none

/-- A purpose in two bytes; the number of the head is sent as 0. DEDUCED (log 13). -/
def purposeBytes : Purpose → List Byte
  | .pocket p => byte 1 ++ byte p
  | .slot n => byte 2 ++ byte n
  | .head => byte 3 ++ byte 0

/-- The CALL payload (11.1). -/
def callPayload (tool : ToolId) (why : Purpose) : List Byte := wordBytes tool ++ purposeBytes why

/-- The payload of ACCEPT and of CHECK (11.1). -/
def handoffPayload (tool : ToolId) (h : Byte) : List Byte := wordBytes tool ++ [h]

/-- The payload of DECLINE and of CHECK_REPLY (11.1). -/
def answerPayload (tool : ToolId) (h : Byte) (code : Nat) : List Byte :=
  wordBytes tool ++ [h] ++ byte code

/-- The HERE payload (11.1). -/
def herePayload (tool : ToolId) (code : Nat) : List Byte := wordBytes tool ++ byte code

/-- The DEMAND payload (11.1). -/
def demandPayload (hold : Nat) (list : List DemandEntry) : List Byte :=
  byte hold ++ list.flatMap (fun e => beBytes 2 e.cls ++ byte e.count)

/-- The entries of a DEMAND payload behind its hold time, three bytes each (11.1). -/
def parseEntries : List Byte → List DemandEntry
  | a :: b :: c :: rest => { cls := beNat [a, b], count := c.toNat } :: parseEntries rest
  | _ => []

/-! ### The record image (11.2, R7, R190) -/

/-- A measured block as received, its verdict still a code. -/
structure RawBlock where
  length : Nat
  radius : Nat
  runout : Nat
  verdictCode : Nat
  station : Nat
  temperature : Int
  kept : Nat
  lifeAtMeasure : Nat
  deriving DecidableEq, Repr

/-- An image as received: the fields of bytes 0 to 30, and the measured block if there is one. -/
structure RawImage where
  base : Image
  block : Option RawBlock
  deriving DecidableEq, Repr

/-- The fields of bytes 0 to 30 of an image (11.2); bits 5 and 4 of byte 30 are ignored (R188). -/
def parseBase (b : List Byte) : Image where
  toolId := toolAt b
  cls := field b 4 2
  nomLength := field b 6 3
  lengthTol := field b 9 2
  nomRadius := field b 11 3
  radiusTol := field b 14 2
  runoutLimit := field b 16 2
  lifeLimit := field b 18 3
  lifeUsed := field b 21 3
  warnMargin := field b 24 3
  remeasureInterval := field b 27 3
  regrinds := field b 30 1 % 16
  damaged := (byteAt b 30).getLsbD 6
  measured := none

/-- The measured block of bytes 31 to 46 (11.2). -/
def parseBlock (b : List Byte) : RawBlock where
  length := field b 31 3
  radius := field b 34 3
  runout := field b 37 2
  verdictCode := field b 39 1
  station := field b 40 1
  temperature := (BitVec.ofNat 16 (field b 41 2)).toInt
  kept := field b 43 1
  lifeAtMeasure := field b 44 3

/-- Whether bit 7 of byte 30 announces a measured block (11.2). -/
def blockBit (b : List Byte) : Bool := (byteAt b 30).getLsbD 7

/-- Whether the length of an image agrees with its measured-block bit (11.2, R63, R190). -/
def imageLengthOk (b : List Byte) : Bool := b.length == (if blockBit b then 47 else 31)

/-- An image with its measured block, if its bit announces one (11.2). -/
def parseImage (b : List Byte) : RawImage where
  base := parseBase b
  block := if blockBit b then some (parseBlock b) else none

/-- The 31 or 47 bytes of an image (11.2). -/
def imageBytes (i : Image) : List Byte :=
  wordBytes i.toolId ++ beBytes 2 i.cls ++ beBytes 3 i.nomLength ++ beBytes 2 i.lengthTol
    ++ beBytes 3 i.nomRadius ++ beBytes 2 i.radiusTol ++ beBytes 2 i.runoutLimit
    ++ beBytes 3 i.lifeLimit ++ beBytes 3 i.lifeUsed ++ beBytes 3 i.warnMargin
    ++ beBytes 3 i.remeasureInterval
    ++ byte ((if i.measured.isSome then 128 else 0) + (if i.damaged then 64 else 0) + i.regrinds % 16)
    ++ (match i.measured with
        | none => []
        | some m => beBytes 3 m.length ++ beBytes 3 m.radius ++ beBytes 2 m.runout
            ++ byte m.verdict.code ++ byte m.station ++ tempBytes m.temperature ++ byte m.kept
            ++ beBytes 3 m.lifeAtMeasure)

/-- Whether an image from the hall line has every field in its range (R5, R6, R7, R190). -/
def RawImage.inRange (r : RawImage) : Bool :=
  r.base.toolId != 0 && r.base.cls != 0
    && r.base.nomLength ≤ Config.lengthMax && r.base.nomRadius ≤ Config.radiusMax
    && 1 ≤ r.base.lifeLimit && r.base.lifeLimit ≤ Config.lifeMax
    && r.base.lifeUsed ≤ r.base.lifeLimit && r.base.warnMargin ≤ r.base.lifeLimit
    && r.base.remeasureInterval ≤ Config.lifeMax
    && (match r.block with
        | none => true
        | some m => m.length ≤ Config.lengthMax && m.radius ≤ Config.radiusMax && m.verdictCode ≤ 3
            && 1 ≤ m.station && m.station ≤ 62 && (-1000) ≤ m.temperature && m.temperature ≤ 5000
            && 3 ≤ m.kept && m.kept ≤ 32 && m.lifeAtMeasure ≤ r.base.lifeUsed)

/-- Whether an image from the host names identifiers outside their range (R7). -/
def RawImage.badIdentifier (r : RawImage) : Bool :=
  r.base.toolId == 0 || r.base.cls == 0
    || (match r.block with
        | none => false
        | some m => m.station == 0 || 62 < m.station)

/-- The nominal and life fields of a host image, clamped to their ranges (R7). -/
def clampBase (i : Image) : Image :=
  let limit := clampNat 1 Config.lifeMax i.lifeLimit
  { i with
    nomLength := min i.nomLength Config.lengthMax
    nomRadius := min i.nomRadius Config.radiusMax
    lifeLimit := limit
    lifeUsed := min i.lifeUsed limit
    warnMargin := min i.warnMargin limit
    remeasureInterval := min i.remeasureInterval Config.lifeMax }

/-- The verdict that agrees with the nominal data of its own image (R7, the three steps after the range
checks); the flag says that a clamp changed the measured length or radius. -/
def agreedVerdict (i : Image) (clampChanged : Bool) (m : Measured) : Verdict :=
  if clampChanged then .clamped
  else if m.verdict = .within ∧ i.runoutLimit < m.runout then .runoutHigh
  else if m.verdict = .within
      ∧ (i.lengthTol < absDiff m.length i.nomLength ∨ i.radiusTol < absDiff m.radius i.nomRadius) then
    .outOfBand
  else m.verdict

/-- A block with these measured values stored under an image, its verdict brought into agreement (R7). -/
def withBlock (i : Image) (clampChanged : Bool) (m : Measured) : Image :=
  { i with measured := some { m with verdict := agreedVerdict i clampChanged m } }

/-- The block of a raw image as it stands. -/
def RawBlock.toMeasured (m : RawBlock) : Measured where
  length := m.length
  radius := m.radius
  runout := m.runout
  verdict := Verdict.ofCode m.verdictCode
  station := m.station
  temperature := m.temperature
  kept := m.kept
  lifeAtMeasure := m.lifeAtMeasure

/-- Taking in an image from the hall line, already in range (R7). -/
def RawImage.lineIntake (r : RawImage) : Image :=
  match r.block with
  | none => { r.base with measured := none }
  | some m => withBlock r.base false m.toMeasured

/-- A host block clamped to its ranges, with the clamped life used of its image (R7). -/
def clampBlock (lifeUsed : Nat) (m : RawBlock) : Measured :=
  { m.toMeasured with
    length := min m.length Config.lengthMax
    radius := min m.radius Config.radiusMax
    temperature := clampTemp m.temperature
    kept := clampNat 3 32 m.kept
    lifeAtMeasure := min m.lifeAtMeasure lifeUsed }

/-- Taking in an image from the host (R7): clamped, then brought into agreement. -/
def RawImage.hostIntake (r : RawImage) : Image :=
  let base := clampBase r.base
  match r.block with
  | none => { base with measured := none }
  | some m =>
    withBlock base (Config.lengthMax < m.length || Config.radiusMax < m.radius)
      (clampBlock base.lifeUsed m)

/-! ### CONFIGURE (R184, 11.3, R104) -/

/-- The i-th digit (from 0) of the four digit bytes of a code entry: two per byte, high half first. -/
def codeDigit (entry : List Byte) (i : Nat) : Nat :=
  let b := field entry (1 + i / 2) 1
  if i % 2 = 0 then b / 16 else b % 16

/-- Whether a code entry was sent enabled (11.3). -/
def codeSentEnabled (entry : List Byte) : Bool := (byteAt entry 0).getLsbD 7

/-- A code entry from its five bytes (11.3): one with a digit count outside 4 to 8, or a digit above 9
within the count, is stored as disabled (R104). -/
def parseCode (entry : List Byte) : CodeEntry :=
  let head := field entry 0 1
  let count := head % 16
  let digits := (List.range count).map (codeDigit entry)
  { enabled := codeSentEnabled entry && 4 ≤ count && count ≤ 8 && digits.all (· ≤ 9)
    digits := digits
    privilege := Privilege.ofCode (head / 16 % 4) }

/-- The five bytes of entry i (from 0) of the code table in a CONFIGURE payload (11.3). -/
def codeBytes (payload : List Byte) (i : Nat) : List Byte := (payload.drop (20 + 5 * i)).take 5

/-- The debounce time: rounded down to a multiple of 5, then clamped to 5 to 80 (R86). -/
def treatDebounce (n : Nat) : Nat := clampNat 5 80 (n / 5 * 5)

/-- A field of which 0 selects a default, otherwise clamped (R91, R95, R130). -/
def treatDefault (default lo hi n : Nat) : Nat := if n = 0 then default else clampNat lo hi n

/-- The configuration of a CONFIGURE payload, each field treated as R184 states. -/
def parseConfig (p : List Byte) : NodeConfig where
  pocketCount := min (field p 0 1) 48
  slotCount := min (field p 1 1) 64
  head := (byteAt p 2).getLsbD 0
  lineRate := min (field p 3 1) 3
  beaconCode := min (field p 4 1) 3
  debounceMs := treatDebounce (field p 5 1)
  pullInMs := treatDefault 120 50 300 (field p 6 2)
  holdS := treatDefault 20 5 60 (field p 8 1)
  sensorHigh := (byteAt p 9).getLsbD 0
  captureRising := (byteAt p 9).getLsbD 1
  triggerHigh := (byteAt p 9).getLsbD 2
  lRef := min (field p 10 3) Config.lengthMax
  rRef := min (field p 13 3) Config.radiusMax
  alpha := min (field p 16 2) 3000
  band := treatDefault 40 1 2000 (field p 18 2)
  codeTable := (List.range 8).map (fun i => parseCode (codeBytes p i))
  routing := BitVec.ofNat 6 (field p 60 1)

/-- How many fields of a CONFIGURE payload their treatment changed (R184): a 0 that selects a default does
not count, a code entry sent enabled and stored disabled counts as one. -/
def changedFields (p : List Byte) : Nat :=
  let c := parseConfig p
  [c.pocketCount != field p 0 1, c.slotCount != field p 1 1, c.lineRate != field p 3 1,
    c.beaconCode != field p 4 1, c.debounceMs != field p 5 1,
    field p 6 2 != 0 && c.pullInMs != field p 6 2, field p 8 1 != 0 && c.holdS != field p 8 1,
    c.lRef != field p 10 3, c.rRef != field p 13 3, c.alpha != field p 16 2,
    field p 18 2 != 0 && c.band != field p 18 2].countP id
  + (List.range 8).countP (fun i =>
      codeSentEnabled (codeBytes p i) && !(parseCode (codeBytes p i)).enabled)

/-! ### Demand lists (R160, R168) -/

/-- An entry put into a list: a class that is there keeps its position and takes the new count. -/
def putEntry (list : List DemandEntry) (e : DemandEntry) : List DemandEntry :=
  if list.any (·.cls == e.cls) then list.map (fun d => if d.cls = e.cls then e else d)
  else list ++ [e]

/-- A list as R160 and R168 form it: an entry with count 0 is left out, a count above 4 is 4, a class
given twice keeps its first position and its last count. -/
def normalEntries (entries : List DemandEntry) : List DemandEntry :=
  entries.foldl
    (fun acc e => if e.count = 0 then acc else putEntry acc { e with count := min e.count 4 }) []

/-- Whether an entry with a count above 0 names class 0 (R160, R167). -/
def badEntry (e : DemandEntry) : Bool := 0 < e.count && e.cls == 0

/-! ### Cells, pulses and the CRC (R24, R25, R36, R189) -/

/-- The bits of a value, most significant first. -/
def msbBits {w : Nat} (v : BitVec w) : List Bool := (List.range w).map (fun i => v.getMsbD i)

/-- One bit taken by the CRC register (R189). -/
def crcStep (r : BitVec 16) (bit : Bool) : BitVec 16 :=
  if xor r.msb bit then (r <<< 1) ^^^ 0x1021#16 else r <<< 1

/-- The CRC register after these bits, from all ones (R189). -/
def crc16 (bits : List Bool) : BitVec 16 := bits.foldl crcStep 0xFFFF#16

/-- The header and payload bits of a frame in the order they are sent (R27, 11.1). -/
def frameBits (f : WireFrame) : List Bool :=
  msbBits f.cls ++ msbBits f.kind ++ msbBits f.source ++ msbBits f.destination ++ msbBits f.length
    ++ f.payload.flatMap msbBits

/-- Whether a received frame's CRC matches (R37, R189). -/
def crcOk (f : WireFrame) : Bool := crc16 (frameBits f) == f.crc

/-- The frame that the transmitter of a station drives for a queued frame (R27, R189): its source is the station
(R183). -/
def wireFrame (station : BitVec 6) (t : TxFrame) : WireFrame :=
  let f : WireFrame :=
    { cls := BitVec.ofNat 2 t.kind.cls
      kind := BitVec.ofNat 4 t.kind.code
      source := station
      destination := BitVec.ofNat 6 t.destination
      length := BitVec.ofNat 6 t.payload.length
      payload := t.payload
      crc := 0 }
  { f with crc := crc16 (frameBits f) }

/-- The 12-cell arbitration field of a frame as a number (R27): the lowest survives. -/
def arbitrationField (f : WireFrame) : Nat := (f.cls ++ f.kind ++ f.source).toNat

/-- The cells of a frame (R27). -/
def frameCells (f : WireFrame) : Nat := 42 + 8 * f.payload.length

/-- The length of a cell at a line rate code, in ns (R24). -/
def cellNs (rate : Nat) : Nat := 16000 / 2 ^ rate

/-- What a dominant pulse is read as (R36). -/
inductive PulseReading where
  | noise
  | one
  | zero
  | startMark
  | held
  | framingError
  deriving DecidableEq, Repr

/-- The reading of a dominant pulse by its width, for cells of this length (R36). -/
def readPulse (cell width : Nat) : PulseReading :=
  if 8 * width < cell then .noise
  else if 8 * width ≤ 3 * cell then .one
  else if 5 * cell ≤ 8 * width ∧ 8 * width ≤ 7 * cell then .zero
  else if 3 * cell ≤ 2 * width ∧ width ≤ 2 * cell then .startMark
  else if 4 * cell < width then .held
  else .framingError

/-- How long the sender holds the line dominant in the cell of a bit (R24). -/
def bitPulse (cell : Nat) (bit : Bool) : Nat := if bit then cell / 4 else 3 * cell / 4

/-- How long the sender holds the line dominant in a start mark (R25). -/
def startPulse (cell : Nat) : Nat := 2 * cell - cell / 4

/-- Whether what the receiver read is a framing error, for cells of this length (R36). -/
def isFramingError (cell : Nat) : FramingCause → Bool
  | .pulse w => readPulse cell w == .framingError
  | .edgeGap g => 8 * g < 7 * cell || 9 * cell < 8 * g
  | .firstEdgeGap g => 8 * g < 15 * cell || 17 * cell < 8 * g
  | .noEdge t => 9 * cell < 8 * t
  | .lengthField n => 57 ≤ n.toNat

end Sys2Proof.Machine
end

