-- ==== Sys2Proof/WellFormed.lean ====
section
/-! DEFINITION. Which commands can be sent or can happen at all, whatever the state: payload lengths of 11.3,
and the numbers that a timer, a sensor or a key can name. -/

namespace Sys2Proof

open Machine (imageLengthOk)

/-- The payload lengths that the command of a code takes (10.2, 11.3); no length for a code that is not
assigned. -/
def lengthTaken (code length : Nat) : Bool :=
  match code with
  | 1 | 2 | 5 | 6 | 40 | 51 | 52 | 70 | 71 => length == 0
  | 3 => length == 61
  | 4 => length == 37 || length == 53
  | 8 | 9 | 22 | 35 | 37 | 38 | 39 | 65 | 67 => length == 1
  | 16 => length == 33
  | 17 | 19 | 21 | 32 | 48 | 69 => length == 4
  | 18 | 36 | 64 => length == 5
  | 20 => length == 4 || length == 7
  | 33 => length == 1 || length == 2
  | 34 => 1 ≤ length && length ≤ 255
  | 49 | 66 => length == 3
  | 50 => length == 7
  | 68 => length % 3 == 0 && length ≤ 255
  | _ => false

/-- Whether a command frame passes the framing check (R178), the length of a RESTORE image against its
measured-block bit included (R190). -/
def framingOk (code : Nat) (payload : List Byte) : Bool :=
  lengthTaken code payload.length && (code != 4 || imageLengthOk (payload.drop 6))

/-- A station number 1 to 62. -/
def isStation (n : Nat) : Bool := 1 ≤ n && n ≤ 62

/-- A pocket number that some configuration has, 1 to 48. -/
def isPocket (n : Nat) : Bool := 1 ≤ n && n ≤ 48

/-- A call slot or an outbound slot, 1 to 4. -/
def isCustodySlot (n : Nat) : Bool := 1 ≤ n && n ≤ 4

/-- Whether a command is one that the host's frames, the hall line, the field inputs or a timer can give. -/
def WellFormed : Instr → Bool
  | .reset | .commandCollision | .readStatus | .readNotice | .join | .rejoin => true
  | .readTransaction _ => true
  | .unknownCommand code payload =>
    code != 0 && payload.length ≤ 255 && !framingOk code.toNat payload
  | .configure payload => payload.length == 61
  | .restore _ _ _ _ _ _ image => imageLengthOk image
  | .readPeer _ | .pardon _ => true
  | .create _ _ image => image.length == 31
  | .drop _ | .resolve _ _ | .markDamaged _ | .regrind _ _ | .readRecord _ | .listRecords _ => true
  | .issue _ _ _ | .returnTool _ _ => true
  | .serviceOpen _ list => list.length ≤ 254
  | .cancel _ | .identifyPocket _ _ | .clearPocketFault _ | .readPocket _ | .readPanel _ => true
  | .readReservations => true
  | .identifyHead _ | .measureReference _ _ | .measure _ _ _ | .abortMeasure | .readHead => true
  | .load _ _ | .unload _ | .charge _ _ | .readSlot _ => true
  | .setDemand entries => entries.length ≤ 85
  | .startDemand _ _ _ _ | .stopDemand | .readDemand => true
  | .lineIdle | .arbitrationLost | .bitError _ | .frameSent => true
  | .frameReceived frame => frame.length.toNat ≤ 56 && frame.payload.length == frame.length.toNat
  | .malformedFrame | .presence | .call | .offer | .accept | .decline | .here | .check
  | .checkReply | .demand => true
  | .lineHeld _ _ | .lineReleased _ => true
  | .nodeOnline | .beaconExpiry => true
  | .peerAbsent station => isStation station
  | .callWaitExpiry slot | .offerWaitExpiry slot => isCustodySlot slot
  | .checkWaitExpiry tool => tool != 0
  | .pocketFirstReading pocket _ => isPocket pocket
  | .pocketRemoval pocket | .pocketInsertion pocket | .currentSeen pocket | .pullInExpiry pocket
  | .shortCurrent pocket | .holdExpiry pocket => isPocket pocket
  | .supplyLow | .supplyNormal => true
  | .digitKey _ digit => digit ≤ 9
  | .enter _ | .clear _ | .interKeyExpiry _ | .lockoutExpiry _ | .windowExpiry _ => true
  | .scaleStep _ _ | .scaleError _ | .capture _ | .captureTimeout => true
  | .seatFirstReading _ | .headSeated | .headUnseated => true
  | .cycleExpiry | .triggerEdge _ => true
  | .reservationExpiry requester cls => isStation requester && 1 ≤ cls && cls ≤ 65535
  | .dominantEdge | .startMarkRead _ | .framingError _ | .resetEnds _ => true

end Sys2Proof
end

