-- ==== Sys2Proof/Decode.lean ====
section
/-! DEFINITION. Decoding and encoding: the table's bits, of which no row has any, and the command frames of the
local port (R175, R178, 10.2, 11.3), which do spell commands. -/

namespace Sys2Proof

open Machine (byte beBytes beNat field byteAt toolAt wordBytes)

/-- The command that a word of the table's bits spells: none, since no row of spec/opcode_table.json gives
bits. -/
def decodeTableWord (_nbits _w : Nat) : Option Instr := none

/-! ### Command frames (11.3) -/

/-- The code of a host command (10.2); none for an event. -/
def commandCode : Instr → Option Nat
  | .readStatus => some 1
  | .readNotice => some 2
  | .configure _ => some 3
  | .restore _ _ _ _ _ _ _ => some 4
  | .join => some 5
  | .rejoin => some 6
  | .readPeer _ => some 8
  | .pardon _ => some 9
  | .create _ _ _ => some 16
  | .drop _ => some 17
  | .resolve _ _ => some 18
  | .markDamaged _ => some 19
  | .regrind _ _ => some 20
  | .readRecord _ => some 21
  | .listRecords _ => some 22
  | .issue _ _ _ => some 32
  | .returnTool _ _ => some 33
  | .serviceOpen _ _ => some 34
  | .cancel _ => some 35
  | .identifyPocket _ _ => some 36
  | .clearPocketFault _ => some 37
  | .readPocket _ => some 38
  | .readPanel _ => some 39
  | .readReservations => some 40
  | .identifyHead _ => some 48
  | .measureReference _ _ => some 49
  | .measure _ _ _ => some 50
  | .abortMeasure => some 51
  | .readHead => some 52
  | .load _ _ => some 64
  | .unload _ => some 65
  | .charge _ _ => some 66
  | .readSlot _ => some 67
  | .setDemand _ => some 68
  | .startDemand _ _ _ _ => some 69
  | .stopDemand => some 70
  | .readDemand => some 71
  | .unknownCommand code _ => some code.toNat
  | .reset | .readTransaction _ | .commandCollision => none
  | .lineIdle | .arbitrationLost | .bitError _ | .frameSent | .frameReceived _ => none
  | .malformedFrame | .presence | .call | .offer | .accept | .decline | .here | .check
  | .checkReply | .demand => none
  | .lineHeld _ _ | .lineReleased _ | .nodeOnline | .beaconExpiry | .peerAbsent _ => none
  | .callWaitExpiry _ | .offerWaitExpiry _ | .checkWaitExpiry _ => none
  | .pocketFirstReading _ _ | .pocketRemoval _ | .pocketInsertion _ | .currentSeen _
  | .pullInExpiry _ | .shortCurrent _ | .holdExpiry _ | .supplyLow | .supplyNormal => none
  | .digitKey _ _ | .enter _ | .clear _ | .interKeyExpiry _ | .lockoutExpiry _
  | .windowExpiry _ => none
  | .scaleStep _ _ | .scaleError _ | .capture _ | .captureTimeout | .seatFirstReading _
  | .headSeated | .headUnseated | .cycleExpiry | .triggerEdge _ | .reservationExpiry _ _ => none
  | .dominantEdge | .startMarkRead _ | .framingError _ | .resetEnds _ => none

/-- The payload of a host command (11.3). -/
def commandPayload : Instr → List Byte
  | .configure payload => payload
  | .restore state kind number prior counterpart handoff image =>
    [state, kind, number, prior, counterpart, handoff] ++ image
  | .readPeer n | .pardon n | .listRecords n | .cancel n | .clearPocketFault n | .readPocket n
  | .readPanel n | .unload n | .readSlot n => [n]
  | .create kind number image => [kind, number] ++ image
  | .drop tool | .markDamaged tool | .readRecord tool | .identifyHead tool => wordBytes tool
  | .resolve tool choice => wordBytes tool ++ [choice]
  | .regrind tool none => wordBytes tool
  | .regrind tool (some n) => wordBytes tool ++ beBytes 3 n.toNat
  | .issue panel cls station => [panel] ++ beBytes 2 cls.toNat ++ [station]
  | .returnTool panel none => [panel]
  | .returnTool panel (some pocket) => [panel, pocket]
  | .serviceOpen panel list => panel :: list
  | .identifyPocket n tool | .load n tool => n :: wordBytes tool
  | .measureReference n t => n :: beBytes 2 t.toNat
  | .measure tool n t => wordBytes tool ++ [n] ++ beBytes 2 t.toNat
  | .charge n seconds => n :: beBytes 2 seconds.toNat
  | .setDemand entries => entries.flatMap (fun e => beBytes 2 e.1.toNat ++ [e.2])
  | .startDemand mode interval target hold => [mode, interval, target, hold]
  | .unknownCommand _ payload => payload
  | _ => []

/-- The command frame of a host command: code, length, payload (11.3). -/
def encodeFrame (i : Instr) : Option (List Byte) :=
  (commandCode i).map (fun c => byte c ++ byte (commandPayload i).length ++ commandPayload i)

/-- A 16-bit field at an offset. -/
def field16 (p : List Byte) (offset : Nat) : BitVec 16 := BitVec.ofNat 16 (field p offset 2)

/-- The entries of a SET_DEMAND payload (11.3). -/
def parseSent : List Byte → List (BitVec 16 × Byte)
  | a :: b :: c :: rest => (BitVec.ofNat 16 (beNat [a, b]), c) :: parseSent rest
  | _ => []

/-- The command of an assigned code with a payload of a length it takes (10.2, 11.3). -/
def decodePayload (code : Nat) (p : List Byte) : Option Instr :=
  match code with
  | 1 => some .readStatus
  | 2 => some .readNotice
  | 3 => some (.configure p)
  | 4 => some (.restore (byteAt p 0) (byteAt p 1) (byteAt p 2) (byteAt p 3) (byteAt p 4) (byteAt p 5)
      (p.drop 6))
  | 5 => some .join
  | 6 => some .rejoin
  | 8 => some (.readPeer (byteAt p 0))
  | 9 => some (.pardon (byteAt p 0))
  | 16 => some (.create (byteAt p 0) (byteAt p 1) (p.drop 2))
  | 17 => some (.drop (toolAt p))
  | 18 => some (.resolve (toolAt p) (byteAt p 4))
  | 19 => some (.markDamaged (toolAt p))
  | 20 => some (.regrind (toolAt p)
      (if p.length = 4 then none else some (BitVec.ofNat 24 (field p 4 3))))
  | 21 => some (.readRecord (toolAt p))
  | 22 => some (.listRecords (byteAt p 0))
  | 32 => some (.issue (byteAt p 0) (field16 p 1) (byteAt p 3))
  | 33 => some (.returnTool (byteAt p 0) (if p.length = 1 then none else some (byteAt p 1)))
  | 34 => some (.serviceOpen (byteAt p 0) (p.drop 1))
  | 35 => some (.cancel (byteAt p 0))
  | 36 => some (.identifyPocket (byteAt p 0) (toolAt (p.drop 1)))
  | 37 => some (.clearPocketFault (byteAt p 0))
  | 38 => some (.readPocket (byteAt p 0))
  | 39 => some (.readPanel (byteAt p 0))
  | 40 => some .readReservations
  | 48 => some (.identifyHead (toolAt p))
  | 49 => some (.measureReference (byteAt p 0) (field16 p 1))
  | 50 => some (.measure (toolAt p) (byteAt p 4) (field16 p 5))
  | 51 => some .abortMeasure
  | 52 => some .readHead
  | 64 => some (.load (byteAt p 0) (toolAt (p.drop 1)))
  | 65 => some (.unload (byteAt p 0))
  | 66 => some (.charge (byteAt p 0) (field16 p 1))
  | 67 => some (.readSlot (byteAt p 0))
  | 68 => some (.setDemand (parseSent p))
  | 69 => some (.startDemand (byteAt p 0) (byteAt p 1) (byteAt p 2) (byteAt p 3))
  | 70 => some .stopDemand
  | 71 => some .readDemand
  | _ => none

/-- The command of a complete frame: UNKNOWN_COMMAND where the code is not assigned or the length does not suit
it (R178); a first byte of 0 opens a read transaction and spells no command (R175). -/
def decodeCommand (code : Byte) (payload : List Byte) : Option Instr :=
  if code = 0 then none
  else if framingOk code.toNat payload then decodePayload code.toNat payload
  else some (.unknownCommand code payload)

/-- The command that a command transaction spells: the frame is complete with its last payload byte, later bytes
are ignored, and a frame released before that is discarded (R175). -/
def decodeFrame : List Byte → Option Instr
  | code :: length :: rest =>
    if length.toNat ≤ rest.length then decodeCommand code (rest.take length.toNat) else none
  | _ => none

end Sys2Proof
end

