-- ==== Sys2Proof/Machine/Flags.lean ====
section
/-! DEFINITION. What is computed and not stored: the derived conditions of a record (R10, R11), deadlines
against the millisecond count (00_scope.md, "Time"), the port's output lines and status flags (R176, R181,
R182). -/

namespace Sys2Proof.Machine

/-! ### Derived conditions (R10, R11) -/

/-- Remaining life (R10). -/
def Image.remaining (i : Image) : Nat := i.lifeLimit - i.lifeUsed

/-- WORN: life used equals life limit (R10). -/
def Image.worn (i : Image) : Bool := i.lifeUsed == i.lifeLimit

/-- LOW: remaining life above 0 and at most the warn margin (R10). -/
def Image.low (i : Image) : Bool := 0 < i.remaining && i.remaining ≤ i.warnMargin

/-- Life used since the measurement, for an image with a measured block (R10). -/
def Image.sinceMeasure (i : Image) (m : Measured) : Nat := i.lifeUsed - m.lifeAtMeasure

/-- REMEASURE_DUE: no measured block, or an interval above 0 that is reached (R10). -/
def Image.remeasureDue (i : Image) : Bool :=
  match i.measured with
  | none => true
  | some m => 0 < i.remeasureInterval && i.remeasureInterval ≤ i.sinceMeasure m

/-- The unfit reason: the first that applies, and none for a FIT record (R11). -/
def Image.unfitReason (i : Image) : Option UnfitReason :=
  if i.damaged then some .damaged
  else match i.measured with
    | none => some .unmeasured
    | some m =>
      match m.verdict with
      | .outOfBand => some .outOfBand
      | .runoutHigh => some .runoutHigh
      | .clamped => some .clamped
      | .within =>
        if i.worn then some .worn else if i.remeasureDue then some .remeasureDue else none

/-- FIT (R10). -/
def Image.fit (i : Image) : Bool :=
  (match i.measured with
    | none => false
    | some m => m.verdict == .within)
  && !i.worn && !i.remeasureDue && !i.damaged

/-- The derived conditions byte: bit 0 WORN, 1 LOW, 2 REMEASURE_DUE, 3 FIT (11.3). -/
def Image.conditionsByte (i : Image) : Nat :=
  (if i.worn then 1 else 0) + (if i.low then 2 else 0) + (if i.remeasureDue then 4 else 0)
    + (if i.fit then 8 else 0)

/-- The unfit reason as a code, 0 for none (11.3). -/
def Image.unfitCode (i : Image) : Nat := (i.unfitReason.map UnfitReason.code).getD 0

/-! ### Deadlines (00_scope.md, "Time") -/

/-- "Now plus" an interval of ms, modulo 2^32. -/
def after (now : Millis) (ms : Nat) : Millis := now + BitVec.ofNat 32 ms

/-- A deadline d has been reached when now minus d, read as a signed value, is 0 or more. -/
def reached (now d : Millis) : Bool := 0 ≤ (now - d).toInt

/-- Whether a deadline is held and has been reached. -/
def due (now : Millis) (d : Option Millis) : Bool :=
  match d with
  | some d => reached now d
  | none => false

/-- The milliseconds left of a deadline; 0 once it has been reached. DEDUCED (log 9). -/
def msLeft (now d : Millis) : Nat := if reached now d then 0 else (d - now).toNat

/-- Milliseconds left as an item of four bytes, or none (11.3). -/
def msLeftBytes (now : Millis) (d : Option Millis) : List Byte := orNone 4 (d.map (msLeft now))

/-! ### The node -/

/-- Whether CONFIGURE has been taken: the receiver, the sensors and the keypads run from it (R26, R86). -/
def State.configured (s : State) : Bool := s.port.nodeState != .unconfigured

/-- Whether the node is ONLINE. -/
def State.online (s : State) : Bool := s.port.nodeState == .online

/-- Whether field operations may start: ONLINE or LISTEN_ONLY (R112, R131, R147, R152). -/
def State.fieldReady (s : State) : Bool :=
  s.port.nodeState == .online || s.port.nodeState == .listenOnly

/-- The node's station number. -/
def State.station (s : State) : Nat := s.port.station.toNat

/-- The number of open call slots (R2). -/
def State.openCalls (s : State) : Nat := s.custody.calls.countP Option.isSome

/-- The number of busy outbound slots (R182). -/
def State.busyOuts (s : State) : Nat := s.custody.outs.countP Option.isSome

/-- The free count of the record table (R2). -/
def State.freeRows (s : State) : Nat := Config.tableRows - s.records.length - s.openCalls

/-- The READY line: high while the command slot is free, low during a reset and until the straps have been
read (R176, R183). A view of other state, not stored. DEDUCED (log 8). -/
def State.ready (s : State) : Bool := !s.port.resetHeld && s.port.commandSlot.isNone

/-- Whether a notice's category is enabled in the routing mask (R181). -/
def routed (mask : BitVec 6) (n : Notice) : Bool := mask.getLsbD n.kind.category.bit

/-- The ATTN line: asserted while the queue holds a notice of an enabled category (R181, R187). -/
def State.attn (s : State) : Bool :=
  !s.port.resetHeld && s.notices.entries.any (routed s.config.routing)

/-- Byte 3 of READ_STATUS: bit 0 COLLISION, 1 OVERFLOW, 2 RX_OVERRUN, 3 supply LOW (11.3). -/
def State.flagsByte (s : State) : Nat :=
  (if s.port.collision then 1 else 0) + (if s.notices.overflow then 2 else 0)
    + (if s.line.rxOverrun then 4 else 0) + (if s.bank.supply = .low then 8 else 0)

/-- Whether an attempt is in progress (R29). -/
def Line.attempting (l : Line) : Bool := l.txQueue.any (·.sending)

/-- Whether a frame of this owner is still in the transmit queue (R58, R59, R159). -/
def Line.queuedFor (l : Line) (o : FrameOwner) : Bool := l.txQueue.any (·.owner == o)

/-- Whether the solenoid of a lock is energised (R90). -/
def Lock.energised : Lock → Bool
  | .pulling _ _ | .holding _ _ => true
  | _ => false

/-- Whether a lock is CLOSED. -/
def Lock.isClosed : Lock → Bool
  | .closed => true
  | _ => false

/-- Whether a lock is PULLING. -/
def Lock.isPulling : Lock → Bool
  | .pulling _ _ => true
  | _ => false

/-- The open purpose of a lock with its panel: present exactly when the lock is not CLOSED (R84). -/
def Lock.opening : Lock → Option Opening
  | .closed => none
  | .queued w | .pulling w _ | .holding w _ => some w

/-- The number of energised locks (R90). -/
def Bank.energised (b : Bank) : Nat := b.pockets.countP (·.lock.energised)

/-- The number of PULLING locks (R103). -/
def Bank.pulling (b : Bank) : Nat := b.pockets.countP (·.lock.isPulling)

/-- Whether a pocket is in service (R84). -/
def Pocket.inService (p : Pocket) : Bool := p.fault == .none

/-- The operation phase: OPENING (1) until a pocket has reached OPEN, then OPEN (2) (R112, 11.3). -/
def Operation.phase (o : Operation) : Nat := if o.pockets.any (·.reachedOpen) then 2 else 1

/-- Whether a pocket of an operation has ended. -/
def PocketStatus.isEnded : PocketStatus → Bool
  | .ended _ => true
  | _ => false

end Sys2Proof.Machine
end

