-- ==== Sys2Proof/Machine/Ops.lean ====
section
/-! DEFINITION. The operations the commands share: host command transactions, notices, the record table, the
pocket table with its marks, the transmit queue, and the calls and offers of the custody engine. -/

namespace Sys2Proof.Machine

/-! ### Notices (R179, 11.4) -/

/-- A number as a notice object, or as an argument standing alone: four bytes (11.4). -/
def num (n : Nat) : BitVec 32 := BitVec.ofNat 32 n

/-- A notice argument of several parts, from the most significant byte onward, the rest 0 (11.4). -/
def parts (bytes : List Byte) : BitVec 32 := num (beNat ((bytes ++ List.replicate 4 0).take 4))

/-- Posting a notice: it joins the end of the queue, or is discarded and OVERFLOW is set (R179). -/
def State.post (s : State) (k : NoticeKind) (object argument : BitVec 32) : State :=
  if s.notices.entries.length < Config.noticeMax then
    { s with notices.entries := s.notices.entries ++
        [{ kind := k, object := object, argument := argument, timestamp := s.now }] }
  else { s with notices.overflow := true }

/-! ### Host commands (R176, R177) -/

/-- What a command's own rule gives: a refusal reason, or the next state with the response payload. A refused
command changes nothing, by this form. -/
abbrev CommandResult := Except HostResult (State × List Byte)

/-- The node takes the command in the slot as one event: its own rule is applied to the tables as they stand, the
response is formed, and the slot becomes free (R176). -/
def takeCommand (body : State → CommandResult) (s : State) : StepOutcome :=
  match body s with
  | .error reason =>
    .next { s with port := { s.port with
      commandSlot := none, response := some { result := reason, payload := [] } } }
  | .ok (t, payload) =>
    .next { t with port := { t.port with
      commandSlot := none, response := some { result := .ok, payload := payload } } }

/-- A complete command frame of a command: discarded as a collision while a response is pending or the command slot
is occupied (R177); otherwise it enters the slot, where it waits, or is taken at once (R176). While the reset is held
the port takes nothing (R187, log 23). Whether it waits is a free value. DESIGN CHOICE (log 28). -/
def hostCommand (c : Instr) (body : State → CommandResult) (s : State) : StepOutcome :=
  if s.port.resetHeld then .next s
  else if s.port.response.isSome || s.port.commandSlot.isSome then
    .next { s with port.collision := true }
  else if s.delay.later then .next { s with port.commandSlot := some c }
  else takeCommand body s

/-- An answer of OK with a length of 0 (11.3). -/
def done (s : State) : CommandResult := .ok (s, [])

/-! ### Record table (R2 to R4, R8, R9, R22) -/

/-- The held record of a tool id. -/
def State.find (s : State) (tool : ToolId) : Option ToolRecord :=
  s.records.find? (fun r => r.image.toolId == tool)

/-- A change of the held record of a tool id; it keeps its place in the row order (R4). -/
def State.updateRecord (s : State) (tool : ToolId) (f : ToolRecord → ToolRecord) : State :=
  { s with records := s.records.map (fun r => if r.image.toolId = tool then f r else r) }

/-- A change of state: place and local-only fields change with it (R13). -/
def State.setState (s : State) (tool : ToolId) (st : RecordState) : State :=
  s.updateRecord tool (fun r => { r with state := st })

/-- A change of content (R13). -/
def State.setImage (s : State) (tool : ToolId) (f : Image → Image) : State :=
  s.updateRecord tool (fun r => { r with image := f r.image })

/-- A record becomes held at the end of the row order (R4). -/
def State.addRecord (s : State) (r : ToolRecord) : State := { s with records := s.records ++ [r] }

/-- A record leaves the table and the row order (R4). -/
def State.dropRecord (s : State) (tool : ToolId) : State :=
  { s with records := s.records.filter (fun r => r.image.toolId != tool) }

/-- RECORD_CHANGED with the record's state and place after the change (R22). -/
def State.postChanged (s : State) (tool : ToolId) : State :=
  match s.find tool with
  | none => s
  | some r =>
    s.post .recordChanged tool
      (parts (byte r.state.code ++ byte r.state.placeCode.1 ++ byte r.state.placeCode.2))

/-- The record on the head: SEATED or MEASURING (R9). -/
def State.headRecord (s : State) : Option ToolRecord :=
  s.records.find? (fun r => r.state == .seated || r.state == .measuring)

/-! ### Pocket table (R84) and magazine (R145) -/

/-- The entry of a pocket number, if there is one: 1 to the configured pocket count (R1). -/
def State.pocket? (s : State) (p : Nat) : Option Pocket :=
  if p = 0 then none else s.bank.pockets[p - 1]?

/-- A change of a pocket's entry. -/
def State.setPocket (s : State) (p : Nat) (f : Pocket → Pocket) : State :=
  if p = 0 then s else { s with bank.pockets := s.bank.pockets.modify (p - 1) f }

/-- The entry of a slot number, if there is one: 1 to the configured slot count (R1). -/
def State.slot? (s : State) (n : Nat) : Option MagSlot :=
  if n = 0 then none else s.magazine[n - 1]?

/-- A slot changes state (R146). -/
def State.setSlot (s : State) (n : Nat) (m : MagSlot) : State :=
  if n = 0 then s else { s with magazine := s.magazine.set (n - 1) m }

/-- Removing the reservation mark of a pocket (R102). -/
def State.unmark (s : State) (p : Nat) : State :=
  s.setPocket p (fun k => { k with reservedFor := none })

/-! ### Marks and the marking pass (R102, R166, R169) -/

/-- The record that a pocket holds. -/
def recordIn (records : List ToolRecord) (k : Pocket) : Option ToolRecord :=
  match k.occupancy with
  | .held tool => records.find? (fun r => r.image.toolId == tool)
  | _ => none

/-- The class of the record that a pocket holds, or 0. -/
def classIn (records : List ToolRecord) (k : Pocket) : Nat :=
  match recordIn records k with
  | some r => r.image.cls
  | none => 0

/-- The remaining life of the record that a pocket holds, or 0. -/
def lifeIn (records : List ToolRecord) (k : Pocket) : Nat :=
  match recordIn records k with
  | some r => r.image.remaining
  | none => 0

/-- Whether a pocket holds a STOCKED FIT record of this class (R102). -/
def holdsFit (records : List ToolRecord) (cls : Nat) (k : Pocket) : Bool :=
  match recordIn records k with
  | some r => r.state.code == 1 && r.image.fit && r.image.cls == cls
  | none => false

/-- Whether a pocket qualifies for a row's class (R169): the conditions on which a mark is accepted (R102). -/
def qualifies (records : List ToolRecord) (cls : Nat) (k : Pocket) : Bool :=
  k.inService && k.lock.isClosed && k.reservedFor.isNone && holdsFit records cls k

/-- Whether a pocket carries a mark of this row (R166). -/
def markOf (records : List ToolRecord) (row : Reservation) (k : Pocket) : Bool :=
  k.reservedFor == some row.requester && classIn records k == row.cls

/-- The marked count of a row (R166). -/
def marked (records : List ToolRecord) (row : Reservation) (pockets : List Pocket) : Nat :=
  pockets.countP (markOf records row)

/-- The first of the elements whose key is greatest. -/
def pickMost {α : Type} (key : α → Nat) : List α → Option α
  | [] => none
  | a :: rest =>
    match pickMost key rest with
    | none => some a
    | some b => if key a < key b then some b else some a

/-- The last of the elements whose key is least. -/
def pickLeastLast {α : Type} (key : α → Nat) : List α → Option α
  | [] => none
  | a :: rest =>
    match pickLeastLast key rest with
    | none => some a
    | some b => if key a < key b then some a else some b

/-- The pockets with their numbers. -/
def numbered (pockets : List Pocket) : List (Pocket × Nat) := pockets.zipIdx 1

/-- One mark more for a row: the qualifying pocket of greatest remaining life, ties to the lowest number
(R169, "Too few marks"). -/
def addMark (records : List ToolRecord) (row : Reservation) (pockets : List Pocket) : List Pocket :=
  match pickMost (fun c => lifeIn records c.1)
      ((numbered pockets).filter (fun c => qualifies records row.cls c.1)) with
  | none => pockets
  | some c => pockets.modify (c.2 - 1) (fun k => { k with reservedFor := some row.requester })

/-- One mark fewer for a row: from a CLOSED pocket before one that is opening, then from the least remaining
life, then from the highest number (R169, "Too many marks"). Remaining life stays below 2^32. -/
def dropMark (records : List ToolRecord) (row : Reservation) (pockets : List Pocket) : List Pocket :=
  match pickLeastLast
      (fun c => (if c.1.lock.isClosed then 0 else 2 ^ 32) + lifeIn records c.1)
      ((numbered pockets).filter (fun c => markOf records row c.1)) with
  | none => pockets
  | some c => pockets.modify (c.2 - 1) (fun k => { k with reservedFor := none })

/-- A function applied n times. -/
def times {α : Type} (f : α → α) : Nat → α → α
  | 0, a => a
  | n + 1, a => times f n (f a)

/-- The marking pass at one row (R169). -/
def passRow (records : List ToolRecord) (pockets : List Pocket) (row : Reservation) : List Pocket :=
  let fewer := times (dropMark records row) (marked records row pockets - row.wanted) pockets
  times (addMark records row) (row.wanted - marked records row fewer) fewer

/-- One sweep of the marking pass: the rows in table order (R169). -/
def State.sweep (s : State) : State :=
  { s with bank.pockets := s.reservations.foldl (passRow s.records) s.bank.pockets }

/-- The marking pass (R169). A sweep may remove surplus marks itself, and then a pass follows in the same event
(R170), which gives a pocket freed at a later row to an earlier row that is short; where the first sweep has removed
no mark, the second finds nothing to do. That the pass that follows begins once every row has been swept is
DEDUCED (log 32). -/
def State.markingPass (s : State) : State := s.sweep.sweep

/-- Deleting the rows that satisfy a test: their marks are removed with them (R168, R172). -/
def State.deleteRows (s : State) (gone : Reservation → Bool) : State :=
  { s with
    bank.pockets := s.bank.pockets.map (fun k =>
      if s.reservations.any (fun row => gone row && markOf s.records row k) then
        { k with reservedFor := none } else k)
    reservations := s.reservations.filter (fun row => !gone row) }

/-- RESERVATION_ENDED for each of these rows, in order (R168, R172). -/
def postEnded (cause : EndCause) (rows : List Reservation) (s : State) : State :=
  rows.foldl (fun s row => s.post .reservationEnded (num row.requester)
    (parts (beBytes 2 row.cls ++ byte cause.code))) s

/-! ### Transmit queue (R28 to R35) -/

/-- A frame joins behind every frame of its own class and of lower class numbers (R33). -/
def insertFrame : List TxFrame → TxFrame → List TxFrame
  | [], f => [f]
  | g :: rest, f => if g.kind.cls ≤ f.kind.cls then g :: insertFrame rest f else f :: g :: rest

/-- The displacement candidate with the queue less it: the last frame that is not in transmission, which by
the order of R33 is the youngest of the largest class among those (R34). -/
def splitCandidate : List TxFrame → Option (TxFrame × List TxFrame)
  | [] => none
  | f :: rest =>
    match splitCandidate rest with
    | some (c, others) => some (c, f :: others)
    | none => if f.sending then none else some (f, rest)

/-- The head of the queue taken into transmission (R29, R33). -/
def sendHead : List TxFrame → List TxFrame
  | [] => []
  | f :: rest => { f with sending := true } :: rest

/-- An attempt starts while the node is ONLINE, the line is IDLE, its driver is enabled and a frame waits (R29). The
receiver reads the node's own cells (R24). -/
def State.startAttempt (s : State) : State :=
  if s.online && s.line.condition == .idle && !s.line.driverDisabled && !s.line.attempting
      && !s.line.txQueue.isEmpty then
    { s with line := { s.line with
      condition := .transmitting, receiver := .assembling, txQueue := sendHead s.line.txQueue } }
  else s

/-- TX_DISCARDED for a discarded frame (R34): kind, class and cause, the class in 2 bytes. DEDUCED (log 12). -/
def State.postDiscarded (s : State) (f : TxFrame) (cause : DiscardCause) : State :=
  s.post .txDiscarded (num f.destination)
    (parts (byte f.kind.code ++ beBytes 2 f.kind.cls ++ byte cause.code))

/-- A frame as it is offered. -/
def newFrame (kind : FrameKind) (destination : Nat) (payload : List Byte) (owner : FrameOwner) :
    TxFrame where
  kind := kind
  destination := destination
  payload := payload
  owner := owner
  bitErrors := 0
  sending := false
  replacement := none
  reoffer := false
  removeAfter := false

/-- Offering a frame to the transmit queue: lost at once unless ONLINE (R28); it joins under R33, or at a full
queue under R34; on an idle line an attempt starts at once (R29). -/
def State.offerFrame (s : State) (f : TxFrame) : State :=
  if !s.online then s
  else if s.line.txQueue.length < Config.txMax then
    State.startAttempt { s with line.txQueue := insertFrame s.line.txQueue f }
  else
    match splitCandidate s.line.txQueue with
    | some (c, others) =>
      if f.kind.cls < c.kind.cls then
        State.startAttempt
          ({ s with line.txQueue := insertFrame others f }.postDiscarded c .queueFull)
      else s.postDiscarded f .queueFull
    | none => s.postDiscarded f .queueFull

/-- Removing an owner's frames (R35): a waiting frame leaves at once, one in transmission when its attempt
ends. Until then it has no owner, so the frame-queued note of its former owner (R58, R59, R159) is clear at once: the
model's choice, since R164 does not say when STOP_DEMAND clears it. DEDUCED (log 29). -/
def State.removeFrames (s : State) (o : FrameOwner) : State :=
  { s with line.txQueue := s.line.txQueue.filterMap (fun f =>
      if f.owner = o then
        (if f.sending then
          some { f with owner := .nobody, replacement := none, reoffer := false, removeAfter := true }
        else none)
      else some f) }

/-- Replacing the payload of an owner's queued frame (R35); `reoffer` says that the owner offers a new frame
if the replacement is answered as not queued. -/
def State.replaceFrame (s : State) (o : FrameOwner) (payload : List Byte) (reoffer : Bool) : State :=
  { s with line.txQueue := s.line.txQueue.map (fun f =>
      if f.owner = o then
        (if f.sending then { f with replacement := some payload, reoffer := f.reoffer || reoffer }
        else { f with payload := payload })
      else f) }

/-- The frame in transmission. -/
def Line.sendingFrame (l : Line) : Option TxFrame := l.txQueue.find? (·.sending)

/-- The frame that the node drives on the line in its attempt (R27, R29): the frame in transmission, with the
station number read from the straps as its source (R183). A view of other state, not stored. DEDUCED (log 8). -/
def State.driven (s : State) : Option WireFrame := s.line.sendingFrame.map (wireFrame s.port.station)

/-- The queue after an attempt that ended without completing: a waiting replacement takes effect, a waiting
removal takes the frame out (R30, R35). -/
def attemptEnded (q : List TxFrame) : List TxFrame :=
  q.filterMap (fun f =>
    if f.sending then
      (if f.removeAfter then none
      else some { f with
        sending := false, payload := f.replacement.getD f.payload, replacement := none,
        reoffer := false })
    else some f)

/-! ### Owners of broadcast frames (R52, R162) -/

/-- What this node's PRESENCE announces (R52). -/
def NodeConfig.announced (c : NodeConfig) : Announced where
  pockets := c.pocketCount
  slots := c.slotCount
  head := c.head
  beaconCode := c.beaconCode

/-- The roster offers a PRESENCE, or refreshes the one still queued; the beacon deadline moves (R52). -/
def State.offerPresence (s : State) : State :=
  let t := { s with roster.beacon := some (after s.now (beaconMs s.config.beaconCode)) }
  if t.line.queuedFor .presence then
    t.replaceFrame .presence (presenceBytes s.config.announced) true
  else t.offerFrame (newFrame .presence 63 (presenceBytes s.config.announced) .presence)

/-- The payload of the run's DEMAND with the list as it stands (R162). -/
def Sequencer.payload (d : Sequencer) : List Byte := demandPayload d.hold d.list

/-- The sequencer offers a DEMAND of its run (R162). -/
def State.offerDemand (s : State) : State :=
  s.offerFrame (newFrame .demand 63 s.demand.payload .demandRun)

/-- A queued DEMAND of the run is refreshed with the list as it stands (R160, R162, R165). -/
def State.refreshDemand (s : State) (reoffer : Bool) : State :=
  s.replaceFrame .demandRun s.demand.payload reoffer

/-- What the owner of a frame does when a waiting replacement of it is answered as not queued (R52, R162). A new
PRESENCE is an offer like any other, so the beacon deadline moves again. DEDUCED (log 19). -/
def State.notQueued (s : State) (f : TxFrame) : State :=
  if f.reoffer then
    match f.owner with
    | .presence => if s.online then s.offerPresence else s
    | .demandRun => if s.demand.running then s.offerDemand else s
    | _ => s
  else s

/-! ### Calls (R64, R65) -/

/-- The index of the open call slot for a tool. -/
def State.callFor (s : State) (tool : ToolId) : Option Nat :=
  s.custody.calls.findIdx? (fun c => match c with
    | some c => c.tool == tool
    | none => false)

/-- The index of the open call slot with a purpose place. -/
def State.callAt (s : State) (why : Purpose) : Option Nat :=
  s.custody.calls.findIdx? (fun c => match c with
    | some c => c.purpose == why
    | none => false)

/-- The open call slot at an index. -/
def State.call? (s : State) (i : Nat) : Option CallSlot := (s.custody.calls[i]?).join

/-- The CALL frame of a call slot (R64). -/
def callFrame (i : Nat) (tool : ToolId) (why : Purpose) : TxFrame :=
  newFrame .call 63 (callPayload tool why) (.call (i + 1))

/-- Opening a call for a tool that is not held here (R64, R3). -/
def State.openCall (s : State) (tool : ToolId) (why : Purpose) : Except HostResult State :=
  if !s.online then .error .notOnline
  else if (s.callFor tool).isSome then .error .callPending
  else if (s.callAt why).isSome then .error .placeConflict
  else
    match s.custody.calls.findIdx? Option.isNone with
    | none => .error .noCallSlot
    | some i =>
      if s.freeRows = 0 then .error .tableFull
      else
        .ok (State.offerFrame
          { s with custody.calls := s.custody.calls.set i (some
              { tool := tool, purpose := why, tries := 1, deadline := after s.now Config.callWait,
                busyStation := none }) }
          (callFrame i tool why))

/-- What a closing call leaves in its magazine slot (R65, R149); on TAKEN the arriving record has filled
it. -/
def CallOutcome.slotAfter : CallOutcome → Option MagSlot
  | .taken => none
  | .noAnswer => some (.refused .noAnswer)
  | .blocked r => some (.refused (.blocked r))
  | .withdrawn => some .empty
  | .abandoned => some (.refused .abandoned)

/-- The purpose place after a closing call (R65). -/
def State.leavePlace (s : State) (why : Purpose) (o : CallOutcome) : State :=
  match why, o.slotAfter with
  | .slot n, some m => s.setSlot n m
  | _, _ => s

/-- Closing the call at an index (R65). -/
def State.closeCall (s : State) (i : Nat) (o : CallOutcome) (station : Nat) : State :=
  match s.call? i with
  | none => s
  | some c =>
    let t := { s with custody.calls := s.custody.calls.set i none }
    let t := (t.removeFrames (.call (i + 1))).leavePlace c.purpose o
    t.post .callDone c.tool (parts (byte o.code ++ byte station ++ byte o.reasonCode))

/-- Withdrawing the call whose purpose place has gone, if one is open (R68). -/
def State.withdrawCall (s : State) (why : Purpose) : State :=
  match s.callAt why with
  | some i => s.closeCall i .withdrawn 0
  | none => s

/-! ### Offers (R70 to R72) -/

/-- The busy outbound slot at an index. -/
def State.out? (s : State) (i : Nat) : Option OutSlot := (s.custody.outs[i]?).join

/-- Freeing an outbound slot: any OFFER of it still queued is removed (R62). -/
def State.freeOut (s : State) (i : Nat) : State :=
  State.removeFrames { s with custody.outs := s.custody.outs.set i none } (.offer (i + 1))

/-- The OFFER frame of an outbound slot (R70). -/
def offerFrameOf (i : Nat) (o : OutSlot) (image : Image) : TxFrame :=
  newFrame .offer o.caller (o.handoff :: imageBytes image) (.offer (i + 1))

/-- An OUTBOUND record becomes IN_DOUBT with its custody part and prior state kept and no check outstanding
(R71); any other record stays as it is. -/
def RecordState.lapsed : RecordState → RecordState
  | .outbound c p => .inDoubt c p none
  | st => st

/-- The offer of the slot at an index lapses (R71, R72). -/
def State.lapse (s : State) (i : Nat) (cause : DoubtCause) : State :=
  match s.out? i with
  | none => s
  | some o =>
    let t := s.updateRecord o.tool (fun r => { r with state := r.state.lapsed })
    let t := (t.freeOut i).postChanged o.tool
    t.post .recordInDoubt o.tool (parts (byte o.caller ++ [o.handoff] ++ byte cause.code))

/-- Lapsing, in slot order, every busy outbound slot that satisfies a test (R72). -/
def State.lapseAll (s : State) (test : OutSlot → Bool) (cause : DoubtCause) : State :=
  (List.range Config.outboundSlots).foldl
    (fun t i => match t.out? i with
      | some o => if test o then t.lapse i cause else t
      | none => t) s

/-- A record departs to a station, or is dropped (0): removed, an outstanding check abandoned (R22, R62). -/
def State.depart (s : State) (tool : ToolId) (destination : Nat) : State :=
  ((s.dropRecord tool).removeFrames (.check tool)).post .recordDeparted tool (num destination)

/-- A record returns to its prior state; an outstanding check is abandoned (R77, R82). -/
def State.returnToPrior (s : State) (tool : ToolId) (prior : Prior) : State :=
  ((s.setState tool prior.toState).removeFrames (.check tool)).postChanged tool

/-! ### LISTEN_ONLY (R44, R55) -/

/-- Entry into LISTEN_ONLY: any attempt ends, every queued frame is lost without a notice, the beacon and
listening deadlines are removed (R44, R53, R55). -/
def State.enterListenOnly (s : State) : State :=
  { s with
    line.txQueue := []
    roster.beacon := none
    port.nodeState := .listenOnly
    port.listenDeadline := none }

end Sys2Proof.Machine
end

