-- ==== Sys2Proof/Machine/Roster.lean ====
section
/-! DEFINITION. The roster (03_roster_and_presence.md): hearing a peer, strikes and doubt, the delivery of the
oldest received frame (R39), beacons and absence. -/

namespace Sys2Proof.Machine

/-! ### Roster entries (R46) -/

/-- The roster entry of a station number. -/
def State.peer? (s : State) (n : Nat) : Option Peer :=
  if n = 0 then none else s.roster.peers[n - 1]?

/-- A change of a station's roster entry. -/
def State.setPeer (s : State) (n : Nat) (f : Peer → Peer) : State :=
  if n = 0 then s else { s with roster.peers := s.roster.peers.modify (n - 1) f }

/-- Whether a station is DOUBTFUL. -/
def State.doubtful (s : State) (n : Nat) : Bool :=
  match s.peer? n with
  | some p => p.doubtful
  | none => false

/-- The absence limit of an entry: three of its beacon intervals, 2000 ms each where none is announced
(R47). -/
def Peer.limit (p : Peer) : Nat :=
  match p.announced with
  | some a => 3 * beaconMs a.beaconCode
  | none => 3 * Config.unannouncedBeacon

/-- The entry after step 1 of R47. -/
def Peer.appear (p : Peer) : Peer :=
  match p.state with
  | .present => p
  | .unknown => { p with state := .present }
  | .absent => { p with state := .present, doubtful := false, strikes := 0 }

/-- The functions and interval of a well-formed PRESENCE replace the entry's (R47). -/
def Peer.announce (p : Peer) (a : Option Announced) : Peer :=
  match a with
  | some a => { p with announced := some a }
  | none => p

/-- Steps 2 and 3 of R47. -/
def Peer.heard (p : Peer) (now : Millis) : Peer :=
  { p with lastHeard := now, absence := some (after now p.limit) }

/-- The roster takes a frame from a station (R47); `a` is what an in-range PRESENCE announces. PEER_PRESENT
shows the functions as this frame leaves them. DEDUCED (log 14). -/
def State.hear (s : State) (n : Nat) (a : Option Announced) : State :=
  match s.peer? n with
  | none => s
  | some p =>
    let q := (p.appear.announce a).heard s.now
    let t := s.setPeer n (fun _ => q)
    if p.state = .present then t
    else t.post .peerPresent (num n) (parts (functionsBytes q.announced))

/-- A strike against a station by a frame of this kind code (R49). -/
def State.strike (s : State) (n : Nat) (kind : Nat) : State :=
  match s.peer? n with
  | none => s
  | some p =>
    let count := min 3 (p.strikes + 1)
    let t := s.setPeer n (fun p => { p with strikes := count, doubtful := p.doubtful || count == 3 })
    if count = 3 ∧ p.doubtful = false then
      t.post .peerDoubtful (num n) (num (if kind ≤ 9 then kind else 0))
    else t

/-- A clean frame from a station (R49). -/
def State.clean (s : State) (n : Nat) : State := s.setPeer n (fun p => { p with strikes := 0 })

/-! ### Delivery (R39) -/

/-- The kind of a frame that passes the form check; none for a malformed frame (R39). -/
def RxFrame.form (f : RxFrame) : Option FrameKind :=
  match FrameKind.ofCode f.kind.toNat with
  | none => none
  | some k =>
    if f.cls.toNat = k.cls ∧ k.lengthOk f.payload.length ∧ k.destinationOk f.destination.toNat then
      some k
    else none

/-- Whether a frame is addressed to this node: its own number, or all stations (R39). -/
def State.addressed (s : State) (f : RxFrame) : Bool :=
  f.destination == 63 || f.destination == s.port.station

/-- The field check that the consumer of a kind makes (R47, R63, R167, R190). -/
def RxFrame.fieldsOk (f : RxFrame) : FrameKind → Bool
  | .accept | .check => toolAt f.payload != 0
  | .decline => toolAt f.payload != 0 && 1 ≤ field f.payload 5 1 && field f.payload 5 1 ≤ 4
  | .here => toolAt f.payload != 0 && 1 ≤ field f.payload 4 1 && field f.payload 4 1 ≤ 6
  | .checkReply => toolAt f.payload != 0 && 1 ≤ field f.payload 5 1 && field f.payload 5 1 ≤ 3
  | .call =>
    toolAt f.payload != 0 && (parsePurpose (field f.payload 4 1) (field f.payload 5 1)).isSome
  | .offer =>
    imageLengthOk (f.payload.drop 1) && (parseImage (f.payload.drop 1)).inRange
  | .demand => !(parseEntries (f.payload.drop 1)).any badEntry
  | .presence => (parsePresence f.payload).inRange

/-- The roster's part in the delivery of a well-formed frame: it hears the source and judges the frame, a
strike where the consumer finds a field out of range (R39, R47, R49). -/
def State.rosterTakes (s : State) (f : RxFrame) (k : FrameKind) (ok : Bool) : State :=
  let n := f.source.toNat
  let a := if k = .presence ∧ ok then some (parsePresence f.payload) else none
  if ok then (s.hear n a).clean n else (s.hear n a).strike n k.code

/-- The delivery of the oldest received frame, if it is a well-formed frame of this kind (R39): the roster takes
it, and its consumer acts on it where it is addressed to this node and its fields are in range. Where the
oldest frame is another one, this delivery is not the one that happens. DESIGN CHOICE (log 6). -/
def deliver (kind : FrameKind) (act : State → RxFrame → State) (s : State) : StepOutcome :=
  match s.line.rxQueue with
  | [] => .next s
  | f :: rest =>
    if f.form = some kind then
      let mine := s.addressed f
      let ok := !mine || f.fieldsOk kind
      let t := { s with line.rxQueue := rest }.rosterTakes f kind ok
      .next (if mine && ok then act t f else t)
    else .next s

/-- MALFORMED_FRAME: the oldest received frame fails the form check and is a strike (R39, R47, R49). -/
def execMalformedFrame (s : State) : StepOutcome :=
  match s.line.rxQueue with
  | [] => .next s
  | f :: rest =>
    if f.form = none then
      .next (({ s with line.rxQueue := rest }.hear f.source.toNat none).strike f.source.toNat
        f.kind.toNat)
    else .next s

/-! ### PRESENCE (R47, R79) -/

/-- Whether a record is due a check at a PRESENCE from a station: IN_DOUBT, this counterpart, no check
outstanding (R79). -/
def ToolRecord.wantsCheck (r : ToolRecord) (n : Nat) : Option CustodyPart :=
  match r.state with
  | .inDoubt c _ none => if c.counterpart = n then some c else none
  | _ => none

/-- A check starts: CHECK(T, h) is handed over, the check state becomes outstanding (R79). -/
def State.startCheck (s : State) (n : Nat) (r : ToolRecord) : State :=
  match r.wantsCheck n with
  | none => s
  | some c =>
    let tool := r.image.toolId
    let t := s.offerFrame (newFrame .check n (handoffPayload tool c.handoff) (.check tool))
    t.updateRecord tool (fun r => { r with state := match r.state with
      | .inDoubt c p _ => .inDoubt c p (some (after s.now Config.checkWait))
      | st => st })

/-- The roster reports an in-range PRESENCE from a station to the custody engine (R47, R79). -/
def State.presenceReport (s : State) (n : Nat) : State :=
  if s.online then s.records.foldl (fun t r => t.startCheck n r) s else s

/-- PRESENCE (R47, R79). -/
def execPresence (s : State) : StepOutcome :=
  deliver .presence (fun t f => t.presenceReport f.source.toNat) s

/-! ### Host commands (R50, R51) -/

/-- Whether a byte is a station number 1 to 62. -/
def stationOk (b : Byte) : Bool := 1 ≤ b.toNat && b.toNat ≤ 62

/-- The payload of READ_PEER (R51, R46). -/
def peerPayload (now : Millis) (p : Peer) : List Byte :=
  byte p.state.code ++ functionsBytes p.announced ++ wordBytes p.lastHeard
    ++ msLeftBytes now p.absence ++ byte p.strikes ++ flagByte p.doubtful

/-- READ_PEER's own rule (R51). -/
def readPeerBody (station : Byte) (s : State) : CommandResult :=
  if !s.configured then .error .notConfigured
  else if !stationOk station then .error .outOfRange
  else
    match s.peer? station.toNat with
    | none => .error .outOfRange
    | some p => .ok (s, peerPayload s.now p)

/-- READ_PEER (R51). -/
def execReadPeer (station : Byte) (s : State) : StepOutcome :=
  hostCommand (.readPeer station) (readPeerBody station) s

/-- PARDON's own rule (R50). -/
def pardonBody (station : Byte) (s : State) : CommandResult :=
  if !s.configured then .error .notConfigured
  else if !stationOk station then .error .outOfRange
  else done (s.setPeer station.toNat (fun p => { p with strikes := 0, doubtful := false }))

/-- PARDON (R50). -/
def execPardon (station : Byte) (s : State) : StepOutcome :=
  hostCommand (.pardon station) (pardonBody station) s

/-! ### Timers (R48, R52, R54) -/

/-- NODE_ONLINE: the listening deadline expires (R54). -/
def execNodeOnline (s : State) : StepOutcome :=
  if s.port.nodeState = .listening ∧ due s.now s.port.listenDeadline then
    let t := { s with port := { s.port with nodeState := .online, listenDeadline := none } }
    .next (t.post .nodeOnline (num s.station) (num s.line.condition.code)).offerPresence
  else .next s

/-- BEACON_EXPIRY: the beacon deadline expires (R52). -/
def execBeaconExpiry (s : State) : StepOutcome :=
  if s.online && due s.now s.roster.beacon then .next s.offerPresence else .next s

/-- The reservations of an absent station are deleted (R172). -/
def State.dropReservationsOf (s : State) (n : Nat) : State :=
  postEnded .absent (s.reservations.filter (·.requester == n))
    (s.deleteRows (·.requester == n)).markingPass

/-- The absence of a station: its entry, the offers to it, its reservations (R48). -/
def State.goAbsent (s : State) (n : Nat) (p : Peer) : State :=
  let t := s.setPeer n (fun p => { p with state := .absent, absence := none })
  let t := t.post .peerAbsent (num n) p.lastHeard
  (t.lapseAll (·.caller == n) .absent).dropReservationsOf n

/-- PEER_ABSENT: an absence deadline expires (R48). -/
def execPeerAbsent (station : Nat) (s : State) : StepOutcome :=
  match s.peer? station with
  | none => .next s
  | some p =>
    if p.state = .present ∧ due s.now p.absence then .next (s.goAbsent station p) else .next s

end Sys2Proof.Machine
end

