-- ==== Sys2Proof/Machine/CustodyFrames.lean ====
section
/-! DEFINITION. The custody engine's frames and timers (04_custody_transfer.md): the answers to CALL, OFFER and
CHECK, the replies ACCEPT, DECLINE, HERE and CHECK_REPLY, and the call, offer and check waits. -/

namespace Sys2Proof.Machine

/-- A reply is handed to the transmit queue; it has no owner (R62). -/
def State.reply (s : State) (k : FrameKind) (n : Nat) (payload : List Byte) : State :=
  s.offerFrame (newFrame k n payload .nobody)

/-- DUPLICATE_CUSTODY with the peer and the frame kind that gave the evidence (section 4.7). -/
def State.postDuplicate (s : State) (tool : ToolId) (n : Nat) (k : FrameKind) : State :=
  s.post .duplicateCustody tool (parts (byte n ++ byte k.code))

/-! ### CALL (R69, R70) -/

/-- An offer begins in the outbound slot at an index (R70). -/
def State.beginOffer (s : State) (i : Nat) (n : Nat) (r : ToolRecord) (prior : Prior) : State :=
  let o : OutSlot :=
    { tool := r.image.toolId, caller := n, handoff := s.custody.handoff, tries := 1,
      deadline := after s.now Config.offerWait }
  let t := { s with custody := { s.custody with
    outs := s.custody.outs.set i (some o), handoff := s.custody.handoff + 1 } }
  let t := t.setState o.tool (.outbound { counterpart := n, handoff := o.handoff } prior)
  (t.postChanged o.tool).offerFrame (offerFrameOf i o r.image)

/-- The answer to a CALL for a LOOSE or MISSING record (R69). -/
def State.offerOrBusy (s : State) (n : Nat) (r : ToolRecord) (prior : Prior) : State :=
  match s.custody.outs.findIdx? Option.isNone with
  | none => s.reply .here n (herePayload r.image.toolId noSlotCode)
  | some i => s.beginOffer i n r prior

/-- HERE with a block reason (R67, R69). -/
def State.here (s : State) (n : Nat) (tool : ToolId) (why : BlockReason) : State :=
  s.reply .here n (herePayload tool why.code)

/-- The answer to a CALL from a station for a held record, by its state (R69 step 3). -/
def State.answerByState (s : State) (n : Nat) (r : ToolRecord) : State :=
  let tool := r.image.toolId
  match r.state with
  | .stocked _ | .loaded _ | .seated =>
    (s.here n tool .inPlace).post .calledWhilePlaced tool (num n)
  | .measuring => s.here n tool .inUse
  | .outbound c _ => if c.counterpart = n then s else s.here n tool .inTransit
  | .inDoubt _ _ _ => s.here n tool .inDoubt
  | .loose => s.offerOrBusy n r .loose
  | .missing => s.offerOrBusy n r .missing

/-- The custody engine takes a CALL (R69); requests act only while the node is ONLINE (R63). -/
def State.takeCall (s : State) (f : RxFrame) : State :=
  let n := f.source.toNat
  if !s.online then s
  else
    match s.find (toolAt f.payload) with
    | none => s
    | some r =>
      if s.doubtful n then s.here n r.image.toolId .peerDoubtful else s.answerByState n r

/-- CALL (R69, R70). -/
def execCall (s : State) : StepOutcome := deliver .call State.takeCall s

/-! ### OFFER (R73 to R75) -/

/-- The state and place that an arriving record takes from the purpose of its call (R74). -/
def Purpose.arrival : Purpose → RecordState
  | .pocket p => .stocked p
  | .slot n => .loaded n
  | .head => .seated

/-- The place changes with the arriving record (R74, R9). -/
def State.fillPlace (s : State) (why : Purpose) (tool : ToolId) : State :=
  match why with
  | .pocket p => s.setPocket p (fun k => { k with occupancy := .held tool })
  | .slot n => s.setSlot n (.loaded tool)
  | .head => s

/-- A triple joins the end of the accepted list; the oldest of 16 makes room (R60). -/
def State.appendAccepted (s : State) (a : Accepted) : State :=
  let l := s.custody.accepted
  { s with custody.accepted :=
      (if l.length < Config.acceptedMax then l else l.drop 1) ++ [a] }

/-- An entry of the demand list after one record of its class has arrived (R165). -/
def lowerEntries (cls : Nat) (l : List DemandEntry) : List DemandEntry :=
  l.filterMap (fun e =>
    if e.cls = cls then (if e.count ≤ 1 then none else some { e with count := e.count - 1 })
    else some e)

/-- The demand list is lowered by a record that arrived in a slot, a queued DEMAND refreshed, DEMAND_MET
posted (R165). -/
def State.lowerDemand (s : State) (tool : ToolId) (cls : Nat) : State :=
  match s.demand.list.find? (·.cls == cls) with
  | none => s
  | some e =>
    let t := { s with demand.list := lowerEntries cls s.demand.list }
    (t.refreshDemand false).post .demandMet tool (parts (beBytes 2 cls ++ byte (e.count - 1)))

/-- What the arrival of a record is handed on to: the reservations for a pocket, the demand list for a slot
(R74). -/
def State.arrivalEffects (s : State) (why : Purpose) (image : Image) : State :=
  match why with
  | .pocket _ => s.markingPass
  | .slot _ => s.lowerDemand image.toolId image.cls
  | .head => s

/-- Step 3 of R73 takes the record into the call at an index (R74), in the order of its list: ACCEPT is handed over
before the close removes a CALL still queued. DEDUCED (log 22). -/
def State.takeRecord (s : State) (i : Nat) (c : CallSlot) (n : Nat) (h : Byte) (image : Image) :
    State :=
  let tool := image.toolId
  let t := s.addRecord { image := image, state := c.purpose.arrival }
  let t := (t.fillPlace c.purpose tool).appendAccepted { source := n, handoff := h, tool := tool }
  let t := t.reply .accept n (handoffPayload tool h)
  let t := t.post .recordArrived tool (num n)
  (t.closeCall i .taken n).arrivalEffects c.purpose image

/-- DECLINE (R73, R75). -/
def State.decline (s : State) (n : Nat) (tool : ToolId) (h : Byte) (why : DeclineReason) : State :=
  s.reply .decline n (answerPayload tool h why.code)

/-- Whether a call declines an image as NOT_FIT: a slot purpose and an unfit record (R75). -/
def Purpose.rejects (why : Purpose) (image : Image) : Bool :=
  match why with
  | .slot _ => !image.fit
  | _ => false

/-- The custody engine decides on an OFFER from a station, its image taken in under R7 (R73). Where a DECLINE closes the
call, it is handed over before the close removes a CALL still queued, so at a full queue TX_DISCARDED names the frame
that the DECLINE displaces, or the DECLINE. The model's choice: the order of the sentences of R73 step 2 and R75.
DEDUCED (log 22). -/
def State.decideOffer (s : State) (n : Nat) (h : Byte) (image : Image) : State :=
  let tool := image.toolId
  if s.custody.accepted.contains { source := n, handoff := h, tool := tool } then
    s.reply .accept n (handoffPayload tool h)
  else if s.doubtful n then
    let t := s.decline n tool h .peerDoubtful
    match s.callFor tool with
    | some i => t.closeCall i (.blocked .peerDoubtful) n
    | none => t
  else
    match s.callFor tool with
    | some i =>
      match s.call? i with
      | none => s
      | some c =>
        if c.purpose.rejects image then
          (s.decline n tool h .notFit).closeCall i (.blocked .notFit) n
        else s.takeRecord i c n h image
    | none =>
      if (s.find tool).isSome then (s.decline n tool h .alreadyHeld).postDuplicate tool n .offer
      else s.decline n tool h .notCalled

/-- The custody engine takes an OFFER, only while the node is ONLINE (R63, R73). -/
def State.takeOffer (s : State) (f : RxFrame) : State :=
  if !s.online then s
  else
    s.decideOffer f.source.toNat (byteAt f.payload 0) (parseImage (f.payload.drop 1)).lineIntake

/-- OFFER (R73 to R75). -/
def execOffer (s : State) : StepOutcome := deliver .offer State.takeOffer s

/-! ### ACCEPT, DECLINE (R76, R77) -/

/-- The index of the busy outbound slot with this tool, caller and handoff number (R76, R77). -/
def State.outFor (s : State) (tool : ToolId) (n : Nat) (h : Byte) : Option Nat :=
  s.custody.outs.findIdx? (fun o => match o with
    | some o => o.tool == tool && o.caller == n && o.handoff == h
    | none => false)

/-- Whether a record is IN_DOUBT with this custody part (R76, R77). -/
def RecordState.doubtWith (st : RecordState) (n : Nat) (h : Byte) : Bool :=
  match st with
  | .inDoubt c _ _ => c.counterpart == n && c.handoff == h
  | _ => false

/-- Whether a held record of a tool id is IN_DOUBT with this custody part. -/
def State.doubtful? (s : State) (tool : ToolId) (n : Nat) (h : Byte) : Bool :=
  match s.find tool with
  | some r => r.state.doubtWith n h
  | none => false

/-- The custody engine takes an ACCEPT(T, h) from a station (R76). -/
def State.applyAccept (s : State) (n : Nat) (tool : ToolId) (h : Byte) : State :=
  match s.outFor tool n h with
  | some i => (s.freeOut i).depart tool n
  | none =>
    if s.doubtful? tool n h then s.depart tool n
    else s.post .lateAccept tool (parts (byte n ++ [h]))

/-- The custody engine takes an ACCEPT frame, in each of the three states of R63 (R76). -/
def State.takeAccept (s : State) (f : RxFrame) : State :=
  s.applyAccept f.source.toNat (toolAt f.payload) (byteAt f.payload 4)

/-- ACCEPT (R76). -/
def execAccept (s : State) : StepOutcome := deliver .accept State.takeAccept s

/-- A matching DECLINE: the record returns to its prior state, and the notices of R77 follow. -/
def State.declined (s : State) (n : Nat) (tool : ToolId) (reason : Nat) : State :=
  let t := match (s.find tool).bind (·.state.prior) with
    | some p => s.returnToPrior tool p
    | none => s
  let t := t.post .offerDeclined tool (parts (byte n ++ byte reason))
  if reason = DeclineReason.alreadyHeld.code then t.postDuplicate tool n .decline else t

/-- The custody engine takes a DECLINE(T, h, reason) from a station (R77). -/
def State.applyDecline (s : State) (n : Nat) (tool : ToolId) (h : Byte) (reason : Nat) : State :=
  match s.outFor tool n h with
  | some i => (s.freeOut i).declined n tool reason
  | none => if s.doubtful? tool n h then s.declined n tool reason else s

/-- The custody engine takes a DECLINE frame, in each of the three states of R63 (R77). -/
def State.takeDecline (s : State) (f : RxFrame) : State :=
  s.applyDecline f.source.toNat (toolAt f.payload) (byteAt f.payload 4) (field f.payload 5 1)

/-- DECLINE (R77). -/
def execDecline (s : State) : StepOutcome := deliver .decline State.takeDecline s

/-! ### HERE (R67) -/

/-- The busy station of the open call slot at an index is noted (R67, NO_SLOT). -/
def State.noteBusy (s : State) (i : Nat) (n : Nat) : State :=
  { s with custody.calls :=
      s.custody.calls.modify i (Option.map (fun c => { c with busyStation := some n })) }

/-- The custody engine takes a HERE from a station (R67). -/
def State.applyHere (s : State) (n : Nat) (tool : ToolId) (reason : Nat) : State :=
  match s.callFor tool with
  | some i =>
    match BlockReason.ofHere reason with
    | some r => s.closeCall i (.blocked r) n
    | none => s.noteBusy i n
  | none => if (s.find tool).isSome then s.postDuplicate tool n .here else s

/-- The custody engine takes a HERE frame (R67). -/
def State.takeHere (s : State) (f : RxFrame) : State :=
  s.applyHere f.source.toNat (toolAt f.payload) (field f.payload 4 1)

/-- HERE (R67). -/
def execHere (s : State) : StepOutcome := deliver .here State.takeHere s

/-! ### CHECK, CHECK_REPLY (R81, R82) -/

/-- The answer to CHECK(T, h) from a station: the first that applies (R81). -/
def State.checkAnswer (s : State) (n : Nat) (tool : ToolId) (h : Byte) : CheckAnswer :=
  if (s.find tool).isSome then .holding
  else if s.custody.accepted.contains { source := n, handoff := h, tool := tool } then .passed
  else .unknown

/-- The custody engine takes a CHECK, only while the node is ONLINE (R63, R81). -/
def State.takeCheck (s : State) (f : RxFrame) : State :=
  let n := f.source.toNat
  let tool := toolAt f.payload
  let h := byteAt f.payload 4
  if !s.online then s
  else s.reply .checkReply n (answerPayload tool h (s.checkAnswer n tool h).code)

/-- CHECK (R81). -/
def execCheck (s : State) : StepOutcome := deliver .check State.takeCheck s

/-- The prior state of a held record that is IN_DOUBT with this custody part and a check outstanding (R82). -/
def State.checkedPrior (s : State) (tool : ToolId) (n : Nat) (h : Byte) : Option Prior :=
  match s.find tool with
  | some r =>
    match r.state with
    | .inDoubt c p (some _) => if c.counterpart = n ∧ c.handoff = h then some p else none
    | _ => none
  | none => none

/-- The custody engine takes a CHECK_REPLY(T, h, answer) from a station (R82). -/
def State.applyCheckReply (s : State) (n : Nat) (tool : ToolId) (h : Byte) (answer : Nat) : State :=
  match s.checkedPrior tool n h with
  | none => s
  | some p =>
    let t := if answer = CheckAnswer.unknown.code then s.returnToPrior tool p else s.depart tool n
    t.post .doubtSettled tool (parts (byte n ++ byte answer))

/-- The custody engine takes a CHECK_REPLY frame (R82). -/
def State.takeCheckReply (s : State) (f : RxFrame) : State :=
  s.applyCheckReply f.source.toNat (toolAt f.payload) (byteAt f.payload 4) (field f.payload 5 1)

/-- CHECK_REPLY (R82). -/
def execCheckReply (s : State) : StepOutcome := deliver .checkReply State.takeCheckReply s

/-! ### The waits (R66, R71, R80) -/

/-- A new try of the call at an index: its last CALL still queued stands for it, otherwise a new one is handed
over (R62, R66). -/
def State.retryCall (s : State) (i : Nat) (c : CallSlot) : State :=
  let t := { s with custody.calls := s.custody.calls.set i (some
    { c with tries := c.tries + 1, deadline := after s.now Config.callWait }) }
  if t.line.queuedFor (.call (i + 1)) then t else t.offerFrame (callFrame i c.tool c.purpose)

/-- CALL_WAIT_EXPIRY: the deadline of call slot 1 to 4 expires (R66). -/
def execCallWaitExpiry (slot : Nat) (s : State) : StepOutcome :=
  if slot = 0 then .next s
  else
    match s.call? (slot - 1) with
    | none => .next s
    | some c =>
      if !reached s.now c.deadline then .next s
      else if c.tries < Config.triesMax then .next (s.retryCall (slot - 1) c)
      else .next (s.closeCall (slot - 1) .noAnswer (c.busyStation.getD 0))

/-- A new try of the offer at an index: its last OFFER still queued stands for it, otherwise a new one with the
same content is handed over (R62, R71). -/
def State.retryOffer (s : State) (i : Nat) (o : OutSlot) : State :=
  let t := { s with custody.outs := s.custody.outs.set i (some
    { o with tries := o.tries + 1, deadline := after s.now Config.offerWait }) }
  if t.line.queuedFor (.offer (i + 1)) then t
  else
    match t.find o.tool with
    | some r => t.offerFrame (offerFrameOf i o r.image)
    | none => t

/-- OFFER_WAIT_EXPIRY: the deadline of outbound slot 1 to 4 expires (R71). -/
def execOfferWaitExpiry (slot : Nat) (s : State) : StepOutcome :=
  if slot = 0 then .next s
  else
    match s.out? (slot - 1) with
    | none => .next s
    | some o =>
      if !reached s.now o.deadline then .next s
      else if o.tries < Config.triesMax then .next (s.retryOffer (slot - 1) o)
      else .next (s.lapse (slot - 1) .retries)

/-- CHECK_WAIT_EXPIRY: the deadline of a record's outstanding check expires (R80). -/
def execCheckWaitExpiry (tool : ToolId) (s : State) : StepOutcome :=
  match s.find tool with
  | none => .next s
  | some r =>
    match r.state with
    | .inDoubt c p (some d) =>
      if reached s.now d then
        .next ((s.setState tool (.inDoubt c p none)).removeFrames (.check tool))
      else .next s
    | _ => .next s

end Sys2Proof.Machine
end

