-- ==== Sys2Proof/Machine/Drive.lean ====
section
/-! DEFINITION. The lock drive and what the panel unit makes of it: open and close requests, the start rule,
latched faults, the reports of R97 and the crib operations they move (05 and 06). -/

namespace Sys2Proof.Machine

/-! ### Panels (R105, R112) -/

/-- The state of a panel. -/
def State.panel (s : State) : PanelId → Panel
  | .a => s.panels.a
  | .b => s.panels.b

/-- A change of a panel's state. -/
def State.setPanel (s : State) (i : PanelId) (f : Panel → Panel) : State :=
  match i with
  | .a => { s with panels.a := f s.panels.a }
  | .b => { s with panels.b := f s.panels.b }

/-- Pockets of an operation that reached OPEN (R120). -/
def Operation.opened (o : Operation) : Nat := o.pockets.countP (·.reachedOpen)

/-- Pockets of an operation that ended DRIVE_FAULT (R120). -/
def Operation.faulted (o : Operation) : Nat := o.pockets.countP (·.status == .ended .driveFault)

/-- The pocket of an ISSUE or a RETURN. -/
def Operation.pocket (o : Operation) : Nat := (o.pockets.head?.map (·.pocket)).getD 0

/-- The notice of an operation's end (R113, R120). -/
def Operation.doneNotice (o : Operation) (outcome : OpOutcome) : NoticeKind × BitVec 32 :=
  match o.kind with
  | .issue _ _ => (.issueDone, parts (byte outcome.code ++ byte o.pocket))
  | .ret => (.returnDone, parts (byte outcome.code ++ byte o.pocket))
  | .service => (.serviceDone, parts (byte outcome.code ++ byte o.opened ++ byte o.faulted))

/-- The panel's operation ends: it becomes none, and its notice is posted (R112, R113). -/
def State.endOperation (s : State) (i : PanelId) (outcome : OpOutcome) : State :=
  match (s.panel i).operation with
  | none => s
  | some o =>
    (s.setPanel i (fun p => { p with operation := none })).post
      (o.doneNotice outcome).1 (num (panelCode i)) (o.doneNotice outcome).2

/-- The outcome in which a report about its pocket ends an ISSUE, if it does (R113). SUPPLY_LOW and CANCELLED
end an operation as a whole, in the events of R94 and R121. -/
def issueOutcome : Report → Option OpOutcome
  | .taken => some .taken
  | .forced => some .forced
  | .holdExpired => some .notTaken
  | .driveFault => some .driveFault
  | _ => none

/-- The outcome in which a report about its pocket ends a RETURN, if it does (R113). -/
def returnOutcome : Report → Option OpOutcome
  | .filled | .unexpectedInsert => some .placed
  | .holdExpired => some .notPlaced
  | .driveFault => some .driveFault
  | _ => none

/-- The status of a pocket after a report (R112, R113): OPENED and SERVICE_REMOVED leave it OPEN, every other
report ends it. -/
def OpPocket.after (k : OpPocket) : Report → OpPocket
  | .opened => { k with status := .opened, reachedOpen := true }
  | .serviceRemoved => k
  | r => { k with status := .ended r }

/-- An operation after a report about one of its pockets. -/
def Operation.after (o : Operation) (pocket : Nat) (r : Report) : Operation :=
  { o with pockets := o.pockets.map (fun k => if k.pocket = pocket then k.after r else k) }

/-- The outcome in which an operation ends on a report about one of its pockets, if it does (R113, R120): a
SERVICE operation ends COMPLETED with its last pocket. -/
def Operation.outcomeOn (o : Operation) (r : Report) : Option OpOutcome :=
  match o.kind with
  | .issue _ _ => issueOutcome r
  | .ret => returnOutcome r
  | .service =>
    if r = .supplyLow ∨ r = .cancelled then none
    else if o.pockets.all (·.status.isEnded) then some .completed else none

/-- The panel unit applies a report to the operation of the panel it names (R97, R113). -/
def State.report (s : State) (why : Opening) (pocket : Nat) (r : Report) : State :=
  match (s.panel why.panel).operation with
  | none => s
  | some o =>
    let o' := o.after pocket r
    let t := s.setPanel why.panel (fun p => { p with operation := some o' })
    match r with
    | .opened =>
      t.post .pocketOpened (num pocket)
        (parts (byte (panelCode why.panel) ++ byte why.purpose.code))
    | .serviceRemoved => t
    | _ =>
      match o'.outcomeOn r with
      | some outcome => t.endOperation why.panel outcome
      | none => t

/-! ### The drive sequence (R89 to R96) -/

/-- The head of the drive queue starts pull-in in the lowest free slot, if the start rule's conditions hold
(R90, R91). -/
def State.startOne (s : State) : Option State :=
  match s.bank.queue, s.bank.pullIns.findIdx? Option.isNone with
  | p :: rest, some i =>
    if s.bank.energised < Config.energisedMax then
      some (State.setPocket
        { s with bank := { s.bank with
          queue := rest
          pullIns := s.bank.pullIns.set i
            (some { pocket := p, deadline := after s.now s.config.pullInMs }) } }
        p (fun k => match k.lock with
          | .queued w => { k with lock := .pulling w false }
          | _ => k))
    else none
  | _, _ => none

/-- The start rule applied at most n times, until one of its conditions fails. -/
def startUpTo : Nat → State → State
  | 0, s => s
  | n + 1, s =>
    match s.startOne with
    | none => s
    | some t => startUpTo n t

/-- The start rule (R90). -/
def State.startRule (s : State) : State := startUpTo s.bank.queue.length s

/-- A lock becomes CLOSED: out of the drive queue, its pull-in slot freed, its purpose and hold deadline
gone (R92, R95, R96). -/
def State.closeLock (s : State) (p : Nat) : State :=
  State.setPocket
    { s with bank := { s.bank with
      queue := s.bank.queue.filter (· != p)
      pullIns := s.bank.pullIns.map (fun q => match q with
        | some w => if w.pocket = p then none else some w
        | none => none) } }
    p (fun k => { k with lock := .closed })

/-- An open request (R89); `issueFor` is the for-station of an ISSUE. The mark is removed unless the request is
an ISSUE for the marked station (R102). -/
def State.openRequest (s : State) (p : Nat) (why : Opening) (issueFor : Option Nat) :
    Except HostResult State :=
  match s.pocket? p with
  | none => .error .outOfRange
  | some k =>
    if s.bank.supply = .low then .error .supplyLow
    else if !k.inService then .error .pocketFault
    else if !k.lock.isClosed then .error .badState
    else
      let keep := why.purpose == .issue && k.reservedFor == issueFor
      .ok (State.startRule (State.setPocket
        { s with bank.queue := s.bank.queue ++ [p] } p
        (fun k => { k with
          lock := .queued why
          reservedFor := if keep then k.reservedFor else none })))

/-- A close request (R96): without effect on a CLOSED lock. -/
def State.closeRequest (s : State) (p : Nat) : State :=
  match (s.pocket? p).bind (·.lock.opening) with
  | none => s
  | some why => ((s.closeLock p).report why p .cancelled).startRule

/-- A fault is latched (R92). -/
def State.latchFault (s : State) (p : Nat) (why : Opening) (f : LockFault) : State :=
  let t := (s.closeLock p).setPocket p (fun k => { k with fault := f, reservedFor := none })
  let t := t.post .pocketFault (num p) (parts (byte f.code ++ byte why.purpose.code))
  ((t.report why p .driveFault).startRule).markingPass

/-- A lock is released by the end of its course: CLOSED, the panel unit told, the start rule and the marking
pass applied (R95, R101). -/
def State.endCourse (s : State) (p : Nat) (why : Opening) (r : Report) : State :=
  (((s.closeLock p).report why p r).startRule).markingPass

/-- A record becomes STOCKED in a pocket; the pocket is offered to the reservations that are short (R88,
R12). -/
def State.stock (s : State) (tool : ToolId) (p : Nat) : State :=
  ((s.setState tool (.stocked p)).setPocket p (fun k => { k with occupancy := .held tool })).markingPass

/-- A STOCKED record leaves its pocket: the occupancy becomes EMPTY and any mark goes (R88, R102). -/
def State.unstock (s : State) (tool : ToolId) (p : Nat) (st : RecordState) : State :=
  (s.setState tool st).setPocket p (fun k => { k with occupancy := .empty, reservedFor := none })

end Sys2Proof.Machine
end

