-- ==== Sys2Proof/Machine/PocketEvents.lean ====
section
/-! DEFINITION. The pocket bank's events and commands (05_pocket_bank_and_lock_drive.md): sensor readings,
currents, the pull-in and hold deadlines, the supply monitor, CLEAR_POCKET_FAULT, READ_POCKET, and
IDENTIFY_POCKET of 06_panels_issue_and_return.md. -/

namespace Sys2Proof.Machine

/-! ### Presence events (R86, R87, R98 to R101) -/

/-- The settled reading of an input level under a polarity (R86). -/
def levelReading (presentHigh levelHigh : Bool) : Reading :=
  if presentHigh = levelHigh then .present else .absent

/-- The presence reading of a pocket changes (R86). -/
def State.setReading (s : State) (p : Nat) (r : Reading) : State :=
  s.setPocket p (fun k => { k with presence := r })

/-- The occupancy of a pocket changes (R88). -/
def State.setOccupancy (s : State) (p : Nat) (o : Occupancy) : State :=
  s.setPocket p (fun k => { k with occupancy := o })

/-- A forced removal (R98): the record becomes MISSING; a QUEUED request is withdrawn and reported FORCED. -/
def State.forcedRemoval (s : State) (p : Nat) (tool : ToolId) (lock : Lock) : State :=
  let t := s.unstock tool p .missing
  match lock with
  | .queued why =>
    let t := ((t.closeLock p).postChanged tool).post .forcedRemoval (num p) tool
    ((t.report why p .forced).startRule).markingPass
  | _ => ((t.postChanged tool).post .forcedRemoval (num p) tool).markingPass

/-- Whether a row is the one of a station and a class; at most one is (R166). -/
def Reservation.isFor (row : Reservation) (station cls : Nat) : Bool :=
  row.requester == station && row.cls == cls

/-- A served issue lowers its row, and the row goes at 0 (R171). -/
def State.serveReservation (s : State) (station cls : Nat) : State :=
  match s.reservations.find? (fun row => row.isFor station cls) with
  | none => s
  | some row =>
    let t :=
      if row.wanted ≤ 1 then s.deleteRows (fun row => row.isFor station cls)
      else { s with reservations := s.reservations.map (fun row =>
        if row.isFor station cls then { row with wanted := row.wanted - 1 } else row) }
    t.post .reservationServed (num station) (parts (beBytes 2 cls ++ byte (row.wanted - 1)))

/-- The for-station of the ISSUE that runs on a panel. -/
def State.issueStation (s : State) (i : PanelId) : Option Nat :=
  match (s.panel i).operation with
  | some { kind := .issue _ station, .. } => some station
  | _ => none

/-- An ISSUE completes (R99, R116, R171). The reservation is used up when the pocket carried a mark for the
issue's for-station. -/
def State.completeIssue (s : State) (p : Nat) (k : Pocket) (tool : ToolId) (why : Opening) : State :=
  let station := s.issueStation why.panel
  let cls := classIn s.records k
  let t := ((s.closeLock p).unstock tool p .loose).postChanged tool
  let t := t.report why p .taken
  let t := match k.reservedFor with
    | some n => if station = some n then t.serveReservation n cls else t
    | none => t
  (t.startRule).markingPass

/-- A HELD tool leaves a SERVICE pocket, whose lock keeps its phase (R99). -/
def State.serviceRemoval (s : State) (p : Nat) (tool : ToolId) (why : Opening) : State :=
  let t := (s.unstock tool p .loose).postChanged tool
  let t := t.post .serviceRemoved (num p) tool
  (t.report why p .serviceRemoved).markingPass

/-- A removal from a pocket whose occupancy is HELD, by lock phase and purpose (R98, R99). A HELD tool is
never removed from an open RETURN pocket; the SERVICE row stands for it. DESIGN CHOICE (log 15). -/
def State.heldRemoval (s : State) (p : Nat) (k : Pocket) (tool : ToolId) : State :=
  match k.lock with
  | .closed | .queued _ => s.forcedRemoval p tool k.lock
  | .pulling why _ | .holding why _ =>
    if why.purpose = .issue then s.completeIssue p k tool why else s.serviceRemoval p tool why

/-- A removal by occupancy (R98 to R100); the call's CALL_DONE comes before POCKET_EMPTIED. DEDUCED (log 10). -/
def State.removal (s : State) (p : Nat) (k : Pocket) : State :=
  match k.occupancy with
  | .held tool => s.heldRemoval p k tool
  | .unknown =>
    ((s.setOccupancy p .empty).withdrawCall (.pocket p)).post .pocketEmptied (num p) 0
  | .empty => s

/-- POCKET_REMOVAL: a reading settles from PRESENT to ABSENT (R86, R98 to R100). -/
def execPocketRemoval (pocket : Nat) (s : State) : StepOutcome :=
  match s.pocket? pocket with
  | none => .next s
  | some k =>
    if k.presence = .present then .next ((s.setReading pocket .absent).removal pocket k) else .next s

/-- POCKET_FIRST_READING: the first settled reading replaces UNSETTLED; ABSENT empties the pocket, or is a
forced removal where a CREATE has placed a record (R87). Where that pocket's lock is not CLOSED, a QUEUED request is
withdrawn as FORCED, and a PULLING or HOLDING lock keeps its phase. DESIGN CHOICE (log 31). -/
def execPocketFirstReading (pocket : Nat) (levelHigh : Bool) (s : State) : StepOutcome :=
  match s.pocket? pocket with
  | none => .next s
  | some k =>
    if k.presence ≠ .unsettled then .next s
    else
      let r := levelReading s.config.sensorHigh levelHigh
      let t := s.setReading pocket r
      if r = .present then .next t
      else
        match k.occupancy with
        | .held tool => .next (t.forcedRemoval pocket tool k.lock)
        | .unknown | .empty => .next (t.setOccupancy pocket .empty)

/-- UNEXPECTED_INSERT with the lock phase at insertion (R101). -/
def State.postInsert (s : State) (p : Nat) (lock : Lock) : State :=
  s.post .unexpectedInsert (num p) (num lock.code)

/-- An insertion by lock phase and purpose (R101); an ISSUE pocket meets none, and keeps its lock if it does
DESIGN CHOICE (log 15). -/
def State.insertion (s : State) (p : Nat) (lock : Lock) : State :=
  match lock with
  | .closed => s.postInsert p lock
  | .queued why | .pulling why _ =>
    ((((s.closeLock p).postInsert p lock).report why p .unexpectedInsert).startRule).markingPass
  | .holding why _ => if why.purpose = .issue then s else s.endCourse p why .filled

/-- POCKET_INSERTION: a reading settles from ABSENT to PRESENT (R86, R101). -/
def execPocketInsertion (pocket : Nat) (s : State) : StepOutcome :=
  match s.pocket? pocket with
  | none => .next s
  | some k =>
    if k.presence = .absent then
      .next (((s.setReading pocket .present).setOccupancy pocket .unknown).insertion pocket k.lock)
    else .next s

/-! ### Currents and deadlines (R91, R92, R95) -/

/-- CURRENT_SEEN: the current reaches the open-load threshold during a pull-in (R91). -/
def execCurrentSeen (pocket : Nat) (s : State) : StepOutcome :=
  match s.pocket? pocket with
  | none => .next s
  | some k =>
    match k.lock with
    | .pulling why _ => .next (s.setPocket pocket (fun k => { k with lock := .pulling why true }))
    | _ => .next s

/-- The pull-in slot that a pocket holds, with its number from 1 (R90). -/
def Bank.pullInOf (b : Bank) (p : Nat) : Option (Nat × PullIn) :=
  (b.pullIns.zipIdx 1).findSome? (fun e => match e.1 with
    | some w => if w.pocket = p then some (e.2, w) else none
    | none => none)

/-- A pull-in slot falls free (R91). -/
def State.freePullIn (s : State) (p : Nat) : State :=
  { s with bank.pullIns := s.bank.pullIns.map (fun q => match q with
    | some w => if w.pocket = p then none else some w
    | none => none) }

/-- A clean pull-in: HOLDING with its hold deadline, the slot freed, OPENED reported, the start rule applied
(R91). -/
def State.hold (s : State) (p : Nat) (why : Opening) : State :=
  let t := s.setPocket p (fun k =>
    { k with lock := .holding why (after s.now (1000 * s.config.holdS)) })
  ((t.freePullIn p).report why p .opened).startRule

/-- PULL_IN_EXPIRY: a pull-in deadline expires (R91, R92). -/
def execPullInExpiry (pocket : Nat) (s : State) : StepOutcome :=
  match s.pocket? pocket, s.bank.pullInOf pocket with
  | some k, some (_, w) =>
    match k.lock with
    | .pulling why seen =>
      if !reached s.now w.deadline then .next s
      else if seen then .next (s.hold pocket why)
      else .next (s.latchFault pocket why .openLoad)
    | _ => .next s
  | _, _ => .next s

/-- SHORT_CURRENT: a current above the short threshold while PULLING or HOLDING (R92). -/
def execShortCurrent (pocket : Nat) (s : State) : StepOutcome :=
  match s.pocket? pocket with
  | none => .next s
  | some k =>
    match k.lock with
    | .pulling why _ | .holding why _ => .next (s.latchFault pocket why .short)
    | _ => .next s

/-- HOLD_EXPIRY: a hold deadline expires (R95). -/
def execHoldExpiry (pocket : Nat) (s : State) : StepOutcome :=
  match s.pocket? pocket with
  | none => .next s
  | some k =>
    match k.lock with
    | .holding why d =>
      if reached s.now d then .next (s.endCourse pocket why .holdExpired) else .next s
    | _ => .next s

/-! ### Supply (R94) -/

/-- Locks that are not CLOSED (R94). -/
def Bank.moving (b : Bank) : Nat := b.pockets.countP (fun k => !k.lock.isClosed)

/-- Every lock CLOSED, the drive queue empty, every pull-in slot free, the supply LOW (R94). -/
def State.cutSupply (s : State) : State :=
  { s with bank :=
      { pockets := s.bank.pockets.map (fun k => { k with lock := .closed })
        queue := []
        pullIns := List.replicate Config.pullInSlots none
        supply := .low } }

/-- A supply-low event (R94, R113). -/
def State.supplyLow (s : State) : State :=
  let t := s.cutSupply.post .supplyLow 0 (num s.bank.moving)
  ((t.endOperation .a .supplyLow).endOperation .b .supplyLow).markingPass

/-- Whether the lock-supply monitor is read: from CONFIGURE at a node with pockets (R94, R85). -/
def State.supplyRead (s : State) : Bool := s.configured && 0 < s.config.pocketCount

/-- SUPPLY_LOW: a settled LOW reading while the state is NORMAL (R94). -/
def execSupplyLow (s : State) : StepOutcome :=
  if s.supplyRead && s.bank.supply == .normal then .next s.supplyLow else .next s

/-- SUPPLY_NORMAL: a settled NORMAL reading while the state is LOW (R94). -/
def execSupplyNormal (s : State) : StepOutcome :=
  if s.supplyRead && s.bank.supply == .low then
    .next ({ s with bank.supply := .normal }.post .supplyNormal 0 0)
  else .next s

/-! ### Host commands (R93, R103, R122) -/

/-- A latched fault is cleared and the pocket offered to the reservations (R93). -/
def State.clearFault (s : State) (p : Nat) (k : Pocket) : State :=
  ((s.setPocket p (fun k => { k with fault := .none })).post .pocketFaultCleared (num p)
    (num k.fault.code)).markingPass

/-- CLEAR_POCKET_FAULT's own rule (R93). -/
def clearPocketFaultBody (pocket : Byte) (s : State) : CommandResult :=
  if !s.configured then .error .notConfigured
  else
    match s.pocket? pocket.toNat with
    | none => .error .outOfRange
    | some k =>
      if !k.lock.isClosed then .error .badState
      else if k.inService then done s
      else done (s.clearFault pocket.toNat k)

/-- CLEAR_POCKET_FAULT (R93). -/
def execClearPocketFault (pocket : Byte) (s : State) : StepOutcome :=
  hostCommand (.clearPocketFault pocket) (clearPocketFaultBody pocket) s

/-- The tool id of a HELD pocket. -/
def Occupancy.tool : Occupancy → Option ToolId
  | .held t => some t
  | _ => none

/-- The position of a pocket in the drive queue, 1 for the head, when QUEUED (R103). -/
def Bank.position (b : Bank) (p : Nat) : Option Nat := (b.queue.findIdx? (· == p)).map (· + 1)

/-- The milliseconds left of the pull-in or of the hold, according to the phase (R103, 11.3). -/
def Bank.lockLeft (b : Bank) (now : Millis) (p : Nat) (k : Pocket) : List Byte :=
  match k.lock with
  | .pulling _ _ => msLeftBytes now ((b.pullInOf p).map (·.2.deadline))
  | .holding _ d => msLeftBytes now (some d)
  | _ => noneBytes 4

/-- The payload of READ_POCKET (R103, 11.3). -/
def pocketPayload (s : State) (p : Nat) (k : Pocket) : List Byte :=
  byte k.presence.code ++ byte k.occupancy.code ++ orZero 4 (k.occupancy.tool.map BitVec.toNat)
    ++ byte k.lock.code ++ orZero 1 (s.bank.position p)
    ++ orZero 1 ((s.bank.pullInOf p).map (·.1)) ++ s.bank.lockLeft s.now p k
    ++ byte k.fault.code ++ orZero 1 k.reservedFor
    ++ orNone 1 (k.lock.opening.map (·.purpose.code))
    ++ orZero 1 (k.lock.opening.map (fun w => panelCode w.panel))
    ++ byte s.bank.supply.code ++ byte s.bank.queue.length ++ byte s.bank.pulling
    ++ byte s.bank.energised

/-- READ_POCKET's own rule (R103). -/
def readPocketBody (pocket : Byte) (s : State) : CommandResult :=
  if !s.configured then .error .notConfigured
  else
    match s.pocket? pocket.toNat with
    | none => .error .outOfRange
    | some k => .ok (s, pocketPayload s pocket.toNat k)

/-- READ_POCKET (R103). -/
def execReadPocket (pocket : Byte) (s : State) : StepOutcome :=
  hostCommand (.readPocket pocket) (readPocketBody pocket) s

/-- A call opened by a command that leaves its place waiting (R64). -/
def callCommand (s : State) (tool : ToolId) (why : Purpose) : CommandResult :=
  match s.openCall tool why with
  | .error reason => .error reason
  | .ok t => done t

/-- Whether a tool in a pocket can be identified: UNKNOWN, sensed present, CLOSED (R122). -/
def Pocket.identifiable (k : Pocket) : Bool :=
  k.occupancy == .unknown && k.presence == .present && k.lock.isClosed

/-- IDENTIFY_POCKET's own rule (R122). -/
def identifyPocketBody (pocket : Byte) (tool : ToolId) (s : State) : CommandResult :=
  if !s.configured then .error .notConfigured
  else
    match s.pocket? pocket.toNat with
    | none => .error .outOfRange
    | some k =>
      if tool = 0 then .error .outOfRange
      else if !k.identifiable then .error .badState
      else
        match s.find tool with
        | none => callCommand s tool (.pocket pocket.toNat)
        | some r =>
          match r.state with
          | .loose | .missing =>
            if (s.callAt (.pocket pocket.toNat)).isSome then .error .placeConflict
            else done ((s.stock tool pocket.toNat).postChanged tool)
          | .outbound _ _ | .inDoubt _ _ _ => .error .badState
          | _ => .error .placeConflict

/-- IDENTIFY_POCKET (R122). -/
def execIdentifyPocket (pocket : Byte) (tool : ToolId) (s : State) : StepOutcome :=
  hostCommand (.identifyPocket pocket tool) (identifyPocketBody pocket tool) s

end Sys2Proof.Machine
end

