-- ==== Sys2Proof/Machine/DemandUnit.lean ====
section
/-! DEFINITION. The demand sequencer and the reservation table (09_demand_and_reservations.md). -/

namespace Sys2Proof.Machine

/-! ### The sequencer's commands (R160, R161, R164, R173) -/

/-- Whether the node is configured without slots, where the sequencer is not used (R159). -/
def State.noSlots (s : State) : Bool := s.config.slotCount == 0

/-- An entry of a SET_DEMAND payload (11.3). -/
def sentEntry (e : BitVec 16 × Byte) : DemandEntry where
  cls := e.1.toNat
  count := e.2.toNat

/-- SET_DEMAND's own rule (R160); more than 85 entries are a length that the command does not take (11.3). -/
def setDemandBody (entries : List (BitVec 16 × Byte)) (s : State) : CommandResult :=
  let sent := entries.map sentEntry
  if 85 < entries.length then .error .unknownCommand
  else if !s.configured then .error .notConfigured
  else if s.noSlots || Config.demandMax < entries.length || sent.any badEntry then .error .outOfRange
  else
    let list := normalEntries sent
    .ok ({ s with demand.list := list }.refreshDemand false, byte list.length)

/-- SET_DEMAND (R160). -/
def execSetDemand (entries : List (BitVec 16 × Byte)) (s : State) : StepOutcome :=
  hostCommand (.setDemand entries) (setDemandBody entries) s

/-- A cycle point of a run (R162): a queued DEMAND is refreshed with CYCLE_OVERRUN, and a new one is offered if
the replacement is answered as not queued; otherwise a DEMAND is offered. -/
def State.cyclePoint (s : State) : State :=
  if s.line.queuedFor .demandRun then
    (s.post .cycleOverrun 0 (num s.demand.cycles)).refreshDemand true
  else s.offerDemand

/-- The mode of a START_DEMAND, its interval clamped to 1 to 60 s (R161, 11.3). -/
def sentMode (mode interval : Byte) : Option DemandMode :=
  if mode = 1 then some (.interval (clampNat 1 60 interval.toNat))
  else if mode = 2 then some .trigger
  else none

/-- The cycle deadline that a mode gives from now: present in INTERVAL mode (R159, R161). -/
def DemandMode.deadline (m : DemandMode) (now : Millis) : Option Millis :=
  match m with
  | .interval n => some (after now (1000 * n))
  | .trigger => none

/-- A run begins and takes its first cycle point (R161). -/
def State.startCycles (s : State) (m : DemandMode) (target hold : Nat) : State :=
  State.cyclePoint { s with demand := { s.demand with
    running := true, mode := m, target := target, cycles := 0, hold := hold,
    deadline := m.deadline s.now } }

/-- START_DEMAND's own rule (R161). -/
def startDemandBody (mode interval target hold : Byte) (s : State) : CommandResult :=
  if !s.configured then .error .notConfigured
  else
    match sentMode mode interval with
    | none => .error .outOfRange
    | some m =>
      if s.noSlots then .error .outOfRange
      else if !s.online then .error .notOnline
      else if s.demand.running then .error .badState
      else done (s.startCycles m target.toNat (clampNat 1 60 hold.toNat))

/-- START_DEMAND (R161). -/
def execStartDemand (mode interval target hold : Byte) (s : State) : StepOutcome :=
  hostCommand (.startDemand mode interval target hold) (startDemandBody mode interval target hold) s

/-- A run is stopped: its queued DEMAND removed, the withdrawal offered (R164). The frame-queued note is clear at once,
also while the removed DEMAND is in transmission. DEDUCED (log 29). -/
def State.stopCycles (s : State) : State :=
  let t := { s.removeFrames .demandRun with
    demand := { s.demand with running := false, deadline := none } }
  t.offerFrame (newFrame .demand 63 (demandPayload s.demand.hold []) .nobody)

/-- STOP_DEMAND's own rule (R164). -/
def stopDemandBody (s : State) : CommandResult :=
  if !s.configured then .error .notConfigured
  else if s.noSlots then .error .outOfRange
  else if !s.demand.running then .error .badState
  else done s.stopCycles

/-- STOP_DEMAND (R164). -/
def execStopDemand (s : State) : StepOutcome := hostCommand .stopDemand stopDemandBody s

/-- Demand mode codes (11.3). -/
def DemandMode.code : DemandMode → Nat
  | .interval _ => 1
  | .trigger => 2

/-- The interval of a mode; TRIGGER has none (R173). DEDUCED (log 17). -/
def DemandMode.seconds : DemandMode → Option Nat
  | .interval n => some n
  | .trigger => none

/-- The payload of READ_DEMAND (R173, 11.3). -/
def demandPayloadOf (s : State) : List Byte :=
  byte s.demand.list.length ++ s.demand.list.flatMap (fun e => beBytes 2 e.cls ++ byte e.count)
    ++ flagByte s.demand.running ++ byte s.demand.mode.code ++ orNone 1 s.demand.mode.seconds
    ++ byte s.demand.target ++ byte s.demand.cycles ++ byte s.demand.hold
    ++ msLeftBytes s.now s.demand.deadline ++ flagByte (s.line.queuedFor .demandRun)

/-- READ_DEMAND's own rule (R173). -/
def readDemandBody (s : State) : CommandResult :=
  if !s.configured then .error .notConfigured
  else if s.noSlots then .error .outOfRange
  else .ok (s, demandPayloadOf s)

/-- READ_DEMAND (R173). -/
def execReadDemand (s : State) : StepOutcome := hostCommand .readDemand readDemandBody s

/-! ### Cycle points (R162) -/

/-- CYCLE_EXPIRY: the cycle deadline expires in INTERVAL mode (R162). -/
def execCycleExpiry (s : State) : StepOutcome :=
  if s.demand.running && due s.now s.demand.deadline then
    .next (State.cyclePoint { s with demand.deadline := s.demand.mode.deadline s.now })
  else .next s

/-- TRIGGER_EDGE: the trigger input settles at a changed level; to the active level it is a cycle point in
TRIGGER mode (R162). -/
def execTriggerEdge (levelHigh : Bool) (s : State) : StepOutcome :=
  if s.configured && !s.noSlots && levelHigh == s.config.triggerHigh && s.demand.running
      && s.demand.mode == .trigger then .next s.cyclePoint
  else .next s

/-! ### DEMAND at a crib (R167, R168) -/

/-- What becomes of an entry of a taken DEMAND (R168 step 2). -/
inductive EntryFate where
  | updated
  | created
  | skipped
  deriving DecidableEq, Repr

/-- One class of a taken DEMAND at the reservation table (R168 step 2). -/
def reserveOne (n : Nat) (expiry : Millis) (rows : List Reservation) (e : DemandEntry) :
    List Reservation × EntryFate :=
  if rows.any (fun r => r.isFor n e.cls) then
    (rows.map (fun r => if r.isFor n e.cls then { r with wanted := e.count, expiry := expiry } else r),
      .updated)
  else if rows.length < Config.reservationMax then
    (rows ++ [{ requester := n, cls := e.cls, wanted := e.count, expiry := expiry }], .created)
  else (rows, .skipped)

/-- The classes of a taken DEMAND in list order, each with its fate (R168 step 2). -/
def reserveAll (n : Nat) (expiry : Millis) (rows : List Reservation) :
    List DemandEntry → List Reservation × List (DemandEntry × EntryFate)
  | [] => (rows, [])
  | e :: rest =>
    let r := reserveOne n expiry rows e
    let q := reserveAll n expiry r.1 rest
    (q.1, (e, r.2) :: q.2)

/-- The marked count of a requester's row of a class (R166). -/
def State.markedFor (s : State) (n cls : Nat) : Nat :=
  match s.reservations.find? (fun r => r.isFor n cls) with
  | some row => marked s.records row s.bank.pockets
  | none => 0

/-- The notice of an entry: RESERVATION_ADDED with its counts after the pass, or RESERVATION_FULL; none for an
updated row (R168). -/
def State.postFate (s : State) (n : Nat) (e : DemandEntry × EntryFate) : State :=
  match e.2 with
  | .updated => s
  | .created => s.post .reservationAdded (num n)
      (parts (beBytes 2 e.1.cls ++ byte e.1.count ++ byte (s.markedFor n e.1.cls)))
  | .skipped => s.post .reservationFull (num n) (parts (beBytes 2 e.1.cls ++ byte e.1.count))

/-- A DEMAND from a station is taken: rows not listed deleted, listed rows updated, created or skipped, the pass
run, the notices posted (R168). -/
def State.applyDemand (s : State) (n hold : Nat) (list : List DemandEntry) : State :=
  let gone (row : Reservation) : Bool := row.requester == n && !list.any (·.cls == row.cls)
  let t := s.deleteRows gone
  let r := reserveAll n (after s.now (1000 * hold)) t.reservations list
  let t := { t with reservations := r.1 }.markingPass
  r.2.foldl (fun t e => t.postFate n e) (postEnded .withdrawn (s.reservations.filter gone) t)

/-- The reservation table takes a DEMAND: ignored while LISTENING, at a node with 0 pockets, and from a
DOUBTFUL sender (R167). -/
def State.takeDemand (s : State) (f : RxFrame) : State :=
  let n := f.source.toNat
  if !s.fieldReady || s.config.pocketCount == 0 || s.doubtful n then s
  else
    s.applyDemand n (clampNat 1 60 (field f.payload 0 1))
      (normalEntries (parseEntries (f.payload.drop 1)))

/-- DEMAND (R167, R168). -/
def execDemand (s : State) : StepOutcome := deliver .demand State.takeDemand s

/-- RESERVATION_EXPIRY: the expiry deadline of a row expires (R172). -/
def execReservationExpiry (requester cls : Nat) (s : State) : StepOutcome :=
  match s.reservations.find? (fun r => r.isFor requester cls) with
  | none => .next s
  | some row =>
    if reached s.now row.expiry then
      .next (postEnded .expired [row] (s.deleteRows (fun r => r.isFor requester cls)).markingPass)
    else .next s

/-! ### READ_RESERVATIONS (R174) -/

/-- The numbers of the pockets marked for a row, ascending (R174). -/
def markedPockets (records : List ToolRecord) (row : Reservation) (pockets : List Pocket) : List Nat :=
  ((numbered pockets).filter (fun c => markOf records row c.1)).map (·.2)

/-- A row as READ_RESERVATIONS returns it; the marked count gives the length of the list behind it (R174, 11.3). -/
def rowBytes (s : State) (row : Reservation) : List Byte :=
  byte row.requester ++ beBytes 2 row.cls ++ byte row.wanted
    ++ byte (marked s.records row s.bank.pockets) ++ msLeftBytes s.now (some row.expiry)
    ++ (markedPockets s.records row s.bank.pockets).flatMap byte

/-- READ_RESERVATIONS's own rule (R174). -/
def readReservationsBody (s : State) : CommandResult :=
  if !s.configured then .error .notConfigured
  else .ok (s, byte s.reservations.length ++ s.reservations.flatMap (rowBytes s))

/-- READ_RESERVATIONS (R174). -/
def execReadReservations (s : State) : StepOutcome := hostCommand .readReservations readReservationsBody s

end Sys2Proof.Machine
end

