-- ==== Sys2Proof/Machine/LineEvents.lean ====
section
/-! DEFINITION. The line controller's events (02_the_hall_line.md): the line condition, the ends of an
attempt, the receiver, line supervision, and the duplicate station. -/

namespace Sys2Proof.Machine

/-- The length of a cell at the configured line rate, in ns (R24). -/
def State.cell (s : State) : Nat := cellNs s.config.lineRate

/-- Whether the receiver runs: from CONFIGURE (R26, R36). -/
def Line.running (l : Line) : Bool := l.receiver != .stopped

/-! ### The line condition (R26, R29) -/

/-- LINE_IDLE: 8 recessive cells after the last dominant pulse; a waiting head frame is attempted (R26, R29). -/
def execLineIdle (s : State) : StepOutcome :=
  if (s.line.condition == .receiving || s.line.condition == .transmitting) && !s.line.attempting then
    .next (State.startAttempt { s with line := { s.line with condition := .idle, receiver := .waiting } })
  else .next s

/-- DOMINANT_EDGE: an edge that this node did not drive, on an IDLE line (R26). -/
def execDominantEdge (s : State) : StepOutcome :=
  if s.line.running && s.line.condition == .idle then .next { s with line.condition := .receiving }
  else .next s

/-! ### The ends of an attempt (R30 to R32, R35) -/

/-- ARBITRATION_LOST: the frame stays queued at its place, and the node receives the winning frame (R30). -/
def execArbitrationLost (s : State) : StepOutcome :=
  if s.line.attempting then
    .next { s with line := { s.line with
      txQueue := attemptEnded s.line.txQueue, condition := .receiving } }
  else .next s

/-- The frame in transmission has left the queue. -/
def withoutSending (q : List TxFrame) : List TxFrame := q.filter (fun f => !f.sending)

/-- The bit-error count of the frame in transmission rises by 1 (R31). -/
def countError (q : List TxFrame) : List TxFrame :=
  q.map (fun f => if f.sending then { f with bitErrors := f.bitErrors + 1 } else f)

/-- An attempt is aborted on a bit error (R31): the frame is attempted again, leaves as its owner asked (R35),
or is discarded at 8 errors. A removal that waits comes before the discard. DEDUCED (log 20). -/
def State.abortAttempt (s : State) (f : TxFrame) : State :=
  if f.removeAfter then { s with line.txQueue := withoutSending s.line.txQueue }
  else if f.bitErrors + 1 < Config.bitErrorMax then
    { s with line.txQueue := attemptEnded (countError s.line.txQueue) }
  else
    ({ s with line.txQueue := withoutSending s.line.txQueue }.postDiscarded f .bitErrors).notQueued f

/-- BIT_ERROR: any other mismatch in an attempt (R31); a cell read back as a start mark opens a new frame. -/
def execBitError (startMark : Bool) (s : State) : StepOutcome :=
  match s.line.sendingFrame with
  | none => .next s
  | some f =>
    .next (State.abortAttempt
      { s with line := { s.line with
        condition := .receiving, receiver := if startMark then .assembling else .waiting } } f)

/-- The sent report of a DEMAND of the run (R163). -/
def State.demandSent (s : State) : State :=
  if !s.demand.running then s
  else
    let count := min 255 (s.demand.cycles + 1)
    let t := { s with demand.cycles := count }
    if 0 < s.demand.target ∧ s.demand.target ≤ count then
      { t with demand := { t.demand with running := false, deadline := none } }.post .demandDone 0
        (num count)
    else t

/-- The owner of a frame is told that it was sent (R32, R62, R163). -/
def State.reportSent (s : State) (f : TxFrame) : State :=
  if f.owner = .demandRun then s.demandSent else s

/-- FRAME_SENT: the last CRC cell read back without a mismatch (R32). The driven frame, whose source is the
station number (R183), has been sent. The condition stays TRANSMITTING until the idle gap. -/
def execFrameSent (s : State) : StepOutcome :=
  match s.line.sendingFrame with
  | none => .next s
  | some f =>
    let t := { s with line := { s.line with
      txQueue := withoutSending s.line.txQueue, receiver := .waiting, lastSent := s.driven } }
    .next ((t.reportSent f).notQueued f)

/-! ### Receiving (R36 to R38, R43) -/

/-- START_MARK_READ: a start mark ends the frame being assembled and opens a new one (R36). -/
def execStartMarkRead (widthNs : Nat) (s : State) : StepOutcome :=
  if s.line.running && s.line.condition != .held && !s.line.attempting
      && readPulse s.cell widthNs == .startMark then
    .next { s with line := { s.line with
      receiver := .assembling
      condition := if s.line.condition = .idle then .receiving else s.line.condition } }
  else .next s

/-- FRAMING_ERROR: the frame being assembled is dropped (R36). -/
def execFramingError (cause : FramingCause) (s : State) : StepOutcome :=
  if s.line.receiver == .assembling && !s.line.attempting && isFramingError s.cell cause then
    .next { s with line.receiver := .waiting }
  else .next s

/-- A frame of another station is offered to the receive queue (R38). -/
def State.queueReceived (s : State) (f : RxFrame) : State :=
  if s.line.rxQueue.length < Config.rxMax then { s with line.rxQueue := s.line.rxQueue ++ [f] }
  else { s with line.rxOverrun := true }

/-- A valid frame bearing the node's own source (R43); the notice has no object, so 0. DEDUCED (log 24). -/
def State.duplicateStation (s : State) (kind : BitVec 4) : State :=
  if s.line.duplicateSeen then s
  else
    State.enterListenOnly
      ({ s with line.duplicateSeen := true }.post .duplicateStation 0 (num kind.toNat))

/-- A frame with a matching CRC, by its source and the node state (R37). -/
def State.takeValid (s : State) (f : WireFrame) : State :=
  if f.source = 0 ∨ f.source = 63 then s
  else if f.source = s.port.station then s.duplicateStation f.kind
  else if s.port.nodeState = .configured then s
  else
    s.queueReceived
      { cls := f.cls, kind := f.kind, source := f.source, destination := f.destination,
        payload := f.payload }

/-- Whether a frame's payload has the length that its header announces, 0 to 56 (R27, R36). -/
def wellSized (f : WireFrame) : Bool :=
  f.length.toNat ≤ 56 && f.payload.length == f.length.toNat

/-- FRAME_RECEIVED: the receiver has read a whole frame (R37). The node's own cells are not a received frame. -/
def execFrameReceived (frame : WireFrame) (s : State) : StepOutcome :=
  if s.line.receiver == .assembling && !s.line.attempting && wellSized frame then
    let t := { s with line.receiver := .waiting }
    .next (if crcOk frame then t.takeValid frame else t)
  else .next s

/-! ### Line supervision (R40 to R42) -/

/-- The node's own driver is sensed asserting: it is disabled, and the node enters LISTEN_ONLY (R41). -/
def State.driverFault (s : State) : State :=
  State.enterListenOnly ({ s with line.driverDisabled := true }.post .driverFault 0 0)

/-- LINE_HELD: dominant for more than 4 cells without a break (R40, R41). An attempt has already ended in a bit
error by then. DEDUCED (log 21). -/
def execLineHeld (startNs : Nat) (driverAsserting : Bool) (s : State) : StepOutcome :=
  if s.line.running && s.line.condition != .held && !s.line.attempting then
    let t := { s with line := { s.line with
      condition := .held, receiver := .waiting, heldSince := some startNs } }
    let t := t.post .lineHeld 0 0
    .next (if driverAsserting then t.driverFault else t)
  else .next s

/-- The duration of a hold in whole milliseconds, rounded down (R42); the two moments are operands in ns. DESIGN
CHOICE (log 11). -/
def holdMs (startNs endNs : Nat) : Nat := (endNs - startNs) / 1000000

/-- LINE_RELEASED: 64 recessive cells end a hold (R42). -/
def execLineReleased (endNs : Nat) (s : State) : StepOutcome :=
  if s.line.condition == .held then
    let t := { s with line := { s.line with
      condition := .idle, receiver := .waiting, heldSince := none } }
    let t := t.post .lineReleased 0 (num (holdMs (s.line.heldSince.getD endNs) endNs))
    .next (if s.online then t.offerPresence.startAttempt else t)
  else .next s

end Sys2Proof.Machine
end

