-- ==== Sys2Proof/Machine/MagazineUnit.lean ====
section
/-! DEFINITION. The magazine unit (08_magazine_and_life_accounting.md): LOAD, UNLOAD, CHARGE and READ_SLOT. -/

namespace Sys2Proof.Machine

/-! ### LOAD (R147 to R149) -/

/-- A LOAD of a LOOSE record held here: LOADED where it is FIT, the slot REFUSED where it is not (R148). -/
def State.loadHere (s : State) (n : Nat) (tool : ToolId) (image : Image) : State :=
  match image.unfitReason with
  | none => ((s.setState tool (.loaded n)).setSlot n (.loaded tool)).postChanged tool
  | some why =>
    (s.setSlot n (.refused (.unfit why))).post .loadRefused tool (parts (byte n ++ byte why.code))

/-- The response of LOAD: the slot state that the command left (R147). -/
def loadAnswer (s : State) (n : Nat) : CommandResult :=
  .ok (s, orNone 1 ((s.slot? n).map MagSlot.code))

/-- LOAD's own rule (R147 to R149). -/
def loadBody (slot : Byte) (tool : ToolId) (s : State) : CommandResult :=
  if !s.configured then .error .notConfigured
  else
    match s.slot? slot.toNat with
    | none => .error .outOfRange
    | some m =>
      if tool = 0 then .error .outOfRange
      else if !s.fieldReady then .error .notOnline
      else if m ≠ .empty then .error .slotOccupied
      else
        match s.find tool with
        | none =>
          match s.openCall tool (.slot slot.toNat) with
          | .error reason => .error reason
          | .ok t => loadAnswer (t.setSlot slot.toNat (.calling tool)) slot.toNat
        | some r =>
          match r.state with
          | .loose => loadAnswer (s.loadHere slot.toNat tool r.image) slot.toNat
          | .missing | .outbound _ _ | .inDoubt _ _ _ => .error .badState
          | _ => .error .placeConflict

/-- LOAD (R147 to R149). -/
def execLoad (slot : Byte) (tool : ToolId) (s : State) : StepOutcome :=
  hostCommand (.load slot tool) (loadBody slot tool) s

/-! ### UNLOAD (R150) -/

/-- The effect of UNLOAD by slot state (R150). -/
def State.unloadSlot (s : State) (n : Nat) (m : MagSlot) : State :=
  match m with
  | .empty => s
  | .loaded tool => ((s.setState tool .loose).setSlot n .empty).postChanged tool
  | .calling _ => (s.setSlot n .empty).withdrawCall (.slot n)
  | .refused _ => s.setSlot n .empty

/-- UNLOAD's own rule (R150). -/
def unloadBody (slot : Byte) (s : State) : CommandResult :=
  if !s.configured then .error .notConfigured
  else
    match s.slot? slot.toNat with
    | none => .error .outOfRange
    | some m => done (s.unloadSlot slot.toNat m)

/-- UNLOAD (R150). -/
def execUnload (slot : Byte) (s : State) : StepOutcome := hostCommand (.unload slot) (unloadBody slot) s

/-! ### CHARGE (R152 to R154) -/

/-- An image after a charge (R153). -/
def Image.charged (i : Image) (seconds : Nat) : Image :=
  { i with lifeUsed := min (i.lifeUsed + seconds) i.lifeLimit }

/-- The excess of a charge over the life limit (R153). -/
def Image.excess (i : Image) (seconds : Nat) : Nat := i.lifeUsed + seconds - i.lifeLimit

/-- A notice posted when a condition holds. -/
def State.postIf (s : State) (c : Bool) (k : NoticeKind) (object argument : BitVec 32) : State :=
  if c then s.post k object argument else s

/-- Life used since the measurement, 0 without a measured block (R10, R154). -/
def Image.sinceOf (i : Image) : Nat :=
  match i.measured with
  | some m => i.sinceMeasure m
  | none => 0

/-- The notices of a charge, in the order of R154. -/
def State.postCharge (s : State) (tool : ToolId) (n : Nat) (before after : Image) (excess : Nat) :
    State :=
  let t := if before.lifeUsed = after.lifeUsed then s else s.postChanged tool
  let t := t.postIf (!before.low && after.low) .lifeLow tool (num after.remaining)
  let t := t.postIf (!before.worn && after.worn) .lifeWorn tool (num n)
  let t := t.postIf (!before.remeasureDue && after.remeasureDue) .remeasureDue tool (num after.sinceOf)
  t.postIf (0 < excess) .lifeOverrun tool (num excess)

/-- A charge to a LOADED record (R153, R154). -/
def State.charge (s : State) (tool : ToolId) (n : Nat) (image : Image) (seconds : Nat) : State :=
  (s.setImage tool (fun i => i.charged seconds)).postCharge tool n image (image.charged seconds)
    (image.excess seconds)

/-- What CHARGE answers where no record was charged: two items that its rule returns only in some case, each at
its width with every byte 255 (11.3). DEDUCED (log 16). -/
def unchargedBytes : List Byte := noneBytes 6

/-- CHARGE's own rule (R152): the seconds are clamped to 1 to 3600; a slot that is not LOADED posts
UNCHARGED, and there is no life used to answer (log 16). -/
def chargeBody (slot : Byte) (seconds : BitVec 16) (s : State) : CommandResult :=
  if !s.configured then .error .notConfigured
  else
    match s.slot? slot.toNat with
    | none => .error .outOfRange
    | some m =>
      let n := clampNat 1 3600 seconds.toNat
      if !s.fieldReady then .error .notOnline
      else
        match m with
        | .loaded tool =>
          match s.find tool with
          | some r =>
            .ok (s.charge tool slot.toNat r.image n,
              beBytes 3 (r.image.charged n).lifeUsed ++ beBytes 3 (r.image.excess n))
          | none => .ok (s, unchargedBytes)
        | _ => .ok (s.post .uncharged (num slot.toNat) (num n), unchargedBytes)

/-- CHARGE (R152 to R154). -/
def execCharge (slot : Byte) (seconds : BitVec 16) (s : State) : StepOutcome :=
  hostCommand (.charge slot seconds) (chargeBody slot seconds) s

/-! ### READ_SLOT (R157) -/

/-- The record of a LOADED slot (R145). -/
def State.slotRecord (s : State) (m : MagSlot) : Option ToolRecord :=
  match m with
  | .loaded tool => s.find tool
  | _ => none

/-- The open call of a CALLING slot (R145). -/
def State.slotCall (s : State) (m : MagSlot) : Option CallSlot :=
  match m with
  | .calling tool => (s.callFor tool).bind s.call?
  | _ => none

/-- The refusal cause of a REFUSED slot, 255s otherwise (R157, 11.3). -/
def MagSlot.causeBytes (m : MagSlot) : List Byte :=
  match m with
  | .refused c => c.bytes
  | _ => noneBytes 2

/-- The payload of READ_SLOT (R157, 11.3). What is none goes as 11.3 says, the tries as a count. DEDUCED (log 18). -/
def slotPayload (s : State) (m : MagSlot) : List Byte :=
  let i := (s.slotRecord m).map (·.image)
  let c := s.slotCall m
  byte m.code ++ orZero 4 (i.map (·.toolId.toNat)) ++ orNone 3 (i.map (·.lifeLimit))
    ++ orNone 3 (i.map (·.lifeUsed)) ++ orNone 3 (i.map Image.remaining)
    ++ orNone 1 (i.map Image.conditionsByte) ++ orZero 1 (i.map Image.unfitCode)
    ++ orZero 4 (c.map (·.tool.toNat)) ++ orZero 1 (c.map (·.tries))
    ++ msLeftBytes s.now (c.map (·.deadline)) ++ m.causeBytes

/-- READ_SLOT's own rule (R157). -/
def readSlotBody (slot : Byte) (s : State) : CommandResult :=
  if !s.configured then .error .notConfigured
  else
    match s.slot? slot.toNat with
    | none => .error .outOfRange
    | some m => .ok (s, slotPayload s m)

/-- READ_SLOT (R157). -/
def execReadSlot (slot : Byte) (s : State) : StepOutcome := hostCommand (.readSlot slot) (readSlotBody slot) s

end Sys2Proof.Machine
end

