-- ==== Sys2Proof/Machine/Runs.lean ====
section
/-! DEFINITION. The runs of the measuring unit: their endings, the reference formed from the medians, and the
offset computation of 07_measuring_unit.md, section 7.5. -/

namespace Sys2Proof.Machine

/-- The run state becomes idle: no run, the sample buffer empty, no capture deadline (R131, R135). -/
def State.idleRun (s : State) : State :=
  { s with head := { s.head with run := none, samples := [] } }

/-- REFERENCE_DONE (R131). -/
def State.postReferenceDone (s : State) (o : RunOutcome) : State :=
  s.post .referenceDone 0 (num o.code)

/-- MEASURE_DONE with the number of kept samples (R135). -/
def State.postMeasureDone (s : State) (tool : ToolId) (o : RunOutcome) (kept : Nat) : State :=
  s.post .measureDone tool (parts (byte o.code ++ byte kept))

/-- A measured record returns to SEATED, its data unchanged, and RECORD_CHANGED is posted (R134, R135). -/
def State.reseat (s : State) (tool : ToolId) : State := (s.setState tool .seated).postChanged tool

/-- An active run ends without a result, the record of a measurement run going back to SEATED (R131, R134,
R135); without a run nothing changes. -/
def State.endRun (s : State) (o : RunOutcome) : State :=
  match s.head.run with
  | none => s
  | some r =>
    match r.kind with
    | .reference => s.idleRun.postReferenceDone o
    | .measurement tool => (s.idleRun.reseat tool).postMeasureDone tool o 0

/-- A value put into an ascending list. -/
def insertSorted (v : Int) : List Int → List Int
  | [] => [v]
  | w :: rest => if v ≤ w then v :: w :: rest else w :: insertSorted v rest

/-- The values in ascending order, equal values keeping their multiplicity (R136). -/
def sortInts (l : List Int) : List Int := l.foldr insertSorted []

/-- The lower median: the value at 0-based position ⌊(n - 1) / 2⌋ of the sorted values (R132, R136). -/
def lowerMedian (l : List Int) : Int := ((sortInts l)[(l.length - 1) / 2]?).getD 0

/-- The Z values of samples, signed (R125). -/
def zValues (l : List Sample) : List Int := l.map (fun p => p.z.toInt)

/-- The X values of samples, signed (R125). -/
def xValues (l : List Sample) : List Int := l.map (fun p => p.x.toInt)

/-- The largest of a first value and the rest. -/
def largest (a : Int) (l : List Int) : Int := l.foldl max a

/-- The smallest of a first value and the rest. -/
def smallest (a : Int) (l : List Int) : Int := l.foldl min a

/-- Step 2: the samples within B counts of both medians (R137). -/
def keptSamples (band : Nat) (l : List Sample) : List Sample :=
  let mz := lowerMedian (zValues l)
  let mx := lowerMedian (xValues l)
  l.filter (fun p => (p.z.toInt - mz).natAbs ≤ band && (p.x.toInt - mx).natAbs ≤ band)

/-- The samples to keep of n: the larger of 3 and ⌈n / 2⌉ (R137). -/
def keepThreshold (n : Nat) : Nat := max 3 ((n + 1) / 2)

/-- Step 5: the thermal correction of a displacement, rounded to the nearest with halves away from zero
(R139). -/
def correction (alpha : Nat) (t d : Int) : Int :=
  let p := d * alpha * (t - 2000)
  let c : Int := (p.natAbs + 5000000000) / 10000000000
  if p < 0 then -c else c

/-- A result clamped to 0 and its largest value (R140). -/
def clampResult (hi : Nat) (v : Int) : Nat := min hi v.toNat

/-- Whether the clamp of step 6 changes a result (R140). -/
def clampChanges (hi : Nat) (v : Int) : Bool := v < 0 || (hi : Int) < v

/-- Step 8: the verdict of a result L, R with runout U under a record's nominal data (R141). -/
def verdictOf (i : Image) (wasClamped : Bool) (l r u : Nat) : Verdict :=
  if wasClamped then .clamped
  else if i.runoutLimit < u then .runoutHigh
  else if i.lengthTol < absDiff l i.nomLength ∨ i.radiusTol < absDiff r i.nomRadius then .outOfBand
  else .within

/-- Steps 3 to 9 for kept samples, the first apart: the measured block to write (R138 to R142). -/
def computedBlock (c : NodeConfig) (ref : Reference) (station : Nat) (i : Image) (t : Int)
    (first : Sample) (rest : List Sample) : Measured :=
  let zMax := largest first.z.toInt (zValues rest)
  let xMax := largest first.x.toInt (xValues rest)
  let xMin := smallest first.x.toInt (xValues rest)
  let dL := (zMax - ref.z.toInt) * 5
  let dR := (xMax - ref.x.toInt) * 5
  let l := (c.lRef : Int) + dL + correction c.alpha t dL
  let r := (c.rRef : Int) + dR + correction c.alpha t dR
  let u := min Config.runoutMax ((xMax - xMin) * 5).toNat
  let lc := clampResult Config.lengthMax l
  let rc := clampResult Config.radiusMax r
  { length := lc
    radius := rc
    runout := u
    verdict :=
      verdictOf i (clampChanges Config.lengthMax l || clampChanges Config.radiusMax r) lc rc u
    station := station
    temperature := t
    kept := rest.length + 1
    lifeAtMeasure := i.lifeUsed }

/-- The outcome of a completed measurement run (section 7.5): the number of kept samples, and the block
to write unless the run is SPARSE. -/
def measureResult (c : NodeConfig) (ref : Reference) (station : Nat) (i : Image) (t : Int)
    (samples : List Sample) : Nat × Option Measured :=
  let kept := keptSamples c.band samples
  if kept.length < keepThreshold samples.length then (kept.length, none)
  else
    match kept with
    | [] => (0, none)
    | first :: rest => (kept.length, some (computedBlock c ref station i t first rest))

/-- A reference run completes: the reference is formed from the lower medians (R132). -/
def State.formReference (s : State) (t : Int) (samples : List Sample) : State :=
  { s with head.reference :=
      { valid := true
        z := BitVec.ofInt 32 (lowerMedian (zValues samples))
        x := BitVec.ofInt 32 (lowerMedian (xValues samples))
        t := t } }

/-- A measurement run completes on its Nth sample (R136 to R142). -/
def State.completeMeasurement (s : State) (tool : ToolId) (t : Int) (samples : List Sample) : State :=
  match s.find tool with
  | none => s.idleRun
  | some r =>
    match measureResult s.config s.head.reference s.station r.image t samples with
    | (m, none) => (s.idleRun.reseat tool).postMeasureDone tool .sparse m
    | (m, some block) =>
      ((s.idleRun.setImage tool (fun i => { i with measured := some block })).reseat
        tool).postMeasureDone tool (.verdict block.verdict) m

end Sys2Proof.Machine
end

