-- ==== Sys2Proof/Machine/Measuring.lean ====
section
/-! DEFINITION. The measuring unit's events and commands (07_measuring_unit.md): scales, captures, the seat,
IDENTIFY_HEAD, MEASURE_REFERENCE, MEASURE, ABORT_MEASURE and READ_HEAD. -/

namespace Sys2Proof.Machine

/-- Whether the head's inputs are read: from CONFIGURE at a node with a head (R125, R127, R128). -/
def State.headRead (s : State) : Bool := s.configured && s.config.head

/-! ### Scales (R125, R126) -/

/-- SCALE_STEP: a legal transition adds or subtracts 1, wrapping (R125). -/
def execScaleStep (scale : Scale) (up : Bool) (s : State) : StepOutcome :=
  if !s.headRead then .next s
  else
    let d : BitVec 32 := if up then 1 else -1
    match scale with
    | .z => .next { s with head.z := s.head.z + d }
    | .x => .next { s with head.x := s.head.x + d }

/-- The record notice of a run that a scale error ends (R126). -/
def State.reseatRun (s : State) (r : Run) : State :=
  match r.kind with
  | .reference => s
  | .measurement tool => s.reseat tool

/-- The outcome notice of a run that ends without a result (R131, R135). -/
def State.postOutcome (s : State) (r : Run) (o : RunOutcome) : State :=
  match r.kind with
  | .reference => s.postReferenceDone o
  | .measurement tool => s.postMeasureDone tool o 0

/-- The scale error at a scale: the count rises, the reference is invalidated, a run ends SCALE_ERROR, with the
notices in the order RECORD_CHANGED, SCALE_ERROR, outcome (R126, R22). -/
def State.scaleError (s : State) (scale : Scale) : State :=
  let t := { s with
    head.scaleErrors := min 65535 (s.head.scaleErrors + 1)
    head.reference.valid := false }
  match s.head.run with
  | none =>
    if s.head.reference.valid then t.post .scaleError 0 (num (scaleCode scale)) else t
  | some r =>
    ((t.idleRun.reseatRun r).post .scaleError 0 (num (scaleCode scale))).postOutcome r .scaleError

/-- SCALE_ERROR: an illegal transition (R126). -/
def execScaleError (scale : Scale) (s : State) : StepOutcome :=
  if s.headRead then .next (s.scaleError scale) else .next s

/-! ### Captures (R127, R132, R134) -/

/-- A sample joins the active run, which completes on its Nth (R127, R132, section 7.5). -/
def State.takeSample (s : State) (r : Run) : State :=
  let samples := s.head.samples ++ [{ z := s.head.z, x := s.head.x }]
  if samples.length < r.n then
    { s with head := { s.head with
      samples := samples
      run := some { r with deadline := after s.now Config.captureMs } } }
  else
    match r.kind with
    | .reference => ((s.formReference r.t samples).idleRun).postReferenceDone .done
    | .measurement tool => s.completeMeasurement tool r.t samples

/-- CAPTURE: an edge of the configured polarity is a sample, or stray (R127); the other edge is no event. -/
def execCapture (rising : Bool) (s : State) : StepOutcome :=
  if !s.headRead || rising != s.config.captureRising then .next s
  else
    match s.head.run with
    | none => .next (s.post .strayCapture 0 s.head.z)
    | some r => .next (s.takeSample r)

/-- CAPTURE_TIMEOUT: the capture deadline of the active run expires (R134, R131). -/
def execCaptureTimeout (s : State) : StepOutcome :=
  if due s.now (s.head.run.map (·.deadline)) then .next (s.endRun .timeout) else .next s

/-! ### The seat (R128) -/

/-- SEAT_FIRST_READING: the first settled reading replaces UNSETTLED (R128), read with the pocket sensors' polarity.
DEDUCED (log 26). -/
def execSeatFirstReading (levelHigh : Bool) (s : State) : StepOutcome :=
  if s.headRead && s.head.seat == .unsettled then
    .next { s with head.seat := levelReading s.config.sensorHigh levelHigh }
  else .next s

/-- HEAD_SEATED: a seat-present event (R128). -/
def execHeadSeated (s : State) : StepOutcome :=
  if s.headRead && s.head.seat == .absent then
    .next ({ s with head.seat := .present }.post .headSeated 0 0)
  else .next s

/-- The record on the head becomes LOOSE (R128). -/
def State.liftOff (s : State) (r : Option ToolRecord) : State :=
  match r with
  | some r => (s.setState r.image.toolId .loose).postChanged r.image.toolId
  | none => s

/-- The tool id that was on the head, or 0 (R128). -/
def headTool (r : Option ToolRecord) : ToolId :=
  match r with
  | some r => r.image.toolId
  | none => 0

/-- An active run ends UNSEATED; its record has already become LOOSE (R128). -/
def State.unseatRun (s : State) : State :=
  match s.head.run with
  | none => s
  | some r => s.idleRun.postOutcome r .unseated

/-- A seat-absent event with its notices in order (R128, R68). -/
def State.unseat (s : State) : State :=
  let r := s.headRecord
  let t := { s with head.seat := .absent }.liftOff r
  ((t.post .headUnseated 0 (headTool r)).unseatRun).withdrawCall .head

/-- HEAD_UNSEATED: a seat-absent event (R128). -/
def execHeadUnseated (s : State) : StepOutcome :=
  if s.headRead && s.head.seat == .present then .next s.unseat else .next s

/-! ### IDENTIFY_HEAD (R129) -/

/-- Whether a reference run is active. -/
def State.referenceRun (s : State) : Bool :=
  match s.head.run with
  | some { kind := .reference, .. } => true
  | _ => false

/-- IDENTIFY_HEAD's own rule (R129). -/
def identifyHeadBody (tool : ToolId) (s : State) : CommandResult :=
  if !s.configured then .error .notConfigured
  else if !s.config.head || tool == 0 then .error .outOfRange
  else if s.head.seat != .present || s.headRecord.isSome || s.referenceRun then .error .badState
  else
    match s.find tool with
    | none => callCommand s tool .head
    | some r =>
      match r.state with
      | .loose | .missing =>
        if (s.callAt .head).isSome then .error .placeConflict
        else done ((s.setState tool .seated).postChanged tool)
      | .outbound _ _ | .inDoubt _ _ _ => .error .badState
      | _ => .error .placeConflict

/-- IDENTIFY_HEAD (R129). -/
def execIdentifyHead (tool : ToolId) (s : State) : StepOutcome :=
  hostCommand (.identifyHead tool) (identifyHeadBody tool) s

/-! ### Starting and aborting runs (R131, R133, R135) -/

/-- N clamped to 4 to 32 (R131, R133). -/
def clampN (n : Byte) : Nat := clampNat 4 32 n.toNat

/-- T as sent, a signed 16-bit value, clamped (R131, R133). -/
def sentTemp (t : BitVec 16) : Int := clampTemp t.toInt

/-- A run starts with an empty sample buffer (R131, R133). -/
def State.startRun (s : State) (kind : RunKind) (n : Nat) (t : Int) : State :=
  { s with head := { s.head with
    run := some { kind := kind, n := n, t := t, deadline := after s.now Config.captureMs }
    samples := [] } }

/-- MEASURE_REFERENCE's own rule (R131). -/
def measureReferenceBody (n : Byte) (t : BitVec 16) (s : State) : CommandResult :=
  if !s.configured then .error .notConfigured
  else if !s.config.head then .error .outOfRange
  else if !s.fieldReady then .error .notOnline
  else if s.head.seat != .present || s.headRecord.isSome || (s.callAt .head).isSome
      || s.head.run.isSome then .error .badState
  else done (s.startRun .reference (clampN n) (sentTemp t))

/-- MEASURE_REFERENCE (R131). -/
def execMeasureReference (n : Byte) (t : BitVec 16) (s : State) : StepOutcome :=
  hostCommand (.measureReference n t) (measureReferenceBody n t) s

/-- Whether the reference is stale for a temperature (R130). -/
def Reference.stale (r : Reference) (t : Int) : Bool := Config.staleLimit < (t - r.t).natAbs

/-- A measurement run starts on the SEATED record (R133). -/
def State.startMeasurement (s : State) (tool : ToolId) (n : Nat) (t : Int) : State :=
  ((s.setState tool .measuring).startRun (.measurement tool) n t).postChanged tool

/-- MEASURE's own rule (R133). -/
def measureBody (tool : ToolId) (n : Byte) (t : BitVec 16) (s : State) : CommandResult :=
  if !s.configured then .error .notConfigured
  else if !s.config.head || tool == 0 then .error .outOfRange
  else if !s.fieldReady then .error .notOnline
  else
    match s.find tool with
    | none => .error .noSuchTool
    | some r =>
      if r.state ≠ .seated then .error .badState
      else if !s.head.reference.valid then .error .noReference
      else if s.head.reference.stale (sentTemp t) then .error .referenceStale
      else done (s.startMeasurement tool (clampN n) (sentTemp t))

/-- MEASURE (R133). -/
def execMeasure (tool : ToolId) (n : Byte) (t : BitVec 16) (s : State) : StepOutcome :=
  hostCommand (.measure tool n t) (measureBody tool n t) s

/-- ABORT_MEASURE's own rule (R135). -/
def abortMeasureBody (s : State) : CommandResult :=
  if !s.configured then .error .notConfigured
  else if !s.config.head then .error .outOfRange
  else if s.head.run.isNone then .error .badState
  else done (s.endRun .aborted)

/-- ABORT_MEASURE (R135). -/
def execAbortMeasure (s : State) : StepOutcome := hostCommand .abortMeasure abortMeasureBody s

/-! ### READ_HEAD (R143) -/

/-- Run kind codes, 0 for idle (11.3). -/
def runCode (r : Option Run) : Nat :=
  match r with
  | none => 0
  | some { kind := .reference, .. } => 1
  | some { kind := .measurement _, .. } => 2

/-- The tool id of a measurement run (R143). -/
def runTool (r : Option Run) : Option ToolId :=
  match r with
  | some { kind := .measurement tool, .. } => some tool
  | _ => none

/-- An optional temperature, 255s for none (11.3). -/
def orNoneTemp (t : Option Int) : List Byte :=
  match t with
  | some t => tempBytes t
  | none => noneBytes 2

/-- The payload of READ_HEAD (R143, 11.3). -/
def headPayload (s : State) : List Byte :=
  byte s.head.seat.code ++ wordBytes (headTool s.headRecord) ++ flagByte (s.callAt .head).isSome
    ++ byte (runCode s.head.run) ++ orNone 1 (s.head.run.map (·.n))
    ++ orNoneTemp (s.head.run.map (·.t)) ++ orZero 1 (s.head.run.map (fun _ => s.head.samples.length))
    ++ msLeftBytes s.now (s.head.run.map (·.deadline))
    ++ orZero 4 ((runTool s.head.run).map BitVec.toNat)
    ++ flagByte s.head.reference.valid ++ wordBytes s.head.reference.z
    ++ wordBytes s.head.reference.x ++ tempBytes s.head.reference.t
    ++ wordBytes s.head.z ++ wordBytes s.head.x ++ beBytes 2 s.head.scaleErrors

/-- READ_HEAD's own rule (R143). -/
def readHeadBody (s : State) : CommandResult :=
  if !s.configured then .error .notConfigured
  else if !s.config.head then .error .outOfRange
  else .ok (s, headPayload s)

/-- READ_HEAD (R143). -/
def execReadHead (s : State) : StepOutcome := hostCommand .readHead readHeadBody s

end Sys2Proof.Machine
end

