-- ==== Sys2Proof/Machine/PanelUnit.lean ====
section
/-! DEFINITION. The panel unit (06_panels_issue_and_return.md): keys, access windows and lockout, ISSUE, RETURN,
SERVICE_OPEN, CANCEL and READ_PANEL. -/

namespace Sys2Proof.Machine

/-! ### Keys (R106 to R110) -/

/-- Whether a panel takes keys: from CONFIGURE at a node with pockets, and not locked out (R104, R106). -/
def State.takesKeys (s : State) (i : PanelId) : Bool :=
  s.configured && 0 < s.config.pocketCount && (s.panel i).lockout.isNone

/-- The key buffer is emptied and the inter-key deadline removed (R106, R107). -/
def Panel.emptied (p : Panel) : Panel := { p with keys := [], interKey := none }

/-- DIGIT_KEY: a digit joins the buffer unless it holds 8, and the inter-key deadline moves (R106). -/
def execDigitKey (panel : PanelId) (digit : Nat) (s : State) : StepOutcome :=
  if s.takesKeys panel && digit ≤ 9 then
    .next (s.setPanel panel (fun p => { p with
      keys := if p.keys.length < Config.keysMax then p.keys ++ [digit] else p.keys
      interKey := some (after s.now Config.interKeyMs) }))
  else .next s

/-- The lowest-numbered enabled entry with these digits, with its number (R104, R108). -/
def matchCode (table : List CodeEntry) (keys : List Nat) : Option (CodeEntry × Nat) :=
  (table.zipIdx 1).find? (fun e => e.1.enabled && e.1.digits == keys)

/-- ACCESS_CLOSED with its cause (R111). -/
def State.postClosed (s : State) (i : PanelId) (cause : CloseCause) : State :=
  s.post .accessClosed (num (panelCode i)) (num cause.code)

/-- An open window is closed; without one nothing happens (R109, R110, R111). -/
def State.closeWindow (s : State) (i : PanelId) (cause : CloseCause) : State :=
  if (s.panel i).window.isSome then
    (s.setPanel i (fun p => { p with window := none })).postClosed i cause
  else s

/-- A match opens a window, replacing any other (R108). -/
def State.openWindow (s : State) (i : PanelId) (e : CodeEntry) (n : Nat) : State :=
  (s.setPanel i (fun p => { p with
    window := some { privilege := e.privilege, entry := n, expiry := after s.now Config.windowMs }
    mismatches := 0 })).post .accessOpened (num (panelCode i)) (parts (byte e.privilege.code ++ byte n))

/-- A mismatch: the count rises, and the third locks the panel out (R109). -/
def State.mismatch (s : State) (i : PanelId) : State :=
  let count := (s.panel i).mismatches + 1
  let t := (s.setPanel i (fun p => { p with mismatches := count })).post .accessDenied
    (num (panelCode i)) (num count)
  if count < 3 then t
  else
    let t := t.setPanel i (fun p => { p with lockout := some (after s.now Config.lockoutMs) })
    (t.post .keypadLocked (num (panelCode i)) (num Config.lockoutMs)).closeWindow i .lockout

/-- ENTER compares the key buffer with the code table and empties it (R108, R109). -/
def execEnter (panel : PanelId) (s : State) : StepOutcome :=
  if s.takesKeys panel then
    let keys := (s.panel panel).keys
    let t := s.setPanel panel Panel.emptied
    if keys = [] then .next t
    else
      match matchCode s.config.codeTable keys with
      | some (e, n) => .next (t.openWindow panel e n)
      | none => .next (t.mismatch panel)
  else .next s

/-- CLEAR empties the key buffer and closes an open window (R110). -/
def execClear (panel : PanelId) (s : State) : StepOutcome :=
  if s.takesKeys panel then .next ((s.setPanel panel Panel.emptied).closeWindow panel .clear)
  else .next s

/-- INTER_KEY_EXPIRY: the inter-key deadline expires (R107). -/
def execInterKeyExpiry (panel : PanelId) (s : State) : StepOutcome :=
  if due s.now (s.panel panel).interKey then .next (s.setPanel panel Panel.emptied) else .next s

/-- LOCKOUT_EXPIRY: the lockout deadline expires (R109). -/
def execLockoutExpiry (panel : PanelId) (s : State) : StepOutcome :=
  if due s.now (s.panel panel).lockout then
    .next (s.setPanel panel (fun p => { p with lockout := none, mismatches := 0 }))
  else .next s

/-- WINDOW_EXPIRY: an access window expires (R111). -/
def execWindowExpiry (panel : PanelId) (s : State) : StepOutcome :=
  if due s.now ((s.panel panel).window.map (·.expiry)) then .next (s.closeWindow panel .expired)
  else .next s

/-! ### The common checks of crib operations (R104, R112) -/

/-- The operations that a privilege allows (R104). -/
def Privilege.allows : Privilege → OpenPurpose → Bool
  | .issue, .issue | .ret, .ret | .both, .issue | .both, .ret | .service, .service => true
  | _, _ => false

/-- Whether the panel has a window whose privilege allows an operation (R112 step 4). -/
def Panel.allowed (p : Panel) (o : OpenPurpose) : Bool :=
  match p.window with
  | some w => w.privilege.allows o
  | none => false

/-- The checks 1 to 6 of R112 in order, for a command whose parameters are in range or not. -/
def State.cribCheck (s : State) (panel : Byte) (inRange : Bool) (o : OpenPurpose) :
    Except HostResult PanelId :=
  if !s.configured then .error .notConfigured
  else
    match panelOf panel with
    | none => .error .outOfRange
    | some i =>
      if s.config.pocketCount = 0 || !inRange then .error .outOfRange
      else if !s.fieldReady then .error .notOnline
      else if !(s.panel i).allowed o then .error .noAccess
      else if (s.panel i).operation.isSome then .error .busy
      else if s.bank.supply = .low then .error .supplyLow
      else .ok i

/-- A pocket as an operation starts with it (R112). -/
def OpPocket.waiting (p : Nat) : OpPocket where
  pocket := p
  status := .waiting
  reachedOpen := false

/-- A taken operation: the panel holds its record, and the window closes as USED (R112). -/
def State.startOperation (s : State) (i : PanelId) (kind : OpKind) (pockets : List Nat) : State :=
  (s.setPanel i (fun p => { p with
    operation := some { kind := kind, pockets := pockets.map OpPocket.waiting } })).closeWindow i .used

/-! ### ISSUE (R114 to R116) -/

/-- Whether a pocket is a candidate (R114); a for-station of 0 suits unmarked pockets only. -/
def candidate (records : List ToolRecord) (cls station : Nat) (k : Pocket) : Bool :=
  k.inService && k.lock.isClosed && holdsFit records cls k
    && (k.reservedFor.isNone || k.reservedFor == some station)

/-- The preference among candidates: a mark for the for-station first, then the greatest remaining life, then the
lowest number (R115). Remaining life stays below 2^32. -/
def issueRank (records : List ToolRecord) (station : Nat) (k : Pocket) : Nat :=
  (if k.reservedFor = some station then 2 ^ 32 else 0) + lifeIn records k

/-- The pocket chosen for an ISSUE, with its number (R114, R115). -/
def State.choosePocket (s : State) (cls station : Nat) : Option (Pocket × Nat) :=
  pickMost (fun c => issueRank s.records station c.1)
    ((numbered s.bank.pockets).filter (fun c => candidate s.records cls station c.1))

/-- The for-station of an ISSUE as a mark: none for 0. -/
def stationMark (station : Nat) : Option Nat := if station = 0 then none else some station

/-- ISSUE's own rule (R112, R114 to R116). -/
def issueBody (panel : Byte) (cls : BitVec 16) (forStation : Byte) (s : State) : CommandResult :=
  let station := forStation.toNat
  match s.cribCheck panel (cls != 0 && station ≤ 62) .issue with
  | .error reason => .error reason
  | .ok i =>
    match s.choosePocket cls.toNat station with
    | none => .error .noneAvailable
    | some (k, p) =>
      match s.openRequest p { purpose := .issue, panel := i } (stationMark station) with
      | .error reason => .error reason
      | .ok t =>
        .ok (t.startOperation i (.issue cls.toNat station) [p],
          byte p ++ flagByte (k.reservedFor == some station))

/-- ISSUE (R114 to R116). -/
def execIssue (panel : Byte) (cls : BitVec 16) (forStation : Byte) (s : State) : StepOutcome :=
  hostCommand (.issue panel cls forStation) (issueBody panel cls forStation) s

/-! ### RETURN (R117, R118) -/

/-- Whether a pocket is suitable for a RETURN (R117). -/
def Pocket.takesReturn (k : Pocket) : Bool :=
  k.occupancy == .empty && k.inService && k.lock.isClosed && k.reservedFor.isNone

/-- The pocket of a RETURN, or the reason there is none (R117). -/
def State.returnPocket (s : State) (pocket : Option Byte) : Except HostResult Nat :=
  match pocket with
  | none =>
    match (numbered s.bank.pockets).find? (fun c => c.1.takesReturn) with
    | none => .error .noneAvailable
    | some c => .ok c.2
  | some b =>
    match s.pocket? b.toNat with
    | none => .error .outOfRange
    | some k =>
      if k.occupancy ≠ .empty then .error .placeConflict
      else if !k.inService then .error .pocketFault
      else if !k.lock.isClosed then .error .badState
      else .ok b.toNat

/-- Whether the optional pocket of a RETURN is in range (R117). -/
def State.returnInRange (s : State) (pocket : Option Byte) : Bool :=
  match pocket with
  | none => true
  | some b => (s.pocket? b.toNat).isSome

/-- RETURN's own rule (R112, R117, R118). -/
def returnBody (panel : Byte) (pocket : Option Byte) (s : State) : CommandResult :=
  match s.cribCheck panel (s.returnInRange pocket) .ret with
  | .error reason => .error reason
  | .ok i =>
    match s.returnPocket pocket with
    | .error reason => .error reason
    | .ok p =>
      match s.openRequest p { purpose := .ret, panel := i } none with
      | .error reason => .error reason
      | .ok t => .ok ((t.startOperation i .ret [p]).markingPass, byte p)

/-- RETURN (R117, R118). -/
def execReturn (panel : Byte) (pocket : Option Byte) (s : State) : StepOutcome :=
  hostCommand (.returnTool panel pocket) (returnBody panel pocket) s

/-! ### SERVICE_OPEN (R119) -/

/-- The open requests of a SERVICE_OPEN in list order: the state after them, the pockets opened, and each
listed pocket with its result (R119). -/
def openEach (s : State) (i : PanelId) : List Byte → State × List Nat × List Byte
  | [] => (s, [], [])
  | b :: rest =>
    match s.openRequest b.toNat { purpose := .service, panel := i } none with
    | .error reason =>
      let r := openEach s i rest
      (r.1, r.2.1, b :: byte reason.code ++ r.2.2)
    | .ok t =>
      let r := openEach t i rest
      (r.1, b.toNat :: r.2.1, b :: byte HostResult.ok.code ++ r.2.2)

/-- Whether the list of a SERVICE_OPEN is in range (R119). -/
def State.listInRange (s : State) (list : List Byte) : Bool :=
  list != [] && list.length ≤ Config.serviceMax && list.all (fun b => (s.pocket? b.toNat).isSome)

/-- SERVICE_OPEN's own rule (R112, R119); a payload without the panel, or of more than 255 bytes, is a length that
the command does not take (11.3). -/
def serviceOpenBody (panel : Byte) (list : List Byte) (s : State) : CommandResult :=
  if 254 < list.length then .error .unknownCommand
  else
    match s.cribCheck panel (s.listInRange list) .service with
    | .error reason => .error reason
    | .ok i =>
      match openEach s i list with
      | (_, [], _) => .error .noneAvailable
      | (t, pockets, answer) => .ok ((t.startOperation i .service pockets).markingPass, answer)

/-- SERVICE_OPEN (R119). -/
def execServiceOpen (panel : Byte) (list : List Byte) (s : State) : StepOutcome :=
  hostCommand (.serviceOpen panel list) (serviceOpenBody panel list) s

/-! ### CANCEL, READ_PANEL (R121, R123) -/

/-- The pockets of an operation that are WAITING or OPEN, in its order (R121). -/
def Operation.running (o : Operation) : List Nat :=
  (o.pockets.filter (fun k => !k.status.isEnded)).map (·.pocket)

/-- CANCEL's own rule (R121). -/
def cancelBody (panel : Byte) (s : State) : CommandResult :=
  if !s.configured then .error .notConfigured
  else
    match panelOf panel with
    | none => .error .outOfRange
    | some i =>
      if s.config.pocketCount = 0 then .error .outOfRange
      else
        match (s.panel i).operation with
        | none => .error .badState
        | some o =>
          done ((o.running.foldl State.closeRequest s).endOperation i .cancelled).markingPass

/-- CANCEL (R121). -/
def execCancel (panel : Byte) (s : State) : StepOutcome := hostCommand (.cancel panel) (cancelBody panel) s

/-- The class of an ISSUE operation (R123). -/
def Operation.cls (o : Operation) : Option Nat :=
  match o.kind with
  | .issue c _ => some c
  | _ => none

/-- The for-station of an ISSUE operation (R123). -/
def Operation.forStation (o : Operation) : Option Nat :=
  match o.kind with
  | .issue _ n => some n
  | _ => none

/-- The list of an operation's pockets behind its count, each with its status; a count of 0 for no operation
(R123, 11.3). -/
def opPocketBytes (o : Option Operation) : List Byte :=
  match o with
  | none => byte 0
  | some o => byte o.pockets.length ++ o.pockets.flatMap (fun k => byte k.pocket ++ k.status.bytes)

/-- The payload of READ_PANEL (R123, 11.3), an ISSUE's class and for-station last. DEDUCED (log 25). -/
def panelPayload (now : Millis) (p : Panel) : List Byte :=
  byte p.keys.length ++ byte p.mismatches ++ msLeftBytes now p.lockout
    ++ orNone 1 (p.window.map (·.privilege.code)) ++ orZero 1 (p.window.map (·.entry))
    ++ msLeftBytes now (p.window.map (·.expiry))
    ++ orNone 1 (p.operation.map (·.kind.purpose.code)) ++ orNone 1 (p.operation.map (·.phase))
    ++ opPocketBytes p.operation
    ++ orNone 2 (p.operation.bind (·.cls)) ++ orZero 1 (p.operation.bind (·.forStation))

/-- READ_PANEL's own rule (R123). -/
def readPanelBody (panel : Byte) (s : State) : CommandResult :=
  if !s.configured then .error .notConfigured
  else
    match panelOf panel with
    | none => .error .outOfRange
    | some i =>
      if s.config.pocketCount = 0 then .error .outOfRange
      else .ok (s, panelPayload s.now (s.panel i))

/-- READ_PANEL (R123). -/
def execReadPanel (panel : Byte) (s : State) : StepOutcome :=
  hostCommand (.readPanel panel) (readPanelBody panel) s

end Sys2Proof.Machine
end

