-- ==== Sys2Proof/Machine/Port.lean ====
section
/-! DEFINITION. The local port (10_local_port_configuration_and_start_up.md): reset, read transactions,
collisions, READ_STATUS, READ_NOTICE, CONFIGURE, JOIN and REJOIN. -/

namespace Sys2Proof.Machine

/-! ### Reset (R183, R187) -/

/-- RESET: every block takes its reset values while the reset is held (R187). The commands that the outside
world still has to send stay in the model's queue, and the free values go on (log 28). -/
def execReset (s : State) : StepOutcome :=
  .next { State.reset with pending := s.pending, delay := s.delay }

/-- RESET_ENDS: the millisecond count starts from 0, the straps are read, READY goes high (R183, R187). Without
a reset in progress nothing ends. DESIGN CHOICE (log 6). -/
def execResetEnds (straps : BitVec 6) (s : State) : StepOutcome :=
  if s.port.resetHeld then
    .next { s with now := 0, port := { s.port with resetHeld := false, station := straps } }
  else .next s

/-! ### Transactions (R175, R177, R178) -/

/-- The bytes of a response frame: result, length, payload (R175, 11.3). -/
def Response.bytes (r : Response) : List Byte :=
  byte r.result.code ++ byte r.payload.length ++ r.payload

/-- What a read transaction with no response pending shifts out (R175). -/
def idleBytes : List Byte := [255, 0]

/-- The first n bytes shifted out; beyond the response the port reads as 0 (R175). -/
def shiftOut (n : Nat) (bytes : List Byte) : List Byte :=
  bytes.take n ++ List.replicate (n - bytes.length) 0

/-- A read transaction of this many bytes: the response slot is emptied once its last byte has been shifted out,
and is left as it is before that (R175). -/
def execReadTransaction (bytesOut : Nat) (s : State) : StepOutcome :=
  if s.port.resetHeld then .next s
  else
    match s.port.response with
    | none => .next { s with port.dataOut := shiftOut bytesOut idleBytes }
    | some r =>
      .next { s with port := { s.port with
        dataOut := shiftOut bytesOut r.bytes
        response := if r.bytes.length ≤ bytesOut then none else some r } }

/-- A complete command frame while a response is pending or the command slot is occupied: it is discarded and
COLLISION is set (R177). Where neither holds there is no collision. DESIGN CHOICE (log 6). -/
def execCommandCollision (s : State) : StepOutcome :=
  if !s.port.resetHeld && (s.port.response.isSome || s.port.commandSlot.isSome) then
    .next { s with port.collision := true }
  else .next s

/-- A frame that fails the framing check: the result is UNKNOWN_COMMAND, and nothing else happens (R178). -/
def execUnknownCommand (code : Byte) (payload : List Byte) (s : State) : StepOutcome :=
  hostCommand (.unknownCommand code payload) (fun _ => .error .unknownCommand) s

/-! ### READ_STATUS, READ_NOTICE (R180, R182) -/

/-- The 8 bytes of READ_STATUS (11.3). -/
def statusPayload (s : State) : List Byte :=
  byte s.station ++ byte s.port.nodeState.code ++ byte s.line.condition.code ++ byte s.flagsByte
    ++ byte s.records.length ++ byte s.openCalls ++ byte s.busyOuts ++ byte s.notices.entries.length

/-- READ_STATUS's own rule: the flags are reported as they stand and cleared (R182). -/
def readStatusBody (s : State) : CommandResult :=
  .ok ({ s with port.collision := false, notices.overflow := false, line.rxOverrun := false },
    statusPayload s)

/-- READ_STATUS (R182). -/
def execReadStatus (s : State) : StepOutcome := hostCommand .readStatus readStatusBody s

/-- The 13 bytes of a notice entry (11.4). -/
def Notice.bytes (n : Notice) : List Byte :=
  byte n.kind.code ++ wordBytes n.object ++ wordBytes n.argument ++ wordBytes n.timestamp

/-- READ_NOTICE's own rule: the oldest entry is removed and returned with the number left (R180). -/
def readNoticeBody (s : State) : CommandResult :=
  match s.notices.entries with
  | [] => done s
  | n :: rest => .ok ({ s with notices.entries := rest }, n.bytes ++ byte rest.length)

/-- READ_NOTICE (R180). -/
def execReadNotice (s : State) : StepOutcome := hostCommand .readNotice readNoticeBody s

/-! ### CONFIGURE (R184) -/

/-- The event of CONFIGURE: values stored, tables created, the receiver started, the node CONFIGURED (R184,
R85, R145, R26). -/
def State.configure (s : State) (c : NodeConfig) : State :=
  { s with
    config := c
    port.nodeState := .configured
    bank.pockets := List.replicate c.pocketCount Pocket.fresh
    magazine := List.replicate c.slotCount .empty
    line.condition := .receiving
    line.receiver := .waiting }

/-- CONFIGURE's own rule (R184, R183). -/
def configureBody (payload : List Byte) (s : State) : CommandResult :=
  if payload.length ≠ 61 then .error .unknownCommand
  else if s.configured then .error .badState
  else if s.station = 0 ∨ s.station = 63 then .error .badStation
  else .ok (s.configure (parseConfig payload), byte s.station ++ byte (changedFields payload))

/-- CONFIGURE (R184). -/
def execConfigure (payload : List Byte) (s : State) : StepOutcome :=
  hostCommand (.configure payload) (configureBody payload) s

/-! ### JOIN, REJOIN (R53, R56, R57) -/

/-- The node starts to listen for twice its beacon interval (R53, R56). -/
def State.listen (s : State) : State :=
  { s with port := { s.port with
    nodeState := .listening
    listenDeadline := some (after s.now (2 * beaconMs s.config.beaconCode)) } }

/-- JOIN's own rule (R53). -/
def joinBody (s : State) : CommandResult :=
  if !s.configured then .error .notConfigured
  else if s.port.nodeState ≠ .configured then .error .badState
  else done s.listen

/-- JOIN (R53). -/
def execJoin (s : State) : StepOutcome := hostCommand .join joinBody s

/-- REJOIN at the line controller and the roster (R45, R56). A receiver in the middle of a frame goes on assembling:
the rules do not name it among what ends. DESIGN CHOICE (log 30). -/
def State.restartLine (s : State) : State :=
  { s with line.txQueue := [], line.rxQueue := [], roster := Roster.atReset }

/-- An outstanding check is abandoned; any other state stays (R57, R80). -/
def RecordState.uncheck : RecordState → RecordState
  | .inDoubt c p _ => .inDoubt c p none
  | st => st

/-- Closing every open call, in slot order, ABANDONED (R57). -/
def State.abandonCalls (s : State) : State :=
  (List.range Config.callSlots).foldl (fun t i => t.closeCall i .abandoned 0) s

/-- REJOIN at the custody engine (R57, R72). -/
def State.restartCustody (s : State) : State :=
  let t := (s.lapseAll (fun _ => true) .rejoin).abandonCalls
  { t with records := t.records.map (fun r => { r with state := r.state.uncheck }) }

/-- REJOIN at the reservation table and the demand sequencer (R57). -/
def State.restartDemand (s : State) : State :=
  { s with
    reservations := []
    bank.pockets := s.bank.pockets.map (fun k => { k with reservedFor := none })
    demand := { s.demand with running := false, cycles := 0, deadline := none } }

/-- The one event of REJOIN (R56, R57). -/
def State.rejoin (s : State) : State := s.restartLine.listen.restartCustody.restartDemand

/-- REJOIN's own rule (R56). -/
def rejoinBody (s : State) : CommandResult :=
  if !s.configured then .error .notConfigured
  else if !s.online then .error .badState
  else done s.rejoin

/-- REJOIN (R56). -/
def execRejoin (s : State) : StepOutcome := hostCommand .rejoin rejoinBody s

end Sys2Proof.Machine
end

