-- ==== Sys2Proof/Machine/Records.lean ====
section
/-! DEFINITION. The record commands of 01_tool_records.md (CREATE, DROP, RESOLVE, MARK_DAMAGED, REGRIND,
READ_RECORD, LIST_RECORDS) and RESTORE of 10_local_port_configuration_and_start_up.md. -/

namespace Sys2Proof.Machine

/-- A place as the host names it (11.3). -/
inductive Place where
  | nowhere
  | pocket (number : Nat)
  | slot (number : Nat)
  | head
  deriving DecidableEq, Repr

/-- The place of a kind and a number, if the kind is at most 3 (11.3). -/
def parsePlace (kind number : Nat) : Option Place :=
  if kind = 0 then some .nowhere
  else if kind = 1 then some (.pocket number)
  else if kind = 2 then some (.slot number)
  else if kind = 3 then some .head
  else none

/-- Whether this node has the place (R1, R15, R185). -/
def State.hasPlace (s : State) : Place → Bool
  | .nowhere => true
  | .pocket p => (s.pocket? p).isSome
  | .slot n => (s.slot? n).isSome
  | .head => s.config.head

/-- Whether a record is STOCKED in a pocket whose lock is not CLOSED (R16, R18, R19). -/
def State.inMovingPocket (s : State) (r : ToolRecord) : Bool :=
  match r.state with
  | .stocked p => match s.pocket? p with
    | some k => !k.lock.isClosed
    | none => false
  | _ => false

/-- A record becomes held, arrived from a station (0 for the host): RECORD_ARRIVED is posted (R4, R22). -/
def State.arrive (s : State) (r : ToolRecord) (source : Nat) : State :=
  (s.addRecord r).post .recordArrived r.image.toolId (num source)

/-- A new record put in a place this node has (R15, R186): the pocket becomes HELD, the slot LOADED. -/
def State.putAt (s : State) (image : Image) : Place → State
  | .nowhere => s.arrive { image := image, state := .loose } 0
  | .pocket p =>
    ((s.arrive { image := image, state := .stocked p } 0).setPocket p
      (fun k => { k with occupancy := .held image.toolId })).markingPass
  | .slot n => (s.arrive { image := image, state := .loaded n } 0).setSlot n (.loaded image.toolId)
  | .head => s.arrive { image := image, state := .seated } 0

/-! ### CREATE (R15, R129) -/

/-- Whether CREATE finds its place unsuitable (R15, PLACE_CONFLICT). -/
def State.createConflict (s : State) : Place → Bool
  | .pocket p => match s.pocket? p with
    | some k => k.occupancy != .unknown || !k.lock.isClosed || (s.callAt (.pocket p)).isSome
    | none => false
  | .head => s.head.seat != .present || s.headRecord.isSome || (s.callAt .head).isSome
  | _ => false

/-- A record placed on the head ends a reference run DISPLACED (R129). -/
def State.displaceRun (s : State) : Place → State
  | .head => match s.head.run with
    | some { kind := .reference, .. } => s.endRun .displaced
    | _ => s
  | _ => s

/-- The place of a CREATE: kind and number in range, at this node, and no slot (R15). -/
def State.createPlace (s : State) (kind number : Byte) : Option Place :=
  match parsePlace kind.toNat number.toNat with
  | some (.slot _) => none
  | some p => if s.hasPlace p then some p else none
  | none => none

/-- CREATE's own rule (R15); the image's measured-block bit is ignored (R190). -/
def createBody (kind number : Byte) (image : List Byte) (s : State) : CommandResult :=
  let raw : RawImage := { base := parseBase image, block := none }
  if image.length ≠ 31 then .error .unknownCommand
  else if !s.configured then .error .notConfigured
  else if raw.badIdentifier then .error .outOfRange
  else
    match s.createPlace kind number with
    | none => .error .outOfRange
    | some place =>
      if (s.find raw.base.toolId).isSome then .error .toolExists
      else if (s.callFor raw.base.toolId).isSome then .error .callPending
      else if s.createConflict place then .error .placeConflict
      else if s.freeRows = 0 then .error .tableFull
      else done ((s.putAt raw.hostIntake place).displaceRun place)

/-- CREATE (R15). -/
def execCreate (kind number : Byte) (image : List Byte) (s : State) : StepOutcome :=
  hostCommand (.create kind number image) (createBody kind number image) s

/-! ### DROP, RESOLVE (R16, R17) -/

/-- The effect of a DROP on the record's place (R16). -/
def State.vacate (s : State) (r : ToolRecord) : State :=
  match r.state with
  | .stocked p => s.setPocket p (fun k => { k with occupancy := .unknown, reservedFor := none })
  | .loaded n => s.setSlot n (.refused .dropped)
  | _ => s

/-- Whether DROP refuses the record's state (R16). -/
def State.dropRefuses (s : State) (r : ToolRecord) : Bool :=
  match r.state with
  | .outbound _ _ | .measuring => true
  | _ => s.inMovingPocket r

/-- DROP's own rule (R16). -/
def dropBody (tool : ToolId) (s : State) : CommandResult :=
  if !s.configured then .error .notConfigured
  else if tool = 0 then .error .outOfRange
  else
    match s.find tool with
    | none => .error .noSuchTool
    | some r =>
      if s.dropRefuses r then .error .badState
      else done (((s.vacate r).depart tool 0).markingPass)

/-- DROP (R16). -/
def execDrop (tool : ToolId) (s : State) : StepOutcome := hostCommand (.drop tool) (dropBody tool) s

/-- RESOLVE's own rule (R17): choice 1 keeps, 2 drops, any other value is out of range (11.3). -/
def resolveBody (tool : ToolId) (choice : Byte) (s : State) : CommandResult :=
  if !s.configured then .error .notConfigured
  else if tool = 0 ∨ (choice ≠ 1 ∧ choice ≠ 2) then .error .outOfRange
  else
    match s.find tool with
    | none => .error .noSuchTool
    | some r =>
      match r.state with
      | .inDoubt _ _ _ =>
        if choice = 1 then
          done (((s.setState tool .loose).removeFrames (.check tool)).postChanged tool)
        else done (s.depart tool 0)
      | _ => .error .badState

/-- RESOLVE (R17). -/
def execResolve (tool : ToolId) (choice : Byte) (s : State) : StepOutcome :=
  hostCommand (.resolve tool choice) (resolveBody tool choice) s

/-! ### MARK_DAMAGED, REGRIND (R18, R19) -/

/-- A STOCKED record that lost its fitness loses the mark on its pocket, and the pass runs (R12, R170). -/
def State.loseFitness (s : State) (r : ToolRecord) : State :=
  match r.state with
  | .stocked p => (s.unmark p).markingPass
  | _ => s

/-- Whether MARK_DAMAGED refuses the record's state (R18). -/
def State.markRefuses (s : State) (r : ToolRecord) : Bool :=
  match r.state with
  | .outbound _ _ | .inDoubt _ _ _ => true
  | _ => s.inMovingPocket r

/-- MARK_DAMAGED's own rule (R18). -/
def markDamagedBody (tool : ToolId) (s : State) : CommandResult :=
  if !s.configured then .error .notConfigured
  else if tool = 0 then .error .outOfRange
  else
    match s.find tool with
    | none => .error .noSuchTool
    | some r =>
      if s.markRefuses r then .error .badState
      else if r.image.damaged then done s
      else
        done (((s.setImage tool (fun i => { i with damaged := true })).loseFitness r).postChanged tool)

/-- MARK_DAMAGED (R18). -/
def execMarkDamaged (tool : ToolId) (s : State) : StepOutcome :=
  hostCommand (.markDamaged tool) (markDamagedBody tool) s

/-- The changes that REGRIND makes together (R19). -/
def Image.reground (i : Image) (newLength : Option (BitVec 24)) : Image :=
  { i with
    lifeUsed := 0
    measured := none
    damaged := false
    regrinds := i.regrinds + 1
    nomLength := match newLength with
      | some n => min n.toNat Config.lengthMax
      | none => i.nomLength }

/-- Whether REGRIND refuses the record's state (R19). -/
def State.regrindRefuses (s : State) (r : ToolRecord) : Bool :=
  match r.state with
  | .stocked _ => s.inMovingPocket r
  | .loose | .seated => false
  | _ => true

/-- REGRIND's own rule (R19). -/
def regrindBody (tool : ToolId) (newLength : Option (BitVec 24)) (s : State) : CommandResult :=
  if !s.configured then .error .notConfigured
  else if tool = 0 then .error .outOfRange
  else
    match s.find tool with
    | none => .error .noSuchTool
    | some r =>
      if s.regrindRefuses r then .error .badState
      else if 15 ≤ r.image.regrinds then .error .regrindLimit
      else
        done (((s.setImage tool (fun i => i.reground newLength)).loseFitness r).postChanged tool)

/-- REGRIND (R19). -/
def execRegrind (tool : ToolId) (newLength : Option (BitVec 24)) (s : State) : StepOutcome :=
  hostCommand (.regrind tool newLength) (regrindBody tool newLength) s

/-! ### READ_RECORD, LIST_RECORDS (R20, R21) -/

/-- The payload of READ_RECORD (R20, 11.3): a none counterpart is 0, a none handoff and prior
state are 255. DEDUCED (log 18). -/
def readRecordPayload (r : ToolRecord) : List Byte :=
  imageBytes r.image ++ byte r.state.code ++ byte r.state.placeCode.1 ++ byte r.state.placeCode.2
    ++ orZero 1 (r.state.custodyPart.map (·.counterpart))
    ++ orNone 1 (r.state.custodyPart.map (·.handoff.toNat))
    ++ orNone 1 (r.state.prior.map Prior.code)
    ++ flagByte r.state.check.isSome
    ++ byte r.image.conditionsByte ++ byte r.image.unfitCode

/-- READ_RECORD's own rule (R20). -/
def readRecordBody (tool : ToolId) (s : State) : CommandResult :=
  if !s.configured then .error .notConfigured
  else if tool = 0 then .error .outOfRange
  else
    match s.find tool with
    | none => .error .noSuchTool
    | some r => .ok (s, readRecordPayload r)

/-- READ_RECORD (R20). -/
def execReadRecord (tool : ToolId) (s : State) : StepOutcome :=
  hostCommand (.readRecord tool) (readRecordBody tool) s

/-- The payload of LIST_RECORDS (R21): the number held, the start, at most 60 tool ids in row order. -/
def listPayload (records : List ToolRecord) (start : Nat) : List Byte :=
  byte records.length ++ byte start
    ++ ((records.drop start).take Config.listMax).flatMap (fun r => wordBytes r.image.toolId)

/-- LIST_RECORDS's own rule (R21). -/
def listRecordsBody (start : Byte) (s : State) : CommandResult :=
  if !s.configured then .error .notConfigured
  else .ok (s, listPayload s.records start.toNat)

/-- LIST_RECORDS (R21). -/
def execListRecords (start : Byte) (s : State) : StepOutcome :=
  hostCommand (.listRecords start) (listRecordsBody start) s

/-! ### RESTORE (R185, R186) -/

/-- The prior state of a code, LOOSE or MISSING (11.3). -/
def priorOf (code : Nat) : Option Prior :=
  if code = 5 then some .loose else if code = 6 then some .missing else none

/-- The place and the restored state of a RESTORE, where its state, place, counterpart and prior state suit
each other and this node (R185 step 3); the state is mapped as R186 states. -/
def State.restoreState (s : State) (state : Nat) (place : Option Place) (prior counterpart : Nat)
    (handoff : Byte) : Option (Place × RecordState) :=
  match place with
  | none => none
  | some pl =>
    if !s.hasPlace pl then none
    else
      match state, pl with
      | 1, .pocket p => some (pl, .stocked p)
      | 2, .slot n => some (pl, .loaded n)
      | 3, .head => some (pl, .seated)
      | 4, .head => some (pl, .seated)
      | 5, .nowhere => some (pl, .loose)
      | 6, .nowhere => some (pl, .missing)
      | 7, .nowhere | 8, .nowhere =>
        if 1 ≤ counterpart ∧ counterpart ≤ 62 then
          (priorOf prior).map (fun p =>
            (pl, .inDoubt { counterpart := counterpart, handoff := handoff } p none))
        else none
      | _, _ => none

/-- Whether RESTORE finds its place unsuitable (R185, PLACE_CONFLICT). -/
def State.restoreConflict (s : State) : Place → Bool
  | .pocket p => match s.pocket? p with
    | some k => k.presence != .present || k.occupancy != .unknown
    | none => false
  | .slot n => s.slot? n != some .empty
  | .head => s.head.seat != .present || s.headRecord.isSome
  | .nowhere => false

/-- A restored record at its place (R186, R88). -/
def State.restoreAt (s : State) (image : Image) (st : RecordState) (place : Place) : State :=
  match place with
  | .nowhere => s.arrive { image := image, state := st } 0
  | _ => s.putAt image place

/-- RESTORE's own rule (R185, R186); an image whose length does not match its measured-block bit is a
length the command does not take (R190). -/
def restoreBody (state kind number prior counterpart handoff : Byte) (image : List Byte) (s : State) :
    CommandResult :=
  let raw := parseImage image
  if !imageLengthOk image then .error .unknownCommand
  else if !s.configured then .error .notConfigured
  else if s.port.nodeState ≠ .configured then .error .badState
  else if raw.badIdentifier then .error .outOfRange
  else
    match s.restoreState state.toNat (parsePlace kind.toNat number.toNat) prior.toNat
        counterpart.toNat handoff with
    | none => .error .outOfRange
    | some (place, st) =>
      if (s.find raw.base.toolId).isSome then .error .toolExists
      else if s.restoreConflict place then .error .placeConflict
      else if s.freeRows = 0 then .error .tableFull
      else done (s.restoreAt raw.hostIntake st place)

/-- RESTORE (R185, R186). -/
def execRestore (state kind number prior counterpart handoff : Byte) (image : List Byte) (s : State) :
    StepOutcome :=
  hostCommand (.restore state kind number prior counterpart handoff image)
    (restoreBody state kind number prior counterpart handoff image) s

end Sys2Proof.Machine
end

