-- ==== Sys2Proof/Machine/Dispatch.lean ====
section
/-! DEFINITION. The dispatch: one arm for each command, each a direct call of its meaning. -/

namespace Sys2Proof.Machine

/-- The effect of a command on everything but the queue of waiting commands. -/
def exec (i : Instr) (s : State) : Host.Outcome State Fault Refusal :=
  match i with
  | .reset => Sys2Proof.Machine.execReset s
  | .readTransaction bytesOut => Sys2Proof.Machine.execReadTransaction bytesOut s
  | .commandCollision => Sys2Proof.Machine.execCommandCollision s
  | .unknownCommand code payload => Sys2Proof.Machine.execUnknownCommand code payload s
  | .readStatus => Sys2Proof.Machine.execReadStatus s
  | .readNotice => Sys2Proof.Machine.execReadNotice s
  | .configure payload => Sys2Proof.Machine.execConfigure payload s
  | .restore state placeKind placeNumber prior counterpart handoff image => Sys2Proof.Machine.execRestore state placeKind placeNumber prior counterpart handoff image s
  | .join => Sys2Proof.Machine.execJoin s
  | .rejoin => Sys2Proof.Machine.execRejoin s
  | .readPeer station => Sys2Proof.Machine.execReadPeer station s
  | .pardon station => Sys2Proof.Machine.execPardon station s
  | .create placeKind placeNumber image => Sys2Proof.Machine.execCreate placeKind placeNumber image s
  | .drop tool => Sys2Proof.Machine.execDrop tool s
  | .resolve tool choice => Sys2Proof.Machine.execResolve tool choice s
  | .markDamaged tool => Sys2Proof.Machine.execMarkDamaged tool s
  | .regrind tool newLength => Sys2Proof.Machine.execRegrind tool newLength s
  | .readRecord tool => Sys2Proof.Machine.execReadRecord tool s
  | .listRecords start => Sys2Proof.Machine.execListRecords start s
  | .issue panel cls forStation => Sys2Proof.Machine.execIssue panel cls forStation s
  | .returnTool panel pocket => Sys2Proof.Machine.execReturn panel pocket s
  | .serviceOpen panel list => Sys2Proof.Machine.execServiceOpen panel list s
  | .cancel panel => Sys2Proof.Machine.execCancel panel s
  | .identifyPocket pocket tool => Sys2Proof.Machine.execIdentifyPocket pocket tool s
  | .clearPocketFault pocket => Sys2Proof.Machine.execClearPocketFault pocket s
  | .readPocket pocket => Sys2Proof.Machine.execReadPocket pocket s
  | .readPanel panel => Sys2Proof.Machine.execReadPanel panel s
  | .readReservations => Sys2Proof.Machine.execReadReservations s
  | .identifyHead tool => Sys2Proof.Machine.execIdentifyHead tool s
  | .measureReference n t => Sys2Proof.Machine.execMeasureReference n t s
  | .measure tool n t => Sys2Proof.Machine.execMeasure tool n t s
  | .abortMeasure => Sys2Proof.Machine.execAbortMeasure s
  | .readHead => Sys2Proof.Machine.execReadHead s
  | .load slot tool => Sys2Proof.Machine.execLoad slot tool s
  | .unload slot => Sys2Proof.Machine.execUnload slot s
  | .charge slot seconds => Sys2Proof.Machine.execCharge slot seconds s
  | .readSlot slot => Sys2Proof.Machine.execReadSlot slot s
  | .setDemand entries => Sys2Proof.Machine.execSetDemand entries s
  | .startDemand mode interval target hold => Sys2Proof.Machine.execStartDemand mode interval target hold s
  | .stopDemand => Sys2Proof.Machine.execStopDemand s
  | .readDemand => Sys2Proof.Machine.execReadDemand s
  | .lineIdle => Sys2Proof.Machine.execLineIdle s
  | .arbitrationLost => Sys2Proof.Machine.execArbitrationLost s
  | .bitError startMark => Sys2Proof.Machine.execBitError startMark s
  | .frameSent => Sys2Proof.Machine.execFrameSent s
  | .frameReceived frame => Sys2Proof.Machine.execFrameReceived frame s
  | .malformedFrame => Sys2Proof.Machine.execMalformedFrame s
  | .presence => Sys2Proof.Machine.execPresence s
  | .call => Sys2Proof.Machine.execCall s
  | .offer => Sys2Proof.Machine.execOffer s
  | .accept => Sys2Proof.Machine.execAccept s
  | .decline => Sys2Proof.Machine.execDecline s
  | .here => Sys2Proof.Machine.execHere s
  | .check => Sys2Proof.Machine.execCheck s
  | .checkReply => Sys2Proof.Machine.execCheckReply s
  | .demand => Sys2Proof.Machine.execDemand s
  | .lineHeld startNs driverAsserting => Sys2Proof.Machine.execLineHeld startNs driverAsserting s
  | .lineReleased endNs => Sys2Proof.Machine.execLineReleased endNs s
  | .nodeOnline => Sys2Proof.Machine.execNodeOnline s
  | .beaconExpiry => Sys2Proof.Machine.execBeaconExpiry s
  | .peerAbsent station => Sys2Proof.Machine.execPeerAbsent station s
  | .callWaitExpiry slot => Sys2Proof.Machine.execCallWaitExpiry slot s
  | .offerWaitExpiry slot => Sys2Proof.Machine.execOfferWaitExpiry slot s
  | .checkWaitExpiry tool => Sys2Proof.Machine.execCheckWaitExpiry tool s
  | .pocketFirstReading pocket levelHigh => Sys2Proof.Machine.execPocketFirstReading pocket levelHigh s
  | .pocketRemoval pocket => Sys2Proof.Machine.execPocketRemoval pocket s
  | .pocketInsertion pocket => Sys2Proof.Machine.execPocketInsertion pocket s
  | .currentSeen pocket => Sys2Proof.Machine.execCurrentSeen pocket s
  | .pullInExpiry pocket => Sys2Proof.Machine.execPullInExpiry pocket s
  | .shortCurrent pocket => Sys2Proof.Machine.execShortCurrent pocket s
  | .holdExpiry pocket => Sys2Proof.Machine.execHoldExpiry pocket s
  | .supplyLow => Sys2Proof.Machine.execSupplyLow s
  | .supplyNormal => Sys2Proof.Machine.execSupplyNormal s
  | .digitKey panel digit => Sys2Proof.Machine.execDigitKey panel digit s
  | .enter panel => Sys2Proof.Machine.execEnter panel s
  | .clear panel => Sys2Proof.Machine.execClear panel s
  | .interKeyExpiry panel => Sys2Proof.Machine.execInterKeyExpiry panel s
  | .lockoutExpiry panel => Sys2Proof.Machine.execLockoutExpiry panel s
  | .windowExpiry panel => Sys2Proof.Machine.execWindowExpiry panel s
  | .scaleStep scale up => Sys2Proof.Machine.execScaleStep scale up s
  | .scaleError scale => Sys2Proof.Machine.execScaleError scale s
  | .capture rising => Sys2Proof.Machine.execCapture rising s
  | .captureTimeout => Sys2Proof.Machine.execCaptureTimeout s
  | .seatFirstReading levelHigh => Sys2Proof.Machine.execSeatFirstReading levelHigh s
  | .headSeated => Sys2Proof.Machine.execHeadSeated s
  | .headUnseated => Sys2Proof.Machine.execHeadUnseated s
  | .cycleExpiry => Sys2Proof.Machine.execCycleExpiry s
  | .triggerEdge levelHigh => Sys2Proof.Machine.execTriggerEdge levelHigh s
  | .reservationExpiry requester cls => Sys2Proof.Machine.execReservationExpiry requester cls s
  | .dominantEdge => Sys2Proof.Machine.execDominantEdge s
  | .startMarkRead widthNs => Sys2Proof.Machine.execStartMarkRead widthNs s
  | .framingError cause => Sys2Proof.Machine.execFramingError cause s
  | .resetEnds straps => Sys2Proof.Machine.execResetEnds straps s

end Sys2Proof.Machine
end

