-- ==== Sys2Proof/Machine/Ticks.lean ====
section
/-! DEFINITION. What happens with no command in front: the command that waits in the slot is taken (R176), or a
millisecond of the node's count passes (00_scope.md, "Time"). -/

namespace Sys2Proof.Machine

/-- A millisecond passes. The count wraps (R187); no deadline expires by itself, since each expiry is a command of
its own. DESIGN CHOICE (log 5). Whether command frames wait from now on is drawn anew: a free value (log 28). -/
def State.tick (s : State) : State :=
  { s with
    now := s.now + 1
    delay := { later := Config.takenLater s.delay.draws, draws := s.delay.draws + 1 } }

/-- A step with no command in front: while the reset is held nothing happens; a command that waits in the slot is
taken as its own event (R176), unless it is to wait on, when a millisecond passes. DESIGN CHOICE (log 5, log 28). -/
def State.idle (s : State) : StepOutcome :=
  if s.port.resetHeld then .next s
  else
    match s.port.commandSlot with
    | some c => if s.delay.later then .next s.tick else exec c { s with port.commandSlot := none }
    | none => .next s.tick

end Sys2Proof.Machine
end

