-- ==== Sys2Proof/Machine/Step.lean ====
section
/-! DEFINITION. One step of the machine: the command at the front of the queue, or on an empty queue the command
that waits in the slot or a tick of the millisecond count; and the host's way of putting a decoded command in front. -/

namespace Sys2Proof.Machine

/-- One step: the command at the front of the queue runs on the state with the queue's rest; on an empty queue the
command that waits in the slot is taken, or a millisecond passes. DESIGN CHOICE (log 5, log 28). -/
def step (s : State) : Host.Outcome State Fault Refusal :=
  match s.pending with
  | [] => s.idle
  | c :: rest => exec c { s with pending := rest }

/-- The command that a word of the table's bits spells put at the front of the queue; no row of the table has bits,
so no word spells a command. DESIGN CHOICE (log 7). -/
def State.withFetchWord (s : State) (nbits w : Nat) : State :=
  match decodeTableWord nbits w with
  | some c => { s with pending := c :: s.pending }
  | none => s

end Sys2Proof.Machine
end

