-- ==== Sys2Proof/Safety.lean ====
section
/-! DEFINITION. What a safe state is, in the terms the statements use: the laws that the spec says the node keeps,
each a predicate on any state. -/

namespace Sys2Proof.Machine

/-- The node goes on: a next state, neither a fault nor a refusal. -/
def GoesOn (o : StepOutcome) : Prop := ∃ t, o = .next t

/-- The sizes that the spec gives the queues, lists and tables (R33, R38, R46, R58 to R60, R90, R166,
R179). -/
structure State.Sized (s : State) : Prop where
  notices : s.notices.entries.length ≤ Config.noticeMax
  txQueue : s.line.txQueue.length ≤ Config.txMax
  rxQueue : s.line.rxQueue.length ≤ Config.rxMax
  peers : s.roster.peers.length = Config.stations
  calls : s.custody.calls.length = Config.callSlots
  outs : s.custody.outs.length = Config.outboundSlots
  accepted : s.custody.accepted.length ≤ Config.acceptedMax
  pullIns : s.bank.pullIns.length = Config.pullInSlots
  reservations : s.reservations.length ≤ Config.reservationMax

/-- The transmit queue is ordered by priority class, lowest first (R33). -/
def Line.Ordered (l : Line) : Prop := l.txQueue.Pairwise (fun f g => f.kind.cls ≤ g.kind.cls)

/-- The number of frames in transmission. -/
def Line.sendingCount (l : Line) : Nat := l.txQueue.countP (·.sending)

/-- The line law: a node that is not ONLINE queues and drives nothing (R28), the queue is ordered (R33), at
most one frame is in transmission, and only while the condition is TRANSMITTING (R26, R29). -/
structure State.LineLaw (s : State) : Prop where
  silent : s.port.nodeState ≠ .online → s.line.txQueue = []
  ordered : s.line.Ordered
  oneAttempt : s.line.sendingCount ≤ 1
  transmitting : s.line.attempting = true → s.line.condition = .transmitting

/-- The port law: while the reset is held the node is UNCONFIGURED with nothing at the port (R187); a command in the
slot is a host command, and no response is pending beside it (R176); a node past CONFIGURE has a station number 1 to
62 (R183, R184); before CONFIGURE the receiver is stopped and the line condition IDLE (R45, R182). The source of the
frame that the node drives, and of the last one that it has sent since its reset, is its station number (R183). -/
structure State.PortLaw (s : State) : Prop where
  held : s.port.resetHeld = true →
    s.port.nodeState = .unconfigured ∧ s.port.response = none ∧ s.port.commandSlot = none
      ∧ s.line.lastSent = none
  slot : ∀ c, s.port.commandSlot = some c → s.port.response = none ∧ (commandCode c).isSome = true
  station : s.port.nodeState ≠ .unconfigured → 1 ≤ s.port.station.toNat ∧ s.port.station.toNat ≤ 62
  quiet : s.port.nodeState = .unconfigured → s.line.receiver = .stopped ∧ s.line.condition = .idle
  source : ∀ w, s.driven = some w ∨ s.line.lastSent = some w → w.source = s.port.station

/-- The driven-lock law (R90): at most 8 locks energised, none moving while the supply is LOW, none moving at a
pocket with a latched fault. -/
structure State.DriveLaw (s : State) : Prop where
  energised : s.bank.energised ≤ Config.energisedMax
  noSupply : s.bank.supply = .low → s.bank.queue = [] ∧ ∀ k ∈ s.bank.pockets, k.lock = .closed
  noFault : ∀ k ∈ s.bank.pockets, k.fault ≠ .none → k.lock = .closed

/-- The tool ids of the held records in row order (R4). -/
def State.heldIds (s : State) : List ToolId := s.records.map (·.image.toolId)

/-- The tool ids of the open call slots in slot order. -/
def State.calledIds (s : State) : List ToolId := (s.custody.calls.filterMap id).map (·.tool)

/-- The record-table law: no tool id is held twice or both held and called for, no two open calls name one tool,
and held records and open calls share the 96 rows (R2, R3, R58). Before LISTENING no call is open (R64). -/
structure State.RecordLaw (s : State) : Prop where
  distinct : (s.heldIds ++ s.calledIds).Nodup
  rows : s.records.length + s.openCalls ≤ Config.tableRows
  calm : s.port.nodeState = .unconfigured ∨ s.port.nodeState = .configured → s.calledIds = []

/-- The place law (R9, R58, R88, R145, R146): the pockets, the slots and the head hold exactly the records that stand
there, and an open call's purpose place awaits its tool. -/
structure State.PlaceLaw (s : State) : Prop where
  pockets : ∀ p tool, (∃ k, s.pocket? p = some k ∧ k.occupancy = .held tool) ↔
    ∃ r ∈ s.records, r.image.toolId = tool ∧ r.state = .stocked p
  slots : ∀ n tool, s.slot? n = some (.loaded tool) ↔
    ∃ r ∈ s.records, r.image.toolId = tool ∧ r.state = .loaded n
  head : ∀ r ∈ s.records, r.state = .seated ∨ r.state = .measuring →
    s.head.seat = .present ∧ ∀ q ∈ s.records, q.state = .seated ∨ q.state = .measuring → q = r
  run : ∀ tool, (∃ r, s.head.run = some r ∧ r.kind = .measurement tool) ↔
    ∃ r ∈ s.records, r.image.toolId = tool ∧ r.state = .measuring
  absent : ∀ k ∈ s.bank.pockets, k.occupancy = .empty ↔ k.presence = .absent
  calls : ∀ c, some c ∈ s.custody.calls → match c.purpose with
    | .pocket p => ∃ k, s.pocket? p = some k ∧ k.occupancy = .unknown ∧ k.presence = .present
    | .slot n => s.slot? n = some (.calling c.tool)
    | .head => s.head.seat = .present ∧ s.headRecord = none
  calling : ∀ n tool, s.slot? n = some (.calling tool) →
    ∃ c, some c ∈ s.custody.calls ∧ c.tool = tool ∧ c.purpose = .slot n
  purposes : ((s.custody.calls.filterMap id).map (·.purpose)).Nodup
  bare : s.port.nodeState = .unconfigured → s.records = []

/-- The offer law (R59): each busy outbound slot refers to one OUTBOUND record, with the same caller and handoff
number, each OUTBOUND record is referred to by a slot, and no two slots refer to one record. -/
structure State.OfferLaw (s : State) : Prop where
  record : ∀ o, some o ∈ s.custody.outs → ∃ r ∈ s.records, r.image.toolId = o.tool ∧
    ∃ prior, r.state = .outbound { counterpart := o.caller, handoff := o.handoff } prior
  slot : ∀ r ∈ s.records, ∀ c prior, r.state = .outbound c prior →
    ∃ o, some o ∈ s.custody.outs ∧ o.tool = r.image.toolId
  once : ((s.custody.outs.filterMap id).map (·.tool)).Nodup

/-- The reservation law (R166): one row for each requester and class, each wanted count 1 to 4. -/
structure State.ReservationLaw (s : State) : Prop where
  oneEach : (s.reservations.map (fun row => (row.requester, row.cls))).Nodup
  wanted : ∀ row ∈ s.reservations, 1 ≤ row.wanted ∧ row.wanted ≤ 4

/-! ### The words of the statements -/

/-- The local port takes a command frame as it completes: no reset is held, no response is pending, the command slot
is free (R176, R187), and the frame does not wait in the slot (log 28). -/
structure State.PortFree (s : State) : Prop where
  running : s.port.resetHeld = false
  noResponse : s.port.response = none
  slotFree : s.port.commandSlot = none
  atOnce : s.delay.later = false

/-- The state with a response formed and the command slot free (R176). -/
def State.answered (s : State) (r : HostResult) (payload : List Byte) : State :=
  { s with port := { s.port with
    commandSlot := none, response := some { result := r, payload := payload } } }

/-- The pocket table with its reservation marks left out: what the marking pass does not touch. -/
def State.plainPockets (s : State) : List Pocket :=
  s.bank.pockets.map (fun k => { k with reservedFor := none })

/-- The pull-in law (R90): 4 pull-in slots, and every PULLING pocket holds one. -/
structure State.PullInLaw (s : State) : Prop where
  slots : s.bank.pullIns.length = Config.pullInSlots
  held : ∀ p k, s.pocket? p = some k → k.lock.isPulling = true →
    ∃ w, some w ∈ s.bank.pullIns ∧ w.pocket = p

/-- The operation law (R97, R112): a lock that is not CLOSED is held by the operation of its panel, of the lock's
purpose, as a pocket that is OPEN while the lock is HOLDING and WAITING before; no operation has a pocket twice, and an
ISSUE and a RETURN have one. -/
structure State.HoldLaw (s : State) : Prop where
  held : ∀ p k why, s.pocket? p = some k → k.lock.opening = some why →
    ∃ o q, (s.panel why.panel).operation = some o ∧ o.kind.purpose = why.purpose ∧ q ∈ o.pockets
      ∧ q.pocket = p ∧ q.status = if k.lock.code = 3 then .opened else .waiting
  single : ∀ i o, (s.panel i).operation = some o →
    (o.pockets.map (·.pocket)).Nodup ∧ (o.kind ≠ .service → ∃ q, o.pockets = [q])

/-- What the end of a pocket's course leaves of the operation of its panel, and the notice it adds behind those of
`posted` (R113, R116, R118, R120): an ISSUE and a RETURN end with the outcome of this code, where the report can reach
them; at a SERVICE operation the pocket is ENDED with the report, and the operation ends COMPLETED with its last
pocket. -/
def PocketEnds (s posted t : State) (i : PanelId) (o : Operation) (p : Nat) (r : Report)
    (issue ret : Option Nat) : Prop :=
  let pockets := o.pockets.map (fun q => if q.pocket = p then { q with status := .ended r } else q)
  let finished (kind : NoticeKind) (argument : List Byte) : Prop :=
    t.panel i = { s.panel i with operation := none }
      ∧ t.notices = (posted.post kind (num (panelCode i)) (parts argument)).notices
  (∀ code, issue = some code → o.kind.purpose = .issue → finished .issueDone (byte code ++ byte p))
  ∧ (∀ code, ret = some code → o.kind = .ret → finished .returnDone (byte code ++ byte p))
  ∧ (o.kind = .service →
    ((∀ q ∈ pockets, q.status.isEnded = true) → finished .serviceDone (byte 9
      ++ byte (pockets.countP (·.reachedOpen)) ++ byte (pockets.countP (·.status == .ended .driveFault))))
    ∧ ((∃ q ∈ pockets, q.status.isEnded = false) →
      t.panel i = { s.panel i with operation := some { o with pockets := pockets } }
        ∧ t.notices = posted.notices))

/-- The notices of lapsing offers, in slot order: RECORD_CHANGED with IN_DOUBT and place none, then RECORD_IN_DOUBT with
the caller, the handoff number and the cause code (R71, R72). -/
def postLapses (cause : Nat) (outs : List OutSlot) (s : State) : State :=
  outs.foldl (fun u o => (u.post .recordChanged o.tool (parts (byte 8 ++ byte 0 ++ byte 0))).post .recordInDoubt
    o.tool (parts (byte o.caller ++ [o.handoff] ++ byte cause))) s

/-- The ranges of R5 and R6 that hold of one image. -/
structure Image.InRange (i : Image) : Prop where
  toolId : i.toolId ≠ 0
  cls : 1 ≤ i.cls ∧ i.cls ≤ 65535
  nomLength : i.nomLength ≤ Config.lengthMax
  nomRadius : i.nomRadius ≤ Config.radiusMax
  lifeLimit : 1 ≤ i.lifeLimit ∧ i.lifeLimit ≤ Config.lifeMax
  lifeUsed : i.lifeUsed ≤ i.lifeLimit
  warnMargin : i.warnMargin ≤ i.lifeLimit
  remeasureInterval : i.remeasureInterval ≤ Config.lifeMax
  regrinds : i.regrinds ≤ 15
  tolerances : i.lengthTol ≤ 65535 ∧ i.radiusTol ≤ 65535 ∧ i.runoutLimit ≤ 65535
  measured : ∀ m, i.measured = some m →
    m.length ≤ Config.lengthMax ∧ m.radius ≤ Config.radiusMax ∧ m.runout ≤ Config.runoutMax
      ∧ 1 ≤ m.station ∧ m.station ≤ 62 ∧ -1000 ≤ m.temperature ∧ m.temperature ≤ 5000
      ∧ 3 ≤ m.kept ∧ m.kept ≤ 32 ∧ m.lifeAtMeasure ≤ i.lifeUsed

/-- Every held record is in the ranges of R5 and R6. -/
def State.RangeLaw (s : State) : Prop := ∀ r ∈ s.records, r.image.InRange

/-- The run law (R131, R133): an active run has N of 4 to 32 and T in the range of R6, its buffer is short of N, and the
node is past CONFIGURE. -/
def State.RunLaw (s : State) : Prop := ∀ r, s.head.run = some r →
  4 ≤ r.n ∧ r.n ≤ 32 ∧ -1000 ≤ r.t ∧ r.t ≤ 5000 ∧ s.head.samples.length < r.n
    ∧ s.port.nodeState ≠ .unconfigured

end Sys2Proof.Machine
end

