-- ==== Sys2Proof/Certificates/Slice0/Obligations.lean ====
section
/-! DEFINITION. The statements for the provers: what the commands and events of the TDN240 do, rule by rule, with
what they leave alone, and the laws that every step keeps. -/

open Sys2Proof Sys2Proof.Machine

/-! ### The step, the frames of the port, the laws -/

/-- A step with a command at the front of the queue is exec of that command on the state with the queue's rest.
The model's choice (log 5, log 28): a step on an empty queue takes the command that waits in the slot as its own
event, unless it is to wait on; otherwise one millisecond of the count passes, with a free value for whether
command frames wait from then on, and nothing else changes; while the reset is held nothing happens. -/
def Obligations.StepRunsFrontCommand : Prop :=
  (∀ (c : Instr) (rest : List Instr) (s : State), s.pending = c :: rest →
    step s = exec c { s with pending := rest })
  ∧ (∀ s : State, s.pending = [] →
    (s.port.resetHeld = true → step s = .next s)
    ∧ (s.port.resetHeld = false →
      (∀ c, s.port.commandSlot = some c → s.delay.later = false →
        step s = exec c { s with port := { s.port with commandSlot := none } })
      ∧ (s.port.commandSlot = none ∨ s.delay.later = true →
        step s = .next { s with
          now := s.now + 1
          delay := { later := Config.takenLater s.delay.draws, draws := s.delay.draws + 1 } })))

/-- No command stops the node: in every state each of the 93 commands answers a next state with the queue of
waiting commands as it was. -/
def Obligations.EveryCommandGoesOn : Prop :=
  ∀ (c : Instr) (s : State), ∃ t, exec c s = .next t ∧ t.pending = s.pending

/-- Decode and encode agree on the command frames of the local port: the frame of a well-formed host command,
with any bytes behind it in the same transaction, spells that command, and released one byte early it spells
none. -/
def Obligations.CommandFramesRoundTrip : Prop :=
  ∀ (i : Instr) (bytes extra : List Byte), WellFormed i = true → encodeFrame i = some bytes →
    decodeFrame (bytes ++ extra) = some i ∧ decodeFrame bytes.dropLast = none

/-- The reset state satisfies every law that the other statements say a step keeps. -/
def Obligations.ResetKeepsTheLaws : Prop :=
  State.reset.Sized ∧ State.reset.LineLaw ∧ State.reset.DriveLaw ∧ State.reset.PullInLaw
    ∧ State.reset.RecordLaw ∧ State.reset.RangeLaw ∧ State.reset.PortLaw ∧ State.reset.HoldLaw
    ∧ State.reset.RunLaw ∧ State.reset.PlaceLaw ∧ State.reset.OfferLaw ∧ State.reset.ReservationLaw

/-- Every step keeps the sizes of the queues, lists and tables (R33, R38, R46, R58 to R60, R90, R166, R179).
Every step keeps the reservation law: at most one row for each pair of requester and class, and every wanted count 1
to 4 (R166). -/
def Obligations.SizesKept : Prop :=
  (∀ s t : State, s.Sized → step s = .next t → t.Sized)
  ∧ (∀ s t : State, s.ReservationLaw → step s = .next t → t.ReservationLaw)

/-- Every step keeps the line law: nothing queued outside ONLINE, the queue ordered by class, at most one frame
in transmission, and only while TRANSMITTING (R26, R28, R29, R33).
Every step keeps with it the port law: an UNCONFIGURED node with nothing at the port while the reset is held, no
response beside a command in the slot, a station number 1 to 62 past CONFIGURE, a stopped receiver and an IDLE
line before it (R176, R182, R183, R187). In it the frame that the node drives, and the last one that it has sent
since its reset, bear its station number as their source (R183; that the last one is kept is the model's, log 8). -/
def Obligations.LineLawKept : Prop :=
  (∀ s t : State, s.LineLaw → step s = .next t → t.LineLaw)
  ∧ (∀ s t : State, s.LineLaw → s.PortLaw → step s = .next t → t.PortLaw)

/-- Every step keeps the driven-lock law: at most 8 locks energised, every lock CLOSED and the drive queue empty
while the supply is LOW, no lock moving at a pocket with a latched fault (R90, R92, R94).
Every step keeps the pull-in law (R90).
The pull-in law leaves at most 4 locks PULLING (R90).
Every step keeps the operation law: a lock that is not CLOSED is held by the operation of its panel, as a pocket
that is OPEN while the lock is HOLDING and WAITING before (R97, R112). -/
def Obligations.LockLawsKept : Prop :=
  (∀ s t : State, s.DriveLaw → step s = .next t → t.DriveLaw)
  ∧ (∀ s t : State, s.PullInLaw → step s = .next t → t.PullInLaw)
  ∧ (∀ s : State, s.PullInLaw → s.bank.pulling ≤ 4)
  ∧ (∀ s t : State, s.HoldLaw → step s = .next t → t.HoldLaw)

/-- Every step keeps the record-table law: no tool id in more than one row, held records and open calls
together at most 96 (R2, R3).
Every step keeps with it the place law: a pocket is HELD with a record exactly when that record is STOCKED there, a
slot is LOADED with one exactly when it is LOADED there, at most one record is SEATED or MEASURING, and only while
the head seat is sensed present; a purpose place of an open call awaits its tool, and no two calls share one (R9,
R146, R58).
Every step keeps with both the offer law: busy outbound slots and OUTBOUND records correspond, with the same caller
and handoff number (R59). -/
def Obligations.RecordLawKept : Prop :=
  (∀ s t : State, s.RecordLaw → step s = .next t → t.RecordLaw)
  ∧ (∀ s t : State, s.RecordLaw → s.PlaceLaw → step s = .next t → t.PlaceLaw)
  ∧ (∀ s t : State, s.RecordLaw → s.PlaceLaw → s.OfferLaw → step s = .next t → t.OfferLaw)

/-- Every step keeps each held record in the ranges of R5 and R6: the identity, nominal and life fields, and in a
measured block the length, radius, runout, measuring station, temperature, kept samples and life used at measure; life
used never exceeds the life limit. A run's N and T stay in their ranges and its buffer short of N (R131, R133). -/
def Obligations.RangeLawKept : Prop :=
  (∀ s t : State, s.RecordLaw → s.PortLaw → s.RunLaw → s.RangeLaw → step s = .next t → t.RangeLaw)
  ∧ (∀ s t : State, s.LineLaw → s.PortLaw → s.RunLaw → step s = .next t → t.RunLaw)

/-! ### Local port -/

/-- A host command is answered once: each of the 38 host commands that is taken as its frame completes forms a
response and leaves the slot free and READY high; one that is refused carries its reason with a length of 0 and
changes nothing else (R176).
A frame that finds the slot free and no response pending, and is taken later, enters the slot and READY goes
low; nothing else changes, whatever the command (R176; that it waits is the model's free value, log 28). -/
def Obligations.HostCommandsAnswerOnce : Prop :=
  (∀ (c : Instr) (s : State), (commandCode c).isSome = true → s.PortFree →
    ∃ t r, exec c s = .next t ∧ t.port.response = some r ∧ t.port.commandSlot = none ∧ t.ready = true
      ∧ t.port.station = s.port.station ∧ t.pending = s.pending ∧ t.now = s.now
      ∧ t.config.routing = (match c with
          | .configure p => if r.result = .ok then (parseConfig p).routing else s.config.routing
          | _ => s.config.routing)
      ∧ (r.result ≠ .ok → t = s.answered r.result []))
  ∧ (∀ (c : Instr) (s : State), (commandCode c).isSome = true → s.port.resetHeld = false →
    s.port.response = none → s.port.commandSlot = none → s.delay.later = true →
    exec c s = .next { s with port := { s.port with commandSlot := some c } }
      ∧ State.ready { s with port := { s.port with commandSlot := some c } } = false)

/-- A complete command frame that arrives while a response is pending or the command slot is occupied is
discarded, and COLLISION is set; nothing else changes (R177).
A command code outside the table, or a length the command does not take, gives UNKNOWN_COMMAND and has no
effect (R178). -/
def Obligations.DiscardedCommandFrames : Prop :=
  (∀ (c : Instr) (s : State), (commandCode c).isSome = true ∨ c = .commandCollision →
    s.port.resetHeld = false → s.port.response.isSome = true ∨ s.port.commandSlot.isSome = true →
    exec c s = .next { s with port := { s.port with collision := true } })
  ∧ (∀ (code : Byte) (payload : List Byte) (s : State), s.PortFree →
    exec (.unknownCommand code payload) s = .next (s.answered .unknownCommand []))

/-- A read transaction shifts out the result byte, the length byte and the payload, then zeros; the response
slot is emptied exactly when the last of these bytes has been shifted out; with no response pending it shifts
out 255 and 0 and changes nothing (R175). -/
def Obligations.ReadTransactionEmptiesTheSlot : Prop :=
  ∀ (n : Nat) (s : State), s.port.resetHeld = false →
    (s.port.response = none →
      exec (.readTransaction n) s = .next { s with port := { s.port with
        dataOut := ([255, 0] : List Byte).take n ++ List.replicate (n - 2) 0 } })
    ∧ (∀ r, s.port.response = some r →
      exec (.readTransaction n) s = .next { s with port := { s.port with
        dataOut := (byte r.result.code ++ byte r.payload.length ++ r.payload).take n
          ++ List.replicate (n - (r.payload.length + 2)) 0
        response := if r.payload.length + 2 ≤ n then none else some r } })

/-- RESET puts every block at its reset values (the model's own queue and free values go on, log 1 and log 28),
and the end of the reset starts the count from 0 and reads the straps, which makes READY high (R183, R187). -/
def Obligations.ResetAndItsEnd : Prop :=
  (∀ s : State, exec .reset s = .next { State.reset with pending := s.pending, delay := s.delay })
  ∧ (∀ (straps : BitVec 6) (s : State), s.port.resetHeld = true →
      exec (.resetEnds straps) s = .next
        { s with now := 0, port := { s.port with resetHeld := false, station := straps } })
  ∧ (∀ (straps : BitVec 6) (l : List Instr), ∃ t,
      exec (.resetEnds straps) { State.reset with pending := l } = .next t
        ∧ t.ready = true ∧ t.attn = false ∧ t.port.nodeState = .unconfigured ∧ t.records = []
        ∧ t.freeRows = 96 ∧ t.notices.entries = [] ∧ t.line.driverDisabled = false
        ∧ t.reservations = [] ∧ t.head.reference.valid = false ∧ t.custody.handoff = 0)

/-- READ_STATUS reports the flags as they stand, clears all three, and changes nothing else (R182). -/
def Obligations.ReadStatusReportsAndClears : Prop :=
  ∀ s : State, s.PortFree →
    exec .readStatus s = .next
      ({ s with
          port.collision := false, notices.overflow := false, line.rxOverrun := false }.answered .ok
        (byte s.port.station.toNat ++ byte s.port.nodeState.code ++ byte s.line.condition.code
          ++ byte ((if s.port.collision then 1 else 0) + (if s.notices.overflow then 2 else 0)
              + (if s.line.rxOverrun then 4 else 0) + (if s.bank.supply = Supply.low then 8 else 0))
          ++ byte s.records.length ++ byte (s.custody.calls.countP Option.isSome)
          ++ byte (s.custody.outs.countP Option.isSome) ++ byte s.notices.entries.length))

/-- READ_NOTICE removes the oldest entry and returns it with the number of entries left; on an empty queue it
answers OK with a length of 0; it is taken in every node state (R180).
A posted notice joins the end of a queue of fewer than 32 entries with the count as its timestamp; at a full
queue it is discarded and OVERFLOW is set; ATTN is asserted exactly while an entry of an enabled category stands
in the queue (R179, R181). -/
def Obligations.NoticeQueueRules : Prop :=
  (∀ s : State, s.PortFree →
    (s.notices.entries = [] → exec .readNotice s = .next (s.answered .ok []))
    ∧ (∀ n rest, s.notices.entries = n :: rest →
      exec .readNotice s = .next ({ s with notices.entries := rest }.answered .ok
        (byte n.kind.code ++ beBytes 4 n.object.toNat ++ beBytes 4 n.argument.toNat
          ++ beBytes 4 n.timestamp.toNat ++ byte rest.length))))
  ∧ ((∀ (k : NoticeKind) (o a : BitVec 32) (s : State),
    (s.notices.entries.length < 32 → s.post k o a =
      { s with notices.entries := s.notices.entries ++
        [{ kind := k, object := o, argument := a, timestamp := s.now }] })
    ∧ (32 ≤ s.notices.entries.length → s.post k o a = { s with notices.overflow := true }))
  ∧ (∀ s : State, s.port.resetHeld = false →
      (s.attn = true ↔ ∃ n ∈ s.notices.entries, s.config.routing.getLsbD n.kind.category.bit = true)))

/-- CONFIGURE is one event: it stores every value in its range, makes the node CONFIGURED, creates the pocket and
the slot table, starts the receiver, and answers the station number and the number of changed fields; it leaves
everything else and posts no notice (R184, R85, R145, R26).
Every value that CONFIGURE stores is in its range (R184, R104). -/
def Obligations.ConfigureLoadsTheNode : Prop :=
  ((∀ (p : List Byte) (s : State), s.PortFree → p.length = 61 → s.port.nodeState = .unconfigured →
    1 ≤ s.port.station.toNat → s.port.station.toNat ≤ 62 →
    exec (.configure p) s = .next
      ({ s with
          config := parseConfig p
          port.nodeState := .configured
          bank.pockets := List.replicate (parseConfig p).pocketCount Pocket.fresh
          magazine := List.replicate (parseConfig p).slotCount .empty
          line.condition := .receiving
          line.receiver := .waiting }.answered .ok
        (byte s.port.station.toNat ++ byte (changedFields p))))
  ∧ (∀ (p : List Byte) (s : State), s.PortFree → p.length = 61 → s.port.nodeState ≠ .unconfigured →
    exec (.configure p) s = .next (s.answered .badState []))
  ∧ (∀ (p : List Byte) (s : State), s.PortFree → p.length = 61 → s.port.nodeState = .unconfigured →
    s.port.station = 0 ∨ s.port.station = 63 →
    exec (.configure p) s = .next (s.answered .badStation [])))
  ∧ (∀ (p : List Byte), let c := parseConfig p
    c.pocketCount ≤ 48 ∧ c.slotCount ≤ 64 ∧ c.lineRate ≤ 3 ∧ c.beaconCode ≤ 3
      ∧ c.debounceMs % 5 = 0 ∧ 5 ≤ c.debounceMs ∧ c.debounceMs ≤ 80
      ∧ 50 ≤ c.pullInMs ∧ c.pullInMs ≤ 300 ∧ (field p 6 2 = 0 → c.pullInMs = 120)
      ∧ 5 ≤ c.holdS ∧ c.holdS ≤ 60 ∧ (field p 8 1 = 0 → c.holdS = 20)
      ∧ c.lRef ≤ 5000000 ∧ c.rRef ≤ 1000000 ∧ c.alpha ≤ 3000
      ∧ 1 ≤ c.band ∧ c.band ≤ 2000 ∧ (field p 18 2 = 0 → c.band = 40)
      ∧ c.codeTable.length = 8
      ∧ ∀ e ∈ c.codeTable, e.enabled = true →
          4 ≤ e.digits.length ∧ e.digits.length ≤ 8 ∧ ∀ d ∈ e.digits, d ≤ 9)

/-- JOIN in CONFIGURED makes the node LISTENING for twice the beacon interval; NOT_CONFIGURED and BAD_STATE
otherwise (R53).
REJOIN in ONLINE, as one event: queues emptied, roster at its reset values, LISTENING; every busy outbound
slot freed with its record IN_DOUBT, every call closed, no check outstanding, every reservation and mark gone,
the sequencer IDLE with its list kept; the accepted list, the handoff counter, the panels, the measuring unit,
the locks, the row order and the images unchanged; for each busy outbound slot, in slot order, RECORD_CHANGED and
then RECORD_IN_DOUBT with the cause REJOIN, then for each open call slot, in slot order, CALL_DONE ABANDONED, and no
other notice (R56, R57, R65). That the receiver stays as it is, too, is the
model's choice (log 30). -/
def Obligations.JoinAndRejoin : Prop :=
  (∀ s : State, s.PortFree →
    (s.port.nodeState = .configured →
      exec .join s = .next ({ s with port := { s.port with
        nodeState := .listening
        listenDeadline := some (s.now + BitVec.ofNat 32 (2 * (250 * 2 ^ s.config.beaconCode)))
        }}.answered .ok []))
    ∧ (s.port.nodeState = .unconfigured → exec .join s = .next (s.answered .notConfigured []))
    ∧ (s.port.nodeState ≠ .unconfigured → s.port.nodeState ≠ .configured →
      exec .join s = .next (s.answered .badState [])))
  ∧ ((∀ s : State, s.PortFree → s.Sized → s.port.nodeState = .online →
    ∃ t, exec .rejoin s = .next t
      ∧ t.port = { s.port with
          nodeState := .listening
          listenDeadline := some (s.now + BitVec.ofNat 32 (2 * (250 * 2 ^ s.config.beaconCode)))
          commandSlot := none
          response := some { result := .ok, payload := [] } }
      ∧ t.line = { s.line with txQueue := [], rxQueue := [] }
      ∧ t.roster = Roster.atReset
      ∧ t.custody = { s.custody with calls := List.replicate 4 none, outs := List.replicate 4 none }
      ∧ t.records.map (·.image) = s.records.map (·.image)
      ∧ (∀ r ∈ t.records, r.state.check = none)
      ∧ (∀ o, some o ∈ s.custody.outs → ∀ r ∈ s.records, r.image.toolId = o.tool →
          ∀ c p, r.state = .outbound c p →
          { r with state := .inDoubt c p none } ∈ t.records)
      ∧ (∀ r ∈ s.records, (∀ o, some o ∈ s.custody.outs → o.tool ≠ r.image.toolId) →
          { r with state := r.state.uncheck } ∈ t.records)
      ∧ (∀ c n m, some c ∈ s.custody.calls → c.purpose = .slot n → s.slot? n = some m →
          t.slot? n = some (.refused .abandoned))
      ∧ (∀ n, (∀ c, some c ∈ s.custody.calls → c.purpose ≠ .slot n) → t.slot? n = s.slot? n)
      ∧ t.reservations = []
      ∧ t.bank = { s.bank with pockets := s.plainPockets }
      ∧ t.demand = { s.demand with running := false, cycles := 0, deadline := none }
      ∧ (s.RecordLaw → s.OfferLaw → t.notices = ((s.custody.calls.filterMap id).foldl
          (fun u c => u.post .callDone c.tool (parts (byte 5 ++ byte 0 ++ byte 0)))
          (postLapses 3 (s.custody.outs.filterMap id) s)).notices)
      ∧ t.panels = s.panels ∧ t.head = s.head ∧ t.config = s.config ∧ t.now = s.now)
  ∧ (∀ s : State, s.PortFree → s.port.nodeState = .unconfigured →
      exec .rejoin s = .next (s.answered .notConfigured []))
  ∧ (∀ s : State, s.PortFree → s.port.nodeState ≠ .unconfigured → s.port.nodeState ≠ .online →
      exec .rejoin s = .next (s.answered .badState [])))

/-- PARDON sets the strike count of one roster entry to 0 and clears DOUBTFUL, in every node state but
UNCONFIGURED; no notice, no other change (R50). -/
def Obligations.PardonForgives : Prop :=
  ∀ (b : Byte) (s : State), s.PortFree →
    (s.port.nodeState ≠ .unconfigured → 1 ≤ b.toNat → b.toNat ≤ 62 →
      exec (.pardon b) s = .next ({ s with
        roster.peers := s.roster.peers.modify (b.toNat - 1)
          (fun p => { p with strikes := 0, doubtful := false }) }.answered .ok []))
    ∧ (s.port.nodeState = .unconfigured →
      exec (.pardon b) s = .next (s.answered .notConfigured []))
    ∧ (s.port.nodeState ≠ .unconfigured → b.toNat = 0 ∨ 62 < b.toNat →
      exec (.pardon b) s = .next (s.answered .outOfRange []))

/-! ### Record commands -/

/-- CREATE makes a held record at the end of the row order, its image taken in under R7 without a measured block:
LOOSE, STOCKED in an UNKNOWN pocket that becomes HELD, or SEATED on an empty seated head, where a reference run
ends DISPLACED; RECORD_ARRIVED with source 0 follows (R15, R129).
A created record is not FIT, has a life used of at most its life limit, and stands in the ranges of R5
(R15, R7).
The refusals of CREATE, in their order, each where none before it applies, at every place: none, a pocket, the head
(R15). -/
def Obligations.CreateMakesARecord : Prop :=
  (∀ (kind number : Byte) (bytes : List Byte) (s : State),
    let tool := toolAt bytes
    let image : Image := { clampBase (parseBase bytes) with measured := none }
    let held (st : RecordState) : State :=
      State.post { s with records := s.records ++ [{ image := image, state := st }] } .recordArrived tool 0
    s.PortFree → s.port.nodeState ≠ .unconfigured → bytes.length = 31 → tool ≠ 0 → field bytes 4 2 ≠ 0 →
    s.find tool = none → s.callFor tool = none → s.freeRows ≠ 0 →
    (kind = 0 →
      exec (.create kind number bytes) s = .next ((held .loose).answered .ok []))
    ∧ (∀ k, kind = 1 → s.pocket? number.toNat = some k → k.occupancy = .unknown → k.lock = .closed →
        s.callAt (.pocket number.toNat) = none →
        exec (.create kind number bytes) s = .next
          ((((held (.stocked number.toNat)).setPocket number.toNat
            (fun k => { k with occupancy := .held tool })).markingPass).answered .ok []))
    ∧ (kind = 3 → s.config.head = true → s.head.seat = .present → s.headRecord = none →
        s.callAt .head = none →
        (s.head.run = none →
          exec (.create kind number bytes) s = .next ((held .seated).answered .ok []))
        ∧ (∀ n t d, s.head.run = some { kind := .reference, n := n, t := t, deadline := d } →
          exec (.create kind number bytes) s = .next
            (({ held .seated with head := { s.head with run := none, samples := [] } }.post
              .referenceDone 0 (num 10)).answered .ok []))))
  ∧ (∀ bytes : List Byte, bytes.length = 31 → toolAt bytes ≠ 0 → field bytes 4 2 ≠ 0 →
    let raw : RawImage := { base := parseBase bytes, block := none }
    raw.hostIntake.fit = false ∧ raw.hostIntake.InRange ∧ raw.hostIntake.toolId = toolAt bytes
      ∧ (field bytes 18 3 = 0 → raw.hostIntake.lifeLimit = 1))
  ∧ (∀ (kind number : Byte) (bytes : List Byte) (s : State), s.PortFree → bytes.length = 31 →
    let answer (r : HostResult) : Prop :=
      exec (.create kind number bytes) s = .next (s.answered r [])
    let tool := toolAt bytes
    (s.port.nodeState = .unconfigured → answer .notConfigured)
    ∧ (s.port.nodeState ≠ .unconfigured →
      (tool = 0 ∨ field bytes 4 2 = 0 → answer .outOfRange)
      ∧ (kind = 2 ∨ 3 < kind.toNat → answer .outOfRange)
      ∧ (kind = 1 → number = 0 ∨ s.bank.pockets.length < number.toNat → answer .outOfRange)
      ∧ (kind = 3 → s.config.head = false → answer .outOfRange)
      ∧ (tool ≠ 0 → field bytes 4 2 ≠ 0 →
        kind = 0 ∨ (kind = 1 ∧ s.pocket? number.toNat ≠ none) ∨ (kind = 3 ∧ s.config.head = true) →
        let conflict : Prop :=
          (kind = 1 ∧ ((∃ k, s.pocket? number.toNat = some k ∧ (k.occupancy ≠ .unknown ∨ k.lock ≠ .closed))
            ∨ s.callAt (.pocket number.toNat) ≠ none))
          ∨ (kind = 3 ∧ (s.head.seat ≠ .present ∨ s.headRecord ≠ none ∨ s.callAt .head ≠ none))
        (s.find tool ≠ none → answer .toolExists)
        ∧ (s.find tool = none → s.callFor tool ≠ none → answer .callPending)
        ∧ (s.find tool = none → s.callFor tool = none → conflict → answer .placeConflict)
        ∧ (s.find tool = none → s.callFor tool = none → ¬ conflict → s.freeRows = 0 → answer .tableFull))))

/-- RESTORE in CONFIGURED makes a held record at the end of the row order, its image taken in under R7 and its
state mapped as R186 states: MEASURING becomes SEATED, OUTBOUND becomes IN_DOUBT with no check outstanding; the
place is filled, and RECORD_ARRIVED with source 0 follows (R185, R186).
The refusals of RESTORE, in their order, each where none before it applies: NOT_CONFIGURED, BAD_STATE outside
CONFIGURED, OUT_OF_RANGE for an identifier, a state, or a place, counterpart or prior state that does not suit it,
TOOL_EXISTS, PLACE_CONFLICT, TABLE_FULL (R185, R7). An image whose length does not match its measured-block bit
answers UNKNOWN_COMMAND (R190). -/
def Obligations.RestoreMakesARecord : Prop :=
  (∀ (state kind number prior counterpart handoff : Byte) (bytes : List Byte) (s : State),
    let raw := parseImage bytes
    let tool := raw.base.toolId
    let c := Instr.restore state kind number prior counterpart handoff bytes
    let held (st : RecordState) : State :=
      State.post { s with records := s.records ++ [{ image := raw.hostIntake, state := st }] }
        .recordArrived tool 0
    s.PortFree → s.port.nodeState = .configured → imageLengthOk bytes = true →
    raw.badIdentifier = false → s.find tool = none → s.freeRows ≠ 0 →
    (∀ k, state = 1 → kind = 1 → s.pocket? number.toNat = some k → k.presence = .present →
        k.occupancy = .unknown →
        exec c s = .next ((((held (.stocked number.toNat)).setPocket number.toNat
          (fun k => { k with occupancy := .held tool })).markingPass).answered .ok []))
    ∧ (state = 2 → kind = 2 → s.slot? number.toNat = some .empty →
        exec c s = .next
          (((held (.loaded number.toNat)).setSlot number.toNat (.loaded tool)).answered .ok []))
    ∧ (state = 3 ∨ state = 4 → kind = 3 → s.config.head = true → s.head.seat = .present →
        s.headRecord = none → exec c s = .next ((held .seated).answered .ok []))
    ∧ (state = 5 → kind = 0 → exec c s = .next ((held .loose).answered .ok []))
    ∧ (state = 6 → kind = 0 → exec c s = .next ((held .missing).answered .ok []))
    ∧ (∀ p, state = 7 ∨ state = 8 → kind = 0 → 1 ≤ counterpart.toNat → counterpart.toNat ≤ 62 →
        (prior = 5 ∧ p = .loose ∨ prior = 6 ∧ p = .missing) →
        exec c s = .next ((held (.inDoubt { counterpart := counterpart.toNat, handoff := handoff } p
          none)).answered .ok [])))
  ∧ (∀ (state kind number prior counterpart handoff : Byte) (bytes : List Byte) (s : State), s.PortFree →
    let raw := parseImage bytes
    let answer (r : HostResult) : Prop :=
      exec (.restore state kind number prior counterpart handoff bytes) s = .next (s.answered r [])
    let badIdentifier : Prop := raw.base.toolId = 0 ∨ raw.base.cls = 0
      ∨ ∃ b, raw.block = some b ∧ (b.station = 0 ∨ 62 < b.station)
    let suits : Prop := (state = 1 ∧ kind = 1 ∧ s.pocket? number.toNat ≠ none)
      ∨ (state = 2 ∧ kind = 2 ∧ s.slot? number.toNat ≠ none)
      ∨ ((state = 3 ∨ state = 4) ∧ kind = 3 ∧ s.config.head = true)
      ∨ ((state = 5 ∨ state = 6) ∧ kind = 0)
      ∨ ((state = 7 ∨ state = 8) ∧ kind = 0 ∧ 1 ≤ counterpart.toNat ∧ counterpart.toNat ≤ 62
        ∧ (prior = 5 ∨ prior = 6))
    let conflict : Prop :=
      (kind = 1 ∧ ∃ k, s.pocket? number.toNat = some k ∧ (k.presence ≠ .present ∨ k.occupancy ≠ .unknown))
      ∨ (kind = 2 ∧ s.slot? number.toNat ≠ some .empty)
      ∨ (kind = 3 ∧ (s.head.seat ≠ .present ∨ s.headRecord ≠ none))
    (imageLengthOk bytes = false → answer .unknownCommand)
    ∧ (imageLengthOk bytes = true →
      (s.port.nodeState = .unconfigured → answer .notConfigured)
      ∧ (s.port.nodeState ≠ .unconfigured → s.port.nodeState ≠ .configured → answer .badState)
      ∧ (s.port.nodeState = .configured →
        (badIdentifier ∨ ¬ suits → answer .outOfRange)
        ∧ (¬ badIdentifier → suits →
          (s.find raw.base.toolId ≠ none → answer .toolExists)
          ∧ (s.find raw.base.toolId = none → conflict → answer .placeConflict)
          ∧ (s.find raw.base.toolId = none → ¬ conflict → s.freeRows = 0 → answer .tableFull)))))

/-- An image taken in from the host is clamped to its ranges and its verdict brought into agreement with its own
nominal data: CLAMPED where a clamp changed the measured length or radius, else RUNOUT_HIGH before OUT_OF_BAND
where it arrived WITHIN, else the verdict as it arrived (R7).
A FIT record has no unfit reason and a record that is not FIT has one, DAMAGED before every other; a record
with no measured block is REMEASURE_DUE and not FIT; WORN and LOW never hold together (R10, R11). -/
def Obligations.ImagesAndFitness : Prop :=
  (∀ (r : RawImage) (b : RawBlock), r.block = some b →
    let i := r.hostIntake
    let long := 5000000 < b.length ∨ 1000000 < b.radius
    let far (m : Measured) := i.lengthTol < absDiff m.length i.nomLength
      ∨ i.radiusTol < absDiff m.radius i.nomRadius
    ∃ m, i.measured = some m
      ∧ m.length = min b.length 5000000 ∧ m.radius = min b.radius 1000000
      ∧ m.runout = b.runout ∧ m.station = b.station
      ∧ m.temperature = max (-1000) (min 5000 b.temperature)
      ∧ m.kept = max 3 (min 32 b.kept) ∧ m.lifeAtMeasure = min b.lifeAtMeasure i.lifeUsed
      ∧ i.lifeLimit = max 1 (min 4194303 r.base.lifeLimit)
      ∧ i.lifeUsed = min r.base.lifeUsed i.lifeLimit ∧ i.warnMargin = min r.base.warnMargin i.lifeLimit
      ∧ i.nomLength = min r.base.nomLength 5000000 ∧ i.nomRadius = min r.base.nomRadius 1000000
      ∧ i.remeasureInterval = min r.base.remeasureInterval 4194303
      ∧ (long → m.verdict = .clamped)
      ∧ (¬ long → b.verdictCode = 0 → i.runoutLimit < m.runout → m.verdict = .runoutHigh)
      ∧ (¬ long → b.verdictCode = 0 → m.runout ≤ i.runoutLimit → far m → m.verdict = .outOfBand)
      ∧ (¬ long → b.verdictCode = 0 → m.runout ≤ i.runoutLimit → ¬ far m → m.verdict = .within)
      ∧ (¬ long → b.verdictCode = 1 → m.verdict = .outOfBand)
      ∧ (¬ long → b.verdictCode = 2 → m.verdict = .runoutHigh)
      ∧ (¬ long → 3 ≤ b.verdictCode → m.verdict = .clamped))
  ∧ (∀ i : Image, (i.fit = true ↔ i.unfitReason = none)
    ∧ (i.damaged = true → i.unfitReason = some .damaged)
    ∧ (i.measured = none → i.remeasureDue = true ∧ i.fit = false)
    ∧ (i.damaged = false → i.measured = none → i.unfitReason = some .unmeasured)
    ∧ (i.worn = true → i.low = false)
    ∧ (i.warnMargin = 0 → i.low = false)
    ∧ (∀ m, i.measured = some m → i.remeasureInterval = 0 → i.remeasureDue = false))

/-- DROP removes a held record, frees its row and leaves its place as R16 states; RECORD_DEPARTED with destination
0 is posted, and an outstanding check is abandoned. An OUTBOUND or MEASURING record, or one STOCKED in a pocket whose
lock is not CLOSED, is refused with BAD_STATE, a tool id not held with NO_SUCH_TOOL, 0 with OUT_OF_RANGE (R16). In
UNCONFIGURED both are refused with NOT_CONFIGURED (R178).
RESOLVE settles an IN_DOUBT record: KEEP makes it LOOSE whatever its prior state and posts RECORD_CHANGED,
DROP removes it and posts RECORD_DEPARTED with destination 0; an outstanding check is abandoned. Any other record
is refused with BAD_STATE, a tool id not held with NO_SUCH_TOOL, 0 with OUT_OF_RANGE (R17). -/
def Obligations.DropAndResolve : Prop :=
  (∀ (tool : ToolId) (r : ToolRecord) (s : State), s.PortFree → s.port.nodeState ≠ .unconfigured →
    tool ≠ 0 → s.find tool = some r →
    ((∀ c p, r.state ≠ .outbound c p) → r.state ≠ .measuring →
      (∀ p k, r.state = .stocked p → s.pocket? p = some k → k.lock = .closed) →
      exec (.drop tool) s = .next
        ((State.markingPass (State.post
          ({ (match r.state with
              | .stocked p => s.setPocket p (fun k =>
                  { k with occupancy := .unknown, reservedFor := none })
              | .loaded n => s.setSlot n (.refused .dropped)
              | _ => s) with
            records := s.records.filter (fun q => q.image.toolId != tool) }.removeFrames (.check tool))
          .recordDeparted tool 0)).answered .ok []))
    ∧ ((∃ c p, r.state = .outbound c p) ∨ r.state = .measuring
        ∨ (∃ p k, r.state = .stocked p ∧ s.pocket? p = some k ∧ k.lock ≠ .closed) →
      exec (.drop tool) s = .next (s.answered .badState [])))
  ∧ (∀ (tool : ToolId) (s : State), s.PortFree →
    (s.port.nodeState ≠ .unconfigured →
      (tool = 0 → exec (.drop tool) s = .next (s.answered .outOfRange []))
      ∧ (tool ≠ 0 → s.find tool = none → exec (.drop tool) s = .next (s.answered .noSuchTool [])))
    ∧ (s.port.nodeState = .unconfigured → exec (.drop tool) s = .next (s.answered .notConfigured [])
      ∧ ∀ choice, exec (.resolve tool choice) s = .next (s.answered .notConfigured [])))
  ∧ (∀ (tool : ToolId) (s : State), s.PortFree → s.port.nodeState ≠ .unconfigured →
    (∀ r c p d, tool ≠ 0 → s.find tool = some r → r.state = .inDoubt c p d →
      exec (.resolve tool 1) s = .next
        (((State.removeFrames { s with records := s.records.map (fun q =>
            if q.image.toolId = tool then { q with state := .loose } else q) } (.check tool)).post
          .recordChanged tool (parts (byte 5 ++ byte 0 ++ byte 0))).answered .ok [])
      ∧ exec (.resolve tool 2) s = .next
        (((State.removeFrames { s with records := s.records.filter (fun q =>
            q.image.toolId != tool) } (.check tool)).post .recordDeparted tool 0).answered .ok []))
    ∧ (∀ choice : Byte, choice = 1 ∨ choice = 2 →
      (∀ r, tool ≠ 0 → s.find tool = some r → (∀ c p d, r.state ≠ .inDoubt c p d) →
        exec (.resolve tool choice) s = .next (s.answered .badState []))
      ∧ (tool ≠ 0 → s.find tool = none →
        exec (.resolve tool choice) s = .next (s.answered .noSuchTool []))
      ∧ (tool = 0 → exec (.resolve tool choice) s = .next (s.answered .outOfRange []))))

/-- MARK_DAMAGED sets the damaged flag of a record that is neither OUTBOUND nor IN_DOUBT and whose pocket, if it is
STOCKED, is CLOSED: RECORD_CHANGED is posted and a STOCKED record's pocket loses its mark; on a flag already set
nothing happens (R18).
REGRIND of a STOCKED, LOOSE or SEATED record makes its changes together: life used 0, no measured block,
damaged flag clear, regrind count one more, a given nominal length clamped and taken; RECORD_CHANGED is posted. At a
count of 15 it is refused with REGRIND_LIMIT (R19).
Their other refusals, in their order: NOT_CONFIGURED (R178), OUT_OF_RANGE for the tool id 0, NO_SUCH_TOOL, and BAD_STATE
for a record in another state or STOCKED in a pocket whose lock is not CLOSED (R18, R19). -/
def Obligations.DamageAndRegrind : Prop :=
  (∀ (tool : ToolId) (r : ToolRecord) (s : State), s.PortFree → s.port.nodeState ≠ .unconfigured →
    tool ≠ 0 → s.find tool = some r → (∀ c p, r.state ≠ .outbound c p) →
    (∀ c p d, r.state ≠ .inDoubt c p d) →
    (∀ p k, r.state = .stocked p → s.pocket? p = some k → k.lock = .closed) →
    let flagged : State := { s with records := s.records.map (fun q =>
      if q.image.toolId = tool then { q with image := { q.image with damaged := true } } else q) }
    (r.image.damaged = true → exec (.markDamaged tool) s = .next (s.answered .ok []))
    ∧ (r.image.damaged = false → exec (.markDamaged tool) s = .next
        (((match r.state with
            | .stocked p => (flagged.unmark p).markingPass
            | _ => flagged).post .recordChanged tool
          (parts (byte r.state.code ++ byte r.state.placeCode.1 ++ byte r.state.placeCode.2))).answered
          .ok [])))
  ∧ (∀ (tool : ToolId) (len : Option (BitVec 24)) (r : ToolRecord) (s : State), s.PortFree →
    s.port.nodeState ≠ .unconfigured → tool ≠ 0 → s.find tool = some r →
    (r.state = .loose ∨ r.state = .seated ∨ ∃ p, r.state = .stocked p) →
    (∀ p k, r.state = .stocked p → s.pocket? p = some k → k.lock = .closed) →
    let ground : State := { s with records := s.records.map (fun q =>
      if q.image.toolId = tool then { q with image := { q.image with
        lifeUsed := 0, measured := none, damaged := false, regrinds := q.image.regrinds + 1
        nomLength := match len with
          | some n => min n.toNat 5000000
          | none => q.image.nomLength } } else q) }
    (15 ≤ r.image.regrinds → exec (.regrind tool len) s = .next (s.answered .regrindLimit []))
    ∧ (r.image.regrinds < 15 → exec (.regrind tool len) s = .next
        (((match r.state with
            | .stocked p => (ground.unmark p).markingPass
            | _ => ground).post .recordChanged tool
          (parts (byte r.state.code ++ byte r.state.placeCode.1 ++ byte r.state.placeCode.2))).answered
          .ok [])))
  ∧ (∀ (tool : ToolId) (len : Option (BitVec 24)) (s : State), s.PortFree →
    let both (r : HostResult) : Prop := exec (.markDamaged tool) s = .next (s.answered r [])
      ∧ exec (.regrind tool len) s = .next (s.answered r [])
    (s.port.nodeState = .unconfigured → both .notConfigured)
    ∧ (s.port.nodeState ≠ .unconfigured →
      (tool = 0 → both .outOfRange)
      ∧ (tool ≠ 0 → s.find tool = none → both .noSuchTool)
      ∧ (∀ r, tool ≠ 0 → s.find tool = some r →
        ((∃ c p, r.state = .outbound c p) ∨ (∃ c p d, r.state = .inDoubt c p d)
          ∨ (∃ p k, r.state = .stocked p ∧ s.pocket? p = some k ∧ k.lock ≠ .closed) → both .badState)
        ∧ (r.state = .missing ∨ r.state = .measuring ∨ (∃ n, r.state = .loaded n) →
          exec (.regrind tool len) s = .next (s.answered .badState [])))))

/-- Each READ command answers the fields its rule lists as they stand when it is taken, and changes nothing (R20,
R21, R51, R103, R123, R143, R157, R173, R174).
Every payload is spelled item by item, in the order of its rule, with the widths, codes and none forms of 11.3
(R188): the record image and READ_RECORD in each record state; READ_PEER; READ_POCKET in each lock phase, its place
in the drive queue and its pull-in slot; READ_PANEL with and without a window and an operation; READ_HEAD idle and in
each run; READ_SLOT in each slot state, a LOADED slot with its record and a CALLING one with its call; READ_DEMAND
in each mode; each row of READ_RESERVATIONS with the pockets marked for it.
The model's own readings in it: a deadline that has been reached has 0 ms left (log 9); the interval is 255 in TRIGGER
mode (log 17); which none form an item takes follows its name (log 18); READ_PANEL sends the class and the
for-station last, and has 18 bytes with no operation (log 25). -/
def Obligations.ReadsChangeNothing : Prop :=
  (∀ s : State, s.PortFree → s.port.nodeState ≠ .unconfigured →
    (∀ tool r, tool ≠ 0 → s.find tool = some r →
      exec (.readRecord tool) s = .next (s.answered .ok (readRecordPayload r)))
    ∧ (∀ b : Byte, exec (.listRecords b) s = .next (s.answered .ok
        (byte s.records.length ++ byte b.toNat
          ++ ((s.records.drop b.toNat).take 60).flatMap (fun r => wordBytes r.image.toolId))))
    ∧ (∀ (b : Byte) p, 1 ≤ b.toNat → b.toNat ≤ 62 → s.roster.peers[b.toNat - 1]? = some p →
        exec (.readPeer b) s = .next (s.answered .ok (peerPayload s.now p)))
    ∧ (∀ (b : Byte) k, s.pocket? b.toNat = some k →
        exec (.readPocket b) s = .next (s.answered .ok (pocketPayload s b.toNat k)))
    ∧ (∀ (b : Byte) i, panelOf b = some i → s.config.pocketCount ≠ 0 →
        exec (.readPanel b) s = .next (s.answered .ok (panelPayload s.now (s.panel i))))
    ∧ exec .readReservations s = .next (s.answered .ok
        (byte s.reservations.length ++ s.reservations.flatMap (rowBytes s)))
    ∧ (s.config.head = true → exec .readHead s = .next (s.answered .ok (headPayload s)))
    ∧ (∀ (b : Byte) m, s.slot? b.toNat = some m →
        exec (.readSlot b) s = .next (s.answered .ok (slotPayload s m)))
    ∧ (s.config.slotCount ≠ 0 →
        exec .readDemand s = .next (s.answered .ok (demandPayloadOf s))))
  ∧ ((∀ r : ToolRecord, (readRecordPayload r).length = (if r.image.measured.isSome then 56 else 40)
    ∧ ∀ c p d, r.state = .inDoubt c p d →
      (readRecordPayload r).drop (if r.image.measured.isSome then 47 else 31) =
        byte 8 ++ byte 0 ++ byte 0 ++ byte c.counterpart ++ byte c.handoff.toNat
          ++ byte (if p = .loose then 5 else 6) ++ byte (if d.isSome then 1 else 0)
          ++ byte r.image.conditionsByte ++ byte r.image.unfitCode)
  ∧ (∀ (now : Millis) (p : Peer), (peerPayload now p).length = 14
      ∧ (p.announced = none → ((peerPayload now p).drop 1).take 3 = [255, 255, 255])
      ∧ (p.absence = none → ((peerPayload now p).drop 8).take 4 = [255, 255, 255, 255]))
  ∧ (∀ (s : State) (p : Nat) (k : Pocket), (pocketPayload s p k).length = 21
      ∧ (k.lock = .closed → ((pocketPayload s p k).drop 9).take 4 = [255, 255, 255, 255]))
  ∧ (∀ (now : Millis) (p : Panel), p.operation = none → (panelPayload now p).length = 18)
  ∧ (∀ s : State, (headPayload s).length = 40)
  ∧ (∀ (s : State) (m : MagSlot), (slotPayload s m).length = 27)
  ∧ (∀ s : State, (demandPayloadOf s).length = 12 + 3 * s.demand.list.length))
  ∧ (∀ now d : Millis, (0 ≤ (now - d).toInt → msLeft now d = 0)
    ∧ ((now - d).toInt < 0 → msLeft now d = (d - now).toNat))
  ∧ (let flag (b : Bool) : Byte := if b then 1 else 0
    let left (now : Millis) (d : Option Millis) : List Byte := match d with
      | none => [255, 255, 255, 255]
      | some d => beBytes 4 (msLeft now d)
    let reading (r : Reading) : Byte := match r with
      | .unsettled => 0 | .present => 1 | .absent => 2
    let purpose (o : OpenPurpose) : Byte := match o with
      | .issue => 1 | .ret => 2 | .service => 3
    let panel (i : PanelId) : Byte := match i with
      | .a => 1 | .b => 2
    let heard (p : PeerState) : Byte := match p with
      | .unknown => 0 | .present => 1 | .absent => 2
    let phase (l : Lock) : Byte := match l with
      | .closed => 0 | .queued _ => 1 | .pulling _ _ => 2 | .holding _ _ => 3
    let fault (f : LockFault) : Byte := match f with
      | .none => 0 | .openLoad => 1 | .short => 2
    let privilege (v : Privilege) : Byte := match v with
      | .issue => 0 | .ret => 1 | .both => 2 | .service => 3
    let operation (k : OpKind) : Byte := match k with
      | .issue _ _ => 1 | .ret => 2 | .service => 3
    let report (r : Report) : Byte := match r with
      | .opened => 1 | .taken => 2 | .serviceRemoved => 3 | .filled => 4 | .forced => 5
      | .unexpectedInsert => 6 | .holdExpired => 7 | .driveFault => 8 | .supplyLow => 9 | .cancelled => 10
    let verdict (v : Verdict) : Byte := match v with
      | .within => 0 | .outOfBand => 1 | .runoutHigh => 2 | .clamped => 3
    let blocked (r : BlockReason) : Byte := match r with
      | .inPlace => 1 | .inUse => 2 | .inTransit => 3 | .inDoubt => 4 | .peerDoubtful => 5 | .notFit => 7
    let unfit (r : UnfitReason) : Byte := match r with
      | .damaged => 1 | .unmeasured => 2 | .outOfBand => 3 | .runoutHigh => 4 | .clamped => 5 | .worn => 6
      | .remeasureDue => 7
    let fitness (i : Image) : List Byte :=
      byte ((if i.worn then 1 else 0) + (if i.low then 2 else 0) + (if i.remeasureDue then 4 else 0)
          + (if i.fit then 8 else 0))
        ++ [match i.unfitReason with
          | none => 0
          | some r => unfit r]
    (∀ i : Image, imageBytes i =
      wordBytes i.toolId ++ beBytes 2 i.cls ++ beBytes 3 i.nomLength ++ beBytes 2 i.lengthTol
        ++ beBytes 3 i.nomRadius ++ beBytes 2 i.radiusTol ++ beBytes 2 i.runoutLimit ++ beBytes 3 i.lifeLimit
        ++ beBytes 3 i.lifeUsed ++ beBytes 3 i.warnMargin ++ beBytes 3 i.remeasureInterval
        ++ byte ((if i.measured.isSome then 128 else 0) + (if i.damaged then 64 else 0) + i.regrinds % 16)
        ++ (match i.measured with
          | none => []
          | some m => beBytes 3 m.length ++ beBytes 3 m.radius ++ beBytes 2 m.runout
              ++ [verdict m.verdict] ++ byte m.station ++ beBytes 2 (BitVec.ofInt 16 m.temperature).toNat ++ byte m.kept
              ++ beBytes 3 m.lifeAtMeasure))
    ∧ (∀ r : ToolRecord,
      let custody (c : CustodyPart) (p : Prior) : List Byte :=
        byte c.counterpart ++ [c.handoff, if p = .loose then 5 else 6]
      readRecordPayload r = imageBytes r.image
        ++ (match r.state with
          | .stocked p => [1, 1] ++ byte p ++ [0, 255, 255, 0]
          | .loaded n => [2, 2] ++ byte n ++ [0, 255, 255, 0]
          | .seated => [3, 3, 0, 0, 255, 255, 0]
          | .measuring => [4, 3, 0, 0, 255, 255, 0]
          | .loose => [5, 0, 0, 0, 255, 255, 0]
          | .missing => [6, 0, 0, 0, 255, 255, 0]
          | .outbound c p => [7, 0, 0] ++ custody c p ++ [0]
          | .inDoubt c p d => [8, 0, 0] ++ custody c p ++ [flag d.isSome])
        ++ fitness r.image)
    ∧ (∀ (now : Millis) (p : Peer), peerPayload now p =
      [heard p.state]
        ++ (match p.announced with
          | none => [255, 255, 255]
          | some a => byte a.pockets ++ byte a.slots ++ byte ((if a.head then 128 else 0) + a.beaconCode % 4))
        ++ beBytes 4 p.lastHeard.toNat ++ left now p.absence ++ byte p.strikes ++ [flag p.doubtful])
    ∧ (∀ (s : State) (p : Nat) (k : Pocket) (place slot : Nat) (wait : Option PullIn),
      (place = 0 ∧ p ∉ s.bank.queue
        ∨ 0 < place ∧ s.bank.queue[place - 1]? = some p ∧ p ∉ s.bank.queue.take (place - 1)) →
      (slot = 0 ∧ wait = none ∧ (∀ w, some w ∈ s.bank.pullIns → w.pocket ≠ p)
        ∨ 0 < slot ∧ s.bank.pullIns[slot - 1]? = some wait ∧ (∃ w, wait = some w ∧ w.pocket = p)
          ∧ (∀ w, some w ∈ s.bank.pullIns.take (slot - 1) → w.pocket ≠ p)) →
      pocketPayload s p k =
        [reading k.presence]
        ++ (match k.occupancy with
          | .empty => [0, 0, 0, 0, 0]
          | .held tool => [1] ++ wordBytes tool
          | .unknown => [2, 0, 0, 0, 0])
        ++ [phase k.lock] ++ byte place ++ byte slot
        ++ (match k.lock with
          | .pulling _ _ => left s.now (wait.map (·.deadline))
          | .holding _ d => left s.now (some d)
          | _ => left s.now none)
        ++ [fault k.fault] ++ byte (k.reservedFor.getD 0)
        ++ (match k.lock with
          | .closed => [255, 0]
          | .queued why | .pulling why _ | .holding why _ => [purpose why.purpose, panel why.panel])
        ++ [flag (s.bank.supply == .low)] ++ byte s.bank.queue.length ++ byte (s.bank.pockets.countP (·.lock.isPulling))
        ++ byte (s.bank.pockets.countP (·.lock.energised)))
    ∧ (∀ (now : Millis) (p : Panel), panelPayload now p =
      byte p.keys.length ++ byte p.mismatches ++ left now p.lockout
        ++ (match p.window with
          | none => [255, 0, 255, 255, 255, 255]
          | some w => [privilege w.privilege] ++ byte w.entry ++ left now (some w.expiry))
        ++ (match p.operation with
          | none => [255, 255, 0, 255, 255, 0]
          | some o =>
            [operation o.kind, if o.pockets.any (·.reachedOpen) then 2 else 1]
            ++ byte o.pockets.length
            ++ o.pockets.flatMap (fun q => byte q.pocket ++ (match q.status with
              | .waiting => [0, 0]
              | .opened => [1, 0]
              | .ended r => [2, report r]))
            ++ (match o.kind with
              | .issue cls station => beBytes 2 cls ++ byte station
              | _ => [255, 255, 0])))
    ∧ (∀ s : State, headPayload s =
      [reading s.head.seat]
        ++ (match s.headRecord with
          | none => [0, 0, 0, 0]
          | some r => wordBytes r.image.toolId)
        ++ [flag (s.callAt .head).isSome]
        ++ (match s.head.run with
          | none => [0, 255, 255, 255, 0, 255, 255, 255, 255, 0, 0, 0, 0]
          | some run =>
            let common := byte run.n ++ beBytes 2 (BitVec.ofInt 16 run.t).toNat
              ++ byte s.head.samples.length ++ left s.now (some run.deadline)
            match run.kind with
            | .reference => [1] ++ common ++ [0, 0, 0, 0]
            | .measurement tool => [2] ++ common ++ wordBytes tool)
        ++ [flag s.head.reference.valid] ++ beBytes 4 s.head.reference.z.toNat
        ++ beBytes 4 s.head.reference.x.toNat ++ beBytes 2 (BitVec.ofInt 16 s.head.reference.t).toNat
        ++ beBytes 4 s.head.z.toNat ++ beBytes 4 s.head.x.toNat ++ beBytes 2 s.head.scaleErrors)
    ∧ (∀ s : State,
      let noTool : List Byte := [0, 0, 0, 0] ++ List.replicate 10 255 ++ [0]
      let noCall : List Byte := [0, 0, 0, 0, 0, 255, 255, 255, 255]
      slotPayload s .empty = [0] ++ noTool ++ noCall ++ [255, 255]
      ∧ (∀ cause, slotPayload s (.refused cause) = [3] ++ noTool ++ noCall ++ (match cause with
          | .unfit r => [1, unfit r]
          | .noAnswer => [2, 0]
          | .blocked r => [3, blocked r]
          | .abandoned => [4, 0]
          | .dropped => [5, 0]))
      ∧ (∀ tool r, s.find tool = some r → slotPayload s (.loaded tool) =
          [2] ++ wordBytes tool ++ beBytes 3 r.image.lifeLimit ++ beBytes 3 r.image.lifeUsed
            ++ beBytes 3 (r.image.lifeLimit - r.image.lifeUsed) ++ fitness r.image ++ noCall ++ [255, 255])
      ∧ (∀ (tool : ToolId) (i : Nat) (c : CallSlot), s.custody.calls[i]? = some (some c) → c.tool = tool →
          (∀ x, some x ∈ s.custody.calls.take i → x.tool ≠ tool) →
          slotPayload s (.calling tool) =
            [1] ++ noTool ++ wordBytes tool ++ byte c.tries ++ left s.now (some c.deadline) ++ [255, 255]))
    ∧ (∀ s : State, demandPayloadOf s =
      byte s.demand.list.length ++ s.demand.list.flatMap (fun e => beBytes 2 e.cls ++ byte e.count)
        ++ [flag s.demand.running]
        ++ (match s.demand.mode with
          | .interval n => [1] ++ byte n
          | .trigger => [2, 255])
        ++ byte s.demand.target ++ byte s.demand.cycles ++ byte s.demand.hold ++ left s.now s.demand.deadline
        ++ [flag (s.line.txQueue.any (·.owner == .demandRun))])
    ∧ (∀ (s : State) (row : Reservation) (pockets : List Nat), row.cls ≠ 0 → pockets.Pairwise (· < ·) →
      (∀ p, p ∈ pockets ↔ ∃ k tool r, s.pocket? p = some k ∧ k.reservedFor = some row.requester
        ∧ k.occupancy = .held tool ∧ s.find tool = some r ∧ r.image.cls = row.cls) →
      rowBytes s row = byte row.requester ++ beBytes 2 row.cls ++ byte row.wanted ++ byte pockets.length
        ++ left s.now (some row.expiry) ++ pockets.flatMap byte))

/-! ### Pocket bank and lock drive -/

/-- An open request is refused with SUPPLY_LOW, POCKET_FAULT or BAD_STATE, in this order; one that is taken puts
the pocket behind the drive queue with its purpose and panel, drops the mark unless it is an ISSUE for the marked
station, and applies the start rule (R89, R102).
The start rule takes pockets from the head of the drive queue only, in order, and stops exactly when the queue is
empty, no pull-in slot is free or 8 locks are energised; it changes nothing but the bank, and of the pocket table only
lock phases (R90).
A start takes the pocket at the head out of the queue into the lowest-numbered free pull-in slot, its lock PULLING
with its purpose and panel and no current seen, the pull-in deadline now plus the configured pull-in time, and the
rule is applied again (R90, R91). -/
def Obligations.OpenRequestsAndStartRule : Prop :=
  (∀ (s : State) (p : Nat) (k : Pocket) (why : Opening) (station : Option Nat), s.pocket? p = some k →
    (s.bank.supply = .low → s.openRequest p why station = .error .supplyLow)
    ∧ (s.bank.supply = .normal → k.fault ≠ .none → s.openRequest p why station = .error .pocketFault)
    ∧ (s.bank.supply = .normal → k.fault = .none → k.lock ≠ .closed →
        s.openRequest p why station = .error .badState)
    ∧ (s.bank.supply = .normal → k.fault = .none → k.lock = .closed →
        s.openRequest p why station = .ok (State.startRule (State.setPocket
          { s with bank := { s.bank with queue := s.bank.queue ++ [p] } } p
          (fun _ => { k with
            lock := .queued why
            reservedFor := if why.purpose = .issue ∧ k.reservedFor = station then k.reservedFor
              else none })))))
  ∧ (∀ s : State, ∃ started,
    s.bank.queue = started ++ s.startRule.bank.queue
    ∧ (s.startRule.bank.queue = [] ∨ (∀ q ∈ s.startRule.bank.pullIns, q ≠ none)
        ∨ 8 ≤ s.startRule.bank.energised)
    ∧ s.startRule = { s with bank := { s.bank with
        pockets := s.startRule.bank.pockets, queue := s.startRule.bank.queue
        pullIns := s.startRule.bank.pullIns } }
    ∧ s.startRule.bank.pockets.map (fun k => { k with lock := .closed })
        = s.bank.pockets.map (fun k => { k with lock := .closed })
    ∧ (∀ p k, s.startRule.pocket? p = some k → k.lock ≠ .closed →
        ∃ k', s.pocket? p = some k' ∧ k'.lock.opening = k.lock.opening)
    ∧ (s.bank.energised ≤ 8 → s.startRule.bank.energised ≤ 8))
  ∧ (∀ s : State,
    (s.bank.queue = [] ∨ (∀ q ∈ s.bank.pullIns, q ≠ none) ∨ 8 ≤ s.bank.energised → s.startRule = s)
    ∧ (∀ (p i : Nat) (rest : List Nat) (k : Pocket) (why : Opening), s.bank.queue = p :: rest →
      s.bank.pullIns[i]? = some none → (∀ j, j < i → s.bank.pullIns[j]? ≠ some none) →
      s.bank.energised < 8 → s.pocket? p = some k → k.lock = .queued why →
      s.startRule = State.startRule (State.setPocket
        { s with bank := { s.bank with
          queue := rest
          pullIns := s.bank.pullIns.set i
            (some { pocket := p, deadline := s.now + BitVec.ofNat 32 s.config.pullInMs }) } } p
        (fun _ => { k with lock := .pulling why false }))))

/-- A lock's course (R91, R92, R95): the current seen during the pull-in is noted; a clean pull-in holds the
lock until now plus the hold limit, frees its slot, applies the start rule, makes the pocket OPEN in its
operation and posts POCKET_OPENED; a pull-in without current latches OPEN_LOAD, a current above the short
threshold SHORT; an expired hold closes the lock and ends the pocket HOLD_EXPIRED in its operation (ISSUE_DONE
NOT_TAKEN, RETURN_DONE NOT_PLACED).
A latched fault closes the lock, takes the pocket out of service and its mark away, frees its pull-in slot,
applies the start rule, and posts POCKET_FAULT with the fault and the lost purpose before the end of its
operation DRIVE_FAULT; occupancy and records are kept (R92, R97, R113). -/
def Obligations.LockCourse : Prop :=
  ∀ (s : State) (p : Nat) (k : Pocket), s.pocket? p = some k →
    let driven (t : State) : Prop := t.bank.queue = (s.closeLock p).startRule.bank.queue
      ∧ t.bank.pullIns = (s.closeLock p).startRule.bank.pullIns
    let kept (t : State) : Prop := t.records = s.records ∧ t.line = s.line ∧ t.custody = s.custody
      ∧ t.reservations = s.reservations ∧ t.bank.supply = s.bank.supply
    let faulted (t : State) (why : Opening) (f : LockFault) : Prop :=
      t.pocket? p = some { k with lock := .closed, fault := f, reservedFor := none }
        ∧ (∀ w, some w ∈ t.bank.pullIns → w.pocket ≠ p) ∧ driven t ∧ kept t
        ∧ ∀ o, s.HoldLaw → (s.panel why.panel).operation = some o →
          PocketEnds s (s.post .pocketFault (num p) (parts (byte f.code ++ byte why.purpose.code))) t
            why.panel o p .driveFault (some 4) (some 4)
    (∀ why seen, k.lock = .pulling why seen →
      exec (.currentSeen p) s = .next (s.setPocket p (fun k => { k with lock := .pulling why true }))
      ∧ (∃ t, exec (.shortCurrent p) s = .next t ∧ faulted t why .short)
      ∧ ∀ n w, s.bank.pullInOf p = some (n, w) → reached s.now w.deadline = true →
        (seen = true → ∃ t, exec (.pullInExpiry p) s = .next t
          ∧ t.pocket? p = some { k with
              lock := .holding why (s.now + BitVec.ofNat 32 (1000 * s.config.holdS)) }
          ∧ t.bank = (State.startRule (State.setPocket { s with bank := { s.bank with
              pullIns := s.bank.pullIns.map (fun q => match q with
                | some v => if v.pocket = p then none else some v
                | none => none) } } p (fun k => { k with
              lock := .holding why (s.now + BitVec.ofNat 32 (1000 * s.config.holdS)) }))).bank
          ∧ kept t
          ∧ ∀ o, s.HoldLaw → (s.panel why.panel).operation = some o →
            t.panel why.panel = { s.panel why.panel with operation := some { o with
              pockets := o.pockets.map (fun q => if q.pocket = p then
                { q with status := .opened, reachedOpen := true } else q) } }
            ∧ t.notices = (s.post .pocketOpened (num p)
                (parts (byte (panelCode why.panel) ++ byte why.purpose.code))).notices)
        ∧ (seen = false → ∃ t, exec (.pullInExpiry p) s = .next t ∧ faulted t why .openLoad))
    ∧ (∀ why d, k.lock = .holding why d →
      (∃ t, exec (.shortCurrent p) s = .next t ∧ faulted t why .short)
      ∧ (reached s.now d = true → ∃ t m, exec (.holdExpiry p) s = .next t
        ∧ t.pocket? p = some { k with lock := .closed, reservedFor := m } ∧ driven t ∧ kept t
        ∧ ∀ o, s.HoldLaw → (s.panel why.panel).operation = some o →
          PocketEnds s s t why.panel o p .holdExpired (some 2) (some 8)))

/-- CLEAR_POCKET_FAULT puts a faulted CLOSED pocket back in service, posts POCKET_FAULT_CLEARED with the cleared fault
and offers the pocket to the reservations; a pocket with no fault is not changed; NOT_CONFIGURED, OUT_OF_RANGE and
BAD_STATE are its refusals, in this order (R93). -/
def Obligations.ClearPocketFault : Prop :=
  ∀ (b : Byte) (s : State), s.PortFree →
    (s.port.nodeState = .unconfigured →
      exec (.clearPocketFault b) s = .next (s.answered .notConfigured []))
    ∧ (s.port.nodeState ≠ .unconfigured →
      (b = 0 ∨ s.bank.pockets.length < b.toNat →
        exec (.clearPocketFault b) s = .next (s.answered .outOfRange []))
      ∧ ∀ k, s.pocket? b.toNat = some k →
        (k.lock ≠ .closed → exec (.clearPocketFault b) s = .next (s.answered .badState []))
        ∧ (k.lock = .closed → k.fault = .none →
          exec (.clearPocketFault b) s = .next (s.answered .ok []))
        ∧ (k.lock = .closed → k.fault ≠ .none →
          exec (.clearPocketFault b) s = .next
            ((State.markingPass (State.post
              (s.setPocket b.toNat (fun k => { k with fault := .none })) .pocketFaultCleared
              (num b.toNat) (num k.fault.code))).answered .ok [])))

/-- A supply-low event closes every lock, empties the drive queue and the pull-in slots, posts SUPPLY_LOW with the
number of locks that were moving, and ends every running operation SUPPLY_LOW, panel A before panel B; SUPPLY_NORMAL
opens no lock (R94, R113). -/
def Obligations.SupplyEvents : Prop :=
  (∀ s : State, s.port.nodeState ≠ .unconfigured → s.config.pocketCount ≠ 0 →
    s.bank.supply = .normal →
    ∃ t, exec .supplyLow s = .next t
      ∧ t.bank.supply = .low ∧ t.bank.queue = [] ∧ t.bank.pullIns = List.replicate 4 none
      ∧ t.plainPockets = s.plainPockets.map (fun k => { k with lock := .closed })
      ∧ t.panels.a = { s.panels.a with operation := none }
      ∧ t.panels.b = { s.panels.b with operation := none }
      ∧ t.notices =
          ((((s.post .supplyLow 0 (num (s.bank.pockets.countP (fun k => !k.lock.isClosed)))).endOperation
            .a .supplyLow).endOperation .b .supplyLow)).notices
      ∧ t.records = s.records ∧ t.line = s.line ∧ t.custody = s.custody ∧ t.head = s.head
      ∧ t.reservations = s.reservations ∧ t.port = s.port)
  ∧ (∀ s : State, s.port.nodeState ≠ .unconfigured → s.config.pocketCount ≠ 0 →
    s.bank.supply = .low →
    exec .supplyNormal s = .next
      (State.post { s with bank := { s.bank with supply := .normal } } .supplyNormal 0 0))

/-- A first settled reading is neither a removal nor an insertion: PRESENT keeps the occupancy, ABSENT makes it
EMPTY without a notice, but for a HELD pocket, where it is a forced removal (R87).
A removal of a HELD tool from a CLOSED pocket is forced: the record becomes MISSING, the pocket EMPTY and
unmarked, RECORD_CHANGED and then FORCED_REMOVAL are posted; from a QUEUED pocket the request is withdrawn with
it, and the pocket ends FORCED in its operation behind these notices (R98, R113). -/
def Obligations.ReadingsAndForcedRemovals : Prop :=
  (∀ (s : State) (p : Nat) (k : Pocket) (high : Bool), s.pocket? p = some k →
    k.presence = .unsettled →
    (high = s.config.sensorHigh →
      exec (.pocketFirstReading p high) s = .next (s.setPocket p (fun k =>
        { k with presence := .present })))
    ∧ (high ≠ s.config.sensorHigh → (∀ tool, k.occupancy ≠ .held tool) →
      exec (.pocketFirstReading p high) s = .next (s.setPocket p (fun k =>
        { k with presence := .absent, occupancy := .empty })))
    ∧ (∀ tool r, high ≠ s.config.sensorHigh → k.occupancy = .held tool → k.lock = .closed →
      s.find tool = some r →
      ∃ t, exec (.pocketFirstReading p high) s = .next t
        ∧ t.pocket? p = some { k with presence := .absent, occupancy := .empty, reservedFor := none }
        ∧ t.records = s.records.map (fun q =>
            if q.image.toolId = tool then { q with state := .missing } else q)
        ∧ t.notices = ((s.post .recordChanged tool (parts (byte 6 ++ byte 0 ++ byte 0))).post
            .forcedRemoval (num p) tool).notices))
  ∧ (∀ (s : State) (p : Nat) (k : Pocket) (tool : ToolId) (r : ToolRecord), s.pocket? p = some k →
    k.presence = .present → k.occupancy = .held tool → s.find tool = some r →
    (k.lock = .closed ∨ ∃ why, k.lock = .queued why) →
    ∃ t, exec (.pocketRemoval p) s = .next t
      ∧ t.pocket? p = some { k with
          presence := .absent, occupancy := .empty, lock := .closed, reservedFor := none }
      ∧ t.records = s.records.map (fun q =>
          if q.image.toolId = tool then { q with state := .missing } else q)
      ∧ (k.lock = .closed → t.bank.queue = s.bank.queue
        ∧ t.notices = ((s.post .recordChanged tool (parts (byte 6 ++ byte 0 ++ byte 0))).post
            .forcedRemoval (num p) tool).notices
        ∧ t.panels = s.panels)
      ∧ (∀ why, k.lock = .queued why → p ∉ t.bank.queue
        ∧ ((s.panel why.panel).operation = none → t.notices =
            ((s.post .recordChanged tool (parts (byte 6 ++ byte 0 ++ byte 0))).post
              .forcedRemoval (num p) tool).notices)
        ∧ ∀ o, s.HoldLaw → (s.panel why.panel).operation = some o →
          PocketEnds s ((s.post .recordChanged tool (parts (byte 6 ++ byte 0 ++ byte 0))).post
            .forcedRemoval (num p) tool) t why.panel o p .forced (some 3) none)
      ∧ t.line = s.line ∧ t.custody = s.custody ∧ t.magazine = s.magazine ∧ t.head = s.head)

/-- A removal of a HELD tool from a PULLING or HOLDING pocket: at an ISSUE it completes the issue, the record
LOOSE, the pocket EMPTY, CLOSED and unmarked, ISSUE_DONE TAKEN behind RECORD_CHANGED; where the pocket carried a
mark of the for-station, the row's wanted count drops by 1, RESERVATION_SERVED follows, and at 0 the row goes;
at a SERVICE pocket the record becomes LOOSE, SERVICE_REMOVED is posted, and the lock and the operation stay
(R99, R113, R116, R171).
A removal of an UNKNOWN tool empties the pocket in any lock phase, closes a call for the pocket WITHDRAWN and
posts POCKET_EMPTIED; no record is touched and the lock keeps its phase (R100, R68); that CALL_DONE stands
before POCKET_EMPTIED is the model's choice (log 10). -/
def Obligations.RemovalsFromOpenAndUnknownPockets : Prop :=
  (∀ (s : State) (p : Nat) (k : Pocket) (tool : ToolId) (r : ToolRecord) (why : Opening) (o : Operation),
    s.HoldLaw → s.pocket? p = some k → k.presence = .present → k.occupancy = .held tool →
    s.find tool = some r → k.lock.energised = true → k.lock.opening = some why →
    (s.panel why.panel).operation = some o →
    let loose := s.records.map (fun q =>
      if q.image.toolId = tool then { q with state := .loose } else q)
    let changed := s.post .recordChanged tool (parts (byte 5 ++ byte 0 ++ byte 0))
    (∀ cls station, why.purpose = .issue → o.kind = .issue cls station →
      let issued := changed.post .issueDone (num (panelCode why.panel)) (parts (byte 1 ++ byte p))
      ∃ t, exec (.pocketRemoval p) s = .next t
        ∧ t.pocket? p = some { k with
            presence := .absent, occupancy := .empty, lock := .closed, reservedFor := none }
        ∧ t.records = loose
        ∧ t.panel why.panel = { s.panel why.panel with operation := none }
        ∧ t.bank.queue = (s.closeLock p).startRule.bank.queue
        ∧ t.bank.pullIns = (s.closeLock p).startRule.bank.pullIns
        ∧ (k.reservedFor ≠ some station → t.reservations = s.reservations ∧ t.notices = issued.notices)
        ∧ (∀ row, k.reservedFor = some station →
            s.reservations.find? (fun x => x.requester == station && x.cls == r.image.cls) = some row →
            t.reservations = (if row.wanted ≤ 1 then
                s.reservations.filter (fun x => !(x.requester == station && x.cls == r.image.cls))
              else s.reservations.map (fun x => if x.requester = station ∧ x.cls = r.image.cls then
                { x with wanted := x.wanted - 1 } else x))
            ∧ t.notices = (issued.post .reservationServed (num station)
                (parts (beBytes 2 r.image.cls ++ byte (row.wanted - 1)))).notices)
        ∧ t.line = s.line ∧ t.custody = s.custody ∧ t.magazine = s.magazine)
    ∧ (why.purpose = .service → ∃ t, exec (.pocketRemoval p) s = .next t
        ∧ t.pocket? p = some { k with presence := .absent, occupancy := .empty, reservedFor := none }
        ∧ t.records = loose ∧ t.panels = s.panels
        ∧ t.bank.queue = s.bank.queue ∧ t.bank.pullIns = s.bank.pullIns
        ∧ t.reservations = s.reservations ∧ t.line = s.line ∧ t.custody = s.custody
        ∧ t.notices = (changed.post .serviceRemoved (num p) tool).notices))
  ∧ (∀ (s : State) (p : Nat) (k : Pocket), s.pocket? p = some k → k.presence = .present →
    k.occupancy = .unknown →
    ∃ t, exec (.pocketRemoval p) s = .next t
      ∧ t.pocket? p = some { k with presence := .absent, occupancy := .empty }
      ∧ t.records = s.records ∧ t.bank.queue = s.bank.queue ∧ t.panels = s.panels
      ∧ t.magazine = s.magazine
      ∧ (s.callAt (.pocket p) = none → t.custody = s.custody
        ∧ t.notices = (s.post .pocketEmptied (num p) 0).notices)
      ∧ (∀ i c, s.callAt (.pocket p) = some i → s.call? i = some c →
          t.custody = { s.custody with calls := s.custody.calls.set i none }
          ∧ t.notices = ((s.post .callDone c.tool (parts (byte 4 ++ byte 0 ++ byte 0))).post
              .pocketEmptied (num p) 0).notices))

/-- An insertion makes the occupancy UNKNOWN: at a HOLDING RETURN or SERVICE pocket it closes the lock and ends
the pocket FILLED in its operation (RETURN_DONE PLACED); at a QUEUED or PULLING pocket it closes the lock, posts
UNEXPECTED_INSERT with the phase at insertion and then ends the pocket UNEXPECTED_INSERT (RETURN_DONE PLACED);
where it closes a lock the start rule is applied; at a CLOSED pocket it posts UNEXPECTED_INSERT only (R101,
R113). -/
def Obligations.Insertions : Prop :=
  ∀ (s : State) (p : Nat) (k : Pocket), s.pocket? p = some k → k.presence = .absent →
    (k.lock = .closed → exec (.pocketInsertion p) s = .next (State.post
      (s.setPocket p (fun k => { k with presence := .present, occupancy := .unknown }))
      .unexpectedInsert (num p) (num 0)))
    ∧ (∀ why, k.lock.opening = some why → (why.purpose = .issue → k.lock.code ≠ 3) →
      ∃ t m, exec (.pocketInsertion p) s = .next t
        ∧ t.pocket? p = some { k with
            presence := .present, occupancy := .unknown, lock := .closed, reservedFor := m }
        ∧ (k.reservedFor = none → m = none)
        ∧ t.bank.queue = (s.closeLock p).startRule.bank.queue
        ∧ t.bank.pullIns = (s.closeLock p).startRule.bank.pullIns
        ∧ t.records = s.records ∧ t.line = s.line ∧ t.custody = s.custody
        ∧ t.reservations = s.reservations
        ∧ ∀ o, s.HoldLaw → (s.panel why.panel).operation = some o →
          (k.lock.code = 3 → PocketEnds s s t why.panel o p .filled none (some 7))
          ∧ (k.lock.code ≠ 3 → PocketEnds s (s.post .unexpectedInsert (num p) (num k.lock.code)) t
              why.panel o p .unexpectedInsert none (some 7)))

/-! ### Panels and crib operations -/

/-- A digit joins a buffer of fewer than 8 and moves the inter-key deadline, and a ninth is not stored; the inter-key
expiry empties the buffer; CLEAR empties it too and closes an open window with the cause CLEAR; the lockout expiry
clears the mismatch count; the window's expiry closes it with the cause EXPIRED; keys are ignored while the panel is
locked out (R106, R107, R109 to R111).
ENTER: a buffer that matches enabled entries opens a window with the lowest-numbered one's privilege for 30,000 ms
and clears the mismatch count; a buffer that matches none raises the count, and the third mismatch locks the panel
out for 60,000 ms and closes its window, with the notices in order; an empty buffer does nothing (R108, R109). -/
def Obligations.KeysAndWindows : Prop :=
  (∀ (i : PanelId) (s : State),
    (s.port.nodeState ≠ .unconfigured → s.config.pocketCount ≠ 0 → (s.panel i).lockout = none →
      (∀ d, d ≤ 9 → (s.panel i).keys.length < 8 →
        exec (.digitKey i d) s = .next (s.setPanel i (fun p =>
          { p with keys := p.keys ++ [d], interKey := some (s.now + 5000) })))
      ∧ (∀ d, d ≤ 9 → 8 ≤ (s.panel i).keys.length →
        exec (.digitKey i d) s = .next (s.setPanel i (fun p =>
          { p with interKey := some (s.now + 5000) })))
      ∧ ((s.panel i).window = none → exec (.clear i) s = .next (s.setPanel i (fun p =>
          { p with keys := [], interKey := none })))
      ∧ ((s.panel i).window ≠ none → exec (.clear i) s = .next ((s.setPanel i (fun p =>
          { p with keys := [], interKey := none, window := none })).post .accessClosed
            (num (panelCode i)) (num 3))))
    ∧ (∀ l, (s.panel i).lockout = some l →
        (∀ d, exec (.digitKey i d) s = .next s) ∧ exec (.enter i) s = .next s
        ∧ exec (.clear i) s = .next s
        ∧ (reached s.now l = true → exec (.lockoutExpiry i) s = .next (s.setPanel i (fun p =>
            { p with lockout := none, mismatches := 0 }))))
    ∧ (∀ d, (s.panel i).interKey = some d → reached s.now d = true →
        exec (.interKeyExpiry i) s = .next (s.setPanel i (fun p =>
          { p with keys := [], interKey := none })))
    ∧ (∀ w, (s.panel i).window = some w → reached s.now w.expiry = true →
        exec (.windowExpiry i) s = .next ((s.setPanel i (fun p => { p with window := none })).post
          .accessClosed (num (panelCode i)) (num 1))))
  ∧ (∀ (i : PanelId) (s : State), s.port.nodeState ≠ .unconfigured → s.config.pocketCount ≠ 0 →
    (s.panel i).lockout = none →
    let keys := (s.panel i).keys
    let fits (e : CodeEntry) := e.enabled = true ∧ e.digits = keys
    (keys = [] → exec (.enter i) s = .next (s.setPanel i (fun p => { p with interKey := none })))
    ∧ (∀ n e, keys ≠ [] → s.config.codeTable[n]? = some e → fits e →
        (∀ m e', m < n → s.config.codeTable[m]? = some e' → ¬ fits e') →
        exec (.enter i) s = .next ((s.setPanel i (fun p => { p with
          keys := [], interKey := none, mismatches := 0
          window := some
            { privilege := e.privilege, entry := n + 1, expiry := s.now + 30000 } })).post
          .accessOpened (num (panelCode i)) (parts (byte e.privilege.code ++ byte (n + 1)))))
    ∧ (keys ≠ [] → (∀ e ∈ s.config.codeTable, ¬ fits e) →
        let c := (s.panel i).mismatches + 1
        (c < 3 → exec (.enter i) s = .next ((s.setPanel i (fun p => { p with
          keys := [], interKey := none, mismatches := c })).post
          .accessDenied (num (panelCode i)) (num c)))
        ∧ (3 ≤ c → ∃ t, exec (.enter i) s = .next t
          ∧ t.panel i = { s.panel i with
              keys := [], interKey := none, mismatches := c, lockout := some (s.now + 60000)
              window := none }
          ∧ (let two := (s.post .accessDenied (num (panelCode i)) (num c)).post .keypadLocked
                (num (panelCode i)) (num 60000)
             t.notices = (if (s.panel i).window = none then two
               else two.post .accessClosed (num (panelCode i)) (num 4)).notices)
          ∧ t.bank = s.bank ∧ t.records = s.records)))

/-- The pocket chosen for an ISSUE is a candidate; among the candidates a mark for the for-station comes first, then
the greatest remaining life, then the lowest number; none is chosen exactly when there is no candidate
(R114, R115). -/
def Obligations.IssueChoosesTheBestPocket : Prop :=
  ∀ (s : State) (cls station : Nat), (∀ r ∈ s.records, r.image.lifeLimit ≤ 4194303) →
    let suits (k : Pocket) : Prop := k.fault = .none ∧ k.lock = .closed
      ∧ (k.reservedFor = none ∨ k.reservedFor = some station)
      ∧ ∃ tool r p, k.occupancy = .held tool ∧ s.find tool = some r ∧ r.state = .stocked p
          ∧ r.image.fit = true ∧ r.image.cls = cls
    (∀ k p, s.choosePocket cls station = some (k, p) →
      s.pocket? p = some k ∧ suits k ∧
      ∀ q k', s.pocket? q = some k' → suits k' →
        (k'.reservedFor = some station → k.reservedFor = some station)
        ∧ ((k.reservedFor = some station ↔ k'.reservedFor = some station) →
          lifeIn s.records k' ≤ lifeIn s.records k
          ∧ (lifeIn s.records k' = lifeIn s.records k → p ≤ q)))
    ∧ (s.choosePocket cls station = none ↔ ∀ q k', s.pocket? q = some k' → ¬ suits k')

/-- A taken ISSUE queues or starts the chosen pocket for its panel, holds the operation, closes the window as USED and
answers the pocket and whether it was marked for the for-station; a pocket marked for that station keeps its mark;
records and every other pocket's contents stay (R112, R116). With no candidate it is refused with NONE_AVAILABLE
(R114).
The refusals common to ISSUE, RETURN and SERVICE_OPEN, in their order, each where none before it applies:
NOT_CONFIGURED; OUT_OF_RANGE for the panel, a node with no pockets or the command's own parameters; NOT_ONLINE;
NO_ACCESS without a window whose privilege allows the command; BUSY; SUPPLY_LOW (R112, R114, R117, R119). -/
def Obligations.IssueOpensTheChosenPocket : Prop :=
  (∀ (panel : Byte) (cls : BitVec 16) (station : Byte) (i : PanelId) (w : Window) (k : Pocket) (p : Nat)
    (s : State), s.PortFree → s.port.nodeState = .online ∨ s.port.nodeState = .listenOnly →
    panelOf panel = some i → s.config.pocketCount ≠ 0 → cls ≠ 0 → station.toNat ≤ 62 →
    (s.panel i).window = some w → w.privilege = .issue ∨ w.privilege = .both →
    (s.panel i).operation = none → s.bank.supply = .normal →
    s.choosePocket cls.toNat station.toNat = some (k, p) →
    ∃ t k', exec (.issue panel cls station) s = .next t
      ∧ t.port.response = some {
          result := .ok
          payload := byte p ++ byte (if k.reservedFor = some station.toNat then 1 else 0) }
      ∧ t.panel i = { s.panel i with
          window := none
          operation := some {
            kind := .issue cls.toNat station.toNat,
            pockets := [{ pocket := p, status := .waiting, reachedOpen := false }] } }
      ∧ t.pocket? p = some k' ∧ k'.lock.opening = some { purpose := .issue, panel := i }
      ∧ k'.occupancy = k.occupancy
      ∧ (station ≠ 0 → k'.reservedFor = k.reservedFor)
      ∧ (∀ q o, q ≠ p → s.pocket? q = some o → ∃ l, t.pocket? q = some { o with lock := l }
          ∧ l.opening = o.lock.opening)
      ∧ t.notices = (s.post .accessClosed (num (panelCode i)) (num 2)).notices
      ∧ t.records = s.records ∧ t.line = s.line ∧ t.roster = s.roster ∧ t.custody = s.custody
      ∧ t.head = s.head ∧ t.magazine = s.magazine ∧ t.demand = s.demand
      ∧ t.reservations = s.reservations ∧ t.config = s.config)
  ∧ (∀ (panel : Byte) (cls : BitVec 16) (station : Byte) (i : PanelId) (w : Window) (s : State), s.PortFree →
    s.port.nodeState = .online ∨ s.port.nodeState = .listenOnly →
    panelOf panel = some i → s.config.pocketCount ≠ 0 → cls ≠ 0 → station.toNat ≤ 62 →
    (s.panel i).window = some w → w.privilege = .issue ∨ w.privilege = .both →
    (s.panel i).operation = none → s.bank.supply = .normal →
    s.choosePocket cls.toNat station.toNat = none →
    exec (.issue panel cls station) s = .next (s.answered .noneAvailable []))
  ∧ (∀ s : State, s.PortFree →
    let refusals (c : Instr) (panel : Byte) (inRange : Prop) (allows : Privilege → Prop) : Prop :=
      let answer (r : HostResult) : Prop := exec c s = .next (s.answered r [])
      (s.port.nodeState = .unconfigured → answer .notConfigured)
      ∧ (s.port.nodeState ≠ .unconfigured →
        (panelOf panel = none ∨ s.config.pocketCount = 0 ∨ ¬ inRange → answer .outOfRange)
        ∧ (∀ i, panelOf panel = some i → s.config.pocketCount ≠ 0 → inRange →
          (s.port.nodeState ≠ .online → s.port.nodeState ≠ .listenOnly → answer .notOnline)
          ∧ (s.port.nodeState = .online ∨ s.port.nodeState = .listenOnly →
            ((∀ w, (s.panel i).window = some w → ¬ allows w.privilege) → answer .noAccess)
            ∧ (∀ w, (s.panel i).window = some w → allows w.privilege →
              ((s.panel i).operation ≠ none → answer .busy)
              ∧ ((s.panel i).operation = none → s.bank.supply = .low → answer .supplyLow)))))
    (∀ (panel : Byte) (cls : BitVec 16) (station : Byte),
      refusals (.issue panel cls station) panel (cls ≠ 0 ∧ station.toNat ≤ 62)
        (fun v => v = .issue ∨ v = .both))
    ∧ (∀ (panel : Byte) (given : Option Byte),
      refusals (.returnTool panel given) panel (∀ b, given = some b → s.pocket? b.toNat ≠ none)
        (fun v => v = .ret ∨ v = .both))
    ∧ (∀ (panel : Byte) (list : List Byte), list.length ≤ 254 →
      refusals (.serviceOpen panel list) panel
        (list ≠ [] ∧ list.length ≤ 8 ∧ ∀ b ∈ list, s.pocket? b.toNat ≠ none) (fun v => v = .service)))

/-- RETURN opens the given pocket, or the lowest-numbered one that is EMPTY, in service, CLOSED and unmarked,
and answers its number; a given pocket is refused with PLACE_CONFLICT, POCKET_FAULT or BAD_STATE, in this order,
and NONE_AVAILABLE answers where no pocket suits (R117, R118).
SERVICE_OPEN opens, in list order, each listed pocket that is in service and CLOSED when its turn comes, so none
twice, and skips the others; the operation holds the opened ones, the window closes as USED with ACCESS_CLOSED,
and the answer gives each entry in order with OK, or with POCKET_FAULT or BAD_STATE where it was skipped; where
every entry is skipped it is refused with NONE_AVAILABLE (R119, R112). -/
def Obligations.ReturnAndServiceOpen : Prop :=
  (∀ (panel : Byte) (i : PanelId) (w : Window) (s : State), s.PortFree →
    s.port.nodeState = .online ∨ s.port.nodeState = .listenOnly →
    panelOf panel = some i → s.config.pocketCount ≠ 0 →
    (s.panel i).window = some w → w.privilege = .ret ∨ w.privilege = .both →
    (s.panel i).operation = none → s.bank.supply = .normal →
    let suits (k : Pocket) : Prop := k.occupancy = .empty ∧ k.fault = .none ∧ k.lock = .closed
    let opened (c : Instr) (p : Nat) : Prop := ∃ t k', exec c s = .next t
      ∧ t.port.response = some { result := .ok, payload := byte p }
      ∧ t.panel i = { s.panel i with
          window := none
          operation := some {
            kind := .ret,
            pockets := [{ pocket := p, status := .waiting, reachedOpen := false }] } }
      ∧ t.pocket? p = some k' ∧ k'.lock.opening = some { purpose := .ret, panel := i }
      ∧ t.notices = (s.post .accessClosed (num (panelCode i)) (num 2)).notices
      ∧ t.records = s.records ∧ t.line = s.line ∧ t.custody = s.custody
      ∧ t.reservations = s.reservations
    (∀ (b : Byte) k, s.pocket? b.toNat = some k →
      (suits k → opened (.returnTool panel (some b)) b.toNat)
      ∧ (k.occupancy ≠ .empty →
          exec (.returnTool panel (some b)) s = .next (s.answered .placeConflict []))
      ∧ (k.occupancy = .empty → k.fault ≠ .none →
          exec (.returnTool panel (some b)) s = .next (s.answered .pocketFault []))
      ∧ (k.occupancy = .empty → k.fault = .none → k.lock ≠ .closed →
          exec (.returnTool panel (some b)) s = .next (s.answered .badState [])))
    ∧ (∀ p k, s.pocket? p = some k → suits k → k.reservedFor = none →
        (∀ q k', q < p → s.pocket? q = some k' → ¬ (suits k' ∧ k'.reservedFor = none)) →
        opened (.returnTool panel none) p)
    ∧ ((∀ p k, s.pocket? p = some k → ¬ (suits k ∧ k.reservedFor = none)) →
        exec (.returnTool panel none) s = .next (s.answered .noneAvailable [])))
  ∧ (∀ (panel : Byte) (list : List Byte) (i : PanelId) (w : Window) (s : State), s.PortFree →
    s.port.nodeState = .online ∨ s.port.nodeState = .listenOnly →
    panelOf panel = some i → s.config.pocketCount ≠ 0 →
    (s.panel i).window = some w → w.privilege = .service →
    (s.panel i).operation = none → s.bank.supply = .normal →
    list ≠ [] → list.length ≤ 8 → (∀ b ∈ list, s.pocket? b.toNat ≠ none) →
    let opens (b : Byte) : Prop := ∃ k, s.pocket? b.toNat = some k ∧ k.fault = .none ∧ k.lock = .closed
    let result (b : Byte) (earlier : List Byte) : Byte := match s.pocket? b.toNat with
      | none => 0
      | some k => if k.fault ≠ .none then 14 else if k.lock ≠ .closed ∨ b ∈ earlier then 2 else 0
    ((∀ b ∈ list, ¬ opens b) →
      exec (.serviceOpen panel list) s = .next (s.answered .noneAvailable []))
    ∧ ((∃ b ∈ list, opens b) → ∃ t o, exec (.serviceOpen panel list) s = .next t
      ∧ t.port.response = some { result := .ok, payload := list.zipIdx.flatMap (fun x =>
          [x.1, result x.1 (list.take x.2)]) }
      ∧ t.notices = (s.post .accessClosed (num (panelCode i)) (num 2)).notices
      ∧ t.panel i = { s.panel i with window := none, operation := some o }
      ∧ o.kind = .service
      ∧ (o.pockets.map (·.pocket)).Sublist (list.map BitVec.toNat)
      ∧ (o.pockets.map (·.pocket)).Nodup
      ∧ (∀ b ∈ list, opens b ↔ b.toNat ∈ o.pockets.map (·.pocket))
      ∧ (∀ q ∈ o.pockets, q.status = .waiting ∧ q.reachedOpen = false
          ∧ ∃ k, t.pocket? q.pocket = some k
            ∧ k.lock.opening = some { purpose := .service, panel := i })
      ∧ t.records = s.records ∧ t.line = s.line ∧ t.custody = s.custody
      ∧ t.reservations = s.reservations))

/-- CANCEL ends the panel's operation CANCELLED: each of its pockets that has not ended is CLOSED, the done notice is
posted, and occupancies, records, the key buffer, the window and the lockout stay; without an operation it is refused
with BAD_STATE (R121). -/
def Obligations.CancelEndsTheOperation : Prop :=
  ∀ (panel : Byte) (i : PanelId) (s : State), s.PortFree → s.port.nodeState ≠ .unconfigured →
    panelOf panel = some i → s.config.pocketCount ≠ 0 →
    ((s.panel i).operation = none → exec (.cancel panel) s = .next (s.answered .badState []))
    ∧ (∀ o, (s.panel i).operation = some o → (o.pockets.map (·.pocket)).Nodup →
      (∀ q ∈ o.pockets, q.status.isEnded = false → ∀ k w, s.pocket? q.pocket = some k →
        k.lock.opening = some w → w.panel = i) →
      ∃ t, exec (.cancel panel) s = .next t
        ∧ t.port.response = some { result := .ok, payload := [] }
        ∧ t.panel i = { s.panel i with operation := none }
        ∧ (∀ q ∈ o.pockets, q.status.isEnded = false → ∀ k, t.pocket? q.pocket = some k →
            k.lock = .closed)
        ∧ t.bank.pockets.map (·.occupancy) = s.bank.pockets.map (·.occupancy)
        ∧ t.records = s.records ∧ t.line = s.line ∧ t.custody = s.custody
        ∧ t.notices = (s.post (o.doneNotice .cancelled).1 (num (panelCode i))
            (o.doneNotice .cancelled).2).notices)

/-- IDENTIFY_POCKET and IDENTIFY_HEAD place a LOOSE or MISSING record held here in the pocket or on the head,
and open a call with that purpose for a tool that is not held here, with the refusals of R64 (R122, R129).
Their own refusals, in their order: NOT_CONFIGURED; OUT_OF_RANGE for the pocket, a node with no head or the tool id 0;
BAD_STATE for a pocket that is not UNKNOWN, PRESENT and CLOSED, or a head that is not PRESENT and empty or runs a
reference; then PLACE_CONFLICT for a LOOSE or MISSING record while a call is open with that purpose and for a record
placed elsewhere, BAD_STATE for one OUTBOUND or IN_DOUBT (R122, R129). -/
def Obligations.IdentifyPlacesOrCalls : Prop :=
  (∀ (tool : ToolId) (s : State), s.PortFree → s.port.nodeState ≠ .unconfigured → tool ≠ 0 →
    (∀ (b : Byte) k, s.pocket? b.toNat = some k → k.occupancy = .unknown → k.presence = .present →
      k.lock = .closed →
      (∀ r, s.find tool = some r → r.state = .loose ∨ r.state = .missing →
        s.callAt (.pocket b.toNat) = none →
        exec (.identifyPocket b tool) s = .next
          (((State.markingPass (State.setPocket { s with records := s.records.map (fun q =>
              if q.image.toolId = tool then { q with state := .stocked b.toNat } else q) }
            b.toNat (fun k => { k with occupancy := .held tool }))).post .recordChanged tool
            (parts (byte 1 ++ byte 1 ++ byte b.toNat))).answered .ok []))
      ∧ (s.find tool = none → exec (.identifyPocket b tool) s =
          (match s.openCall tool (.pocket b.toNat) with
            | .ok t => .next (t.answered .ok [])
            | .error r => .next (s.answered r []))))
    ∧ (s.config.head = true → s.head.seat = .present → s.headRecord = none →
      s.referenceRun = false →
      (∀ r, s.find tool = some r → r.state = .loose ∨ r.state = .missing →
        s.callAt .head = none →
        exec (.identifyHead tool) s = .next
          ((State.post { s with records := s.records.map (fun q =>
              if q.image.toolId = tool then { q with state := .seated } else q) } .recordChanged tool
            (parts (byte 3 ++ byte 3 ++ byte 0))).answered .ok []))
      ∧ (s.find tool = none → exec (.identifyHead tool) s =
          (match s.openCall tool .head with
            | .ok t => .next (t.answered .ok [])
            | .error r => .next (s.answered r [])))))
  ∧ (∀ (tool : ToolId) (s : State), s.PortFree →
    let held (purpose : Purpose) (answer : HostResult → Prop) : Prop := ∀ r, s.find tool = some r →
      (r.state = .loose ∨ r.state = .missing → s.callAt purpose ≠ none → answer .placeConflict)
      ∧ (r.state = .seated ∨ r.state = .measuring ∨ (∃ p, r.state = .stocked p) ∨ (∃ n, r.state = .loaded n) →
          answer .placeConflict)
      ∧ ((∃ c p, r.state = .outbound c p) ∨ (∃ c p d, r.state = .inDoubt c p d) → answer .badState)
    (∀ b : Byte,
      let answer (r : HostResult) : Prop := exec (.identifyPocket b tool) s = .next (s.answered r [])
      (s.port.nodeState = .unconfigured → answer .notConfigured)
      ∧ (s.port.nodeState ≠ .unconfigured →
        (s.pocket? b.toNat = none ∨ tool = 0 → answer .outOfRange)
        ∧ (∀ k, s.pocket? b.toNat = some k → tool ≠ 0 →
          (k.occupancy ≠ .unknown ∨ k.presence ≠ .present ∨ k.lock ≠ .closed → answer .badState)
          ∧ (k.occupancy = .unknown → k.presence = .present → k.lock = .closed →
            held (.pocket b.toNat) answer))))
    ∧ (let answer (r : HostResult) : Prop := exec (.identifyHead tool) s = .next (s.answered r [])
      let busy : Prop := ∃ n t d, s.head.run = some { kind := .reference, n := n, t := t, deadline := d }
      (s.port.nodeState = .unconfigured → answer .notConfigured)
      ∧ (s.port.nodeState ≠ .unconfigured →
        (s.config.head = false ∨ tool = 0 → answer .outOfRange)
        ∧ (s.config.head = true → tool ≠ 0 →
          (s.head.seat ≠ .present ∨ s.headRecord ≠ none ∨ busy → answer .badState)
          ∧ (s.head.seat = .present → s.headRecord = none → ¬ busy → held .head answer)))))

/-! ### Measuring unit -/

/-- A legal transition adds or subtracts 1, wrapping, at a configured head, and does nothing elsewhere; a scale
error raises the saturating count, invalidates the reference and ends a run SCALE_ERROR, with RECORD_CHANGED,
SCALE_ERROR and the outcome notice in this order (R125, R126, R22). -/
def Obligations.ScaleEvents : Prop :=
  ∀ (s : State) (c : Scale),
    let lost : State := { s with head := { s.head with
      scaleErrors := min 65535 (s.head.scaleErrors + 1)
      reference := { s.head.reference with valid := false } } }
    let idle : State := { lost with head := { lost.head with run := none, samples := [] } }
    let told (t : State) : State := t.post .scaleError 0 (num (scaleCode c))
    (s.port.nodeState = .unconfigured ∨ s.config.head = false →
      (∀ up, exec (.scaleStep c up) s = .next s) ∧ exec (.scaleError c) s = .next s)
    ∧ (s.port.nodeState ≠ .unconfigured → s.config.head = true →
      exec (.scaleStep .z true) s = .next { s with head := { s.head with z := s.head.z + 1 } }
      ∧ exec (.scaleStep .z false) s = .next { s with head := { s.head with z := s.head.z - 1 } }
      ∧ exec (.scaleStep .x true) s = .next { s with head := { s.head with x := s.head.x + 1 } }
      ∧ exec (.scaleStep .x false) s = .next { s with head := { s.head with x := s.head.x - 1 } }
      ∧ (s.head.run = none → s.head.reference.valid = false →
          exec (.scaleError c) s = .next lost)
      ∧ (s.head.run = none → s.head.reference.valid = true →
          exec (.scaleError c) s = .next (told lost))
      ∧ (∀ n t d, s.head.run = some { kind := .reference, n := n, t := t, deadline := d } →
          exec (.scaleError c) s = .next ((told idle).post .referenceDone 0 (num 8)))
      ∧ (∀ tool r n t d, s.find tool = some r →
          s.head.run = some { kind := .measurement tool, n := n, t := t, deadline := d } →
          exec (.scaleError c) s = .next ((told (State.post { idle with
              records := s.records.map (fun q =>
                if q.image.toolId = tool then { q with state := .seated } else q) } .recordChanged tool
            (parts (byte 3 ++ byte 3 ++ byte 0)))).post .measureDone tool (parts (byte 8 ++ byte 0)))))

/-- A capture of the configured polarity is stray without a run, joins the buffer of a run that is short of its N and
moves its deadline, and as the Nth sample of a reference run forms the reference from the lower medians and the run's
T and ends it DONE; the other polarity is no event (R127, R132). -/
def Obligations.Captures : Prop :=
  ∀ (rising : Bool) (s : State), s.port.nodeState ≠ .unconfigured → s.config.head = true →
    let samples := s.head.samples ++ [{ z := s.head.z, x := s.head.x }]
    (rising ≠ s.config.captureRising → exec (.capture rising) s = .next s)
    ∧ (rising = s.config.captureRising →
      (s.head.run = none → exec (.capture rising) s = .next (s.post .strayCapture 0 s.head.z))
      ∧ (∀ r, s.head.run = some r → samples.length < r.n →
          exec (.capture rising) s = .next { s with head := { s.head with
            samples := samples, run := some { r with deadline := s.now + 10000 } } })
      ∧ (∀ n t d, s.head.run = some { kind := .reference, n := n, t := t, deadline := d } →
          samples.length = n →
          exec (.capture rising) s = .next (State.post { s with head := { s.head with
            run := none
            samples := []
            reference :=
              { valid := true
                z := BitVec.ofInt 32 (lowerMedian (samples.map (fun p => p.z.toInt)))
                x := BitVec.ofInt 32 (lowerMedian (samples.map (fun p => p.x.toInt)))
                t := t } } } .referenceDone 0 (num 9))))

/-- The lower median is a value of its list with at most ⌊(n - 1) / 2⌋ values below it and more than that at or below
it; the kept samples are those within B of both medians; the correction is P / 10,000,000,000 rounded to the nearest
with halves away from zero (R136, R137, R139). -/
def Obligations.MeasuringArithmetic : Prop :=
  (∀ l : List Int, l ≠ [] → lowerMedian l ∈ l
    ∧ l.countP (fun v => decide (v < lowerMedian l)) ≤ (l.length - 1) / 2
    ∧ (l.length - 1) / 2 < l.countP (fun v => decide (v ≤ lowerMedian l)))
  ∧ (∀ (band : Nat) (l : List Sample) (p : Sample), p ∈ keptSamples band l ↔ p ∈ l
      ∧ (p.z.toInt - lowerMedian (l.map (fun q => q.z.toInt))).natAbs ≤ band
      ∧ (p.x.toInt - lowerMedian (l.map (fun q => q.x.toInt))).natAbs ≤ band)
  ∧ (∀ n, (n ≤ 6 → keepThreshold n = 3) ∧ (6 ≤ n → keepThreshold n = (n + 1) / 2))
  ∧ (∀ (alpha : Nat) (t d : Int), let p := d * alpha * (t - 2000)
      (correction alpha t d).natAbs = (p.natAbs + 5000000000) / 10000000000
      ∧ (0 ≤ p → 0 ≤ correction alpha t d) ∧ (p ≤ 0 → correction alpha t d ≤ 0)
      ∧ 2 * (correction alpha t d * 10000000000 - p).natAbs ≤ 10000000000
      ∧ (t = 2000 ∨ alpha = 0 → correction alpha t d = 0))

/-- The Nth sample of a measurement run: with too few samples kept the run ends SPARSE and no data changes; otherwise
the measured block is replaced as a whole by the result of the offset computation and its verdict; the record goes to
SEATED, the run ends, and RECORD_CHANGED and MEASURE_DONE are posted (R137, R138, R140 to R142). -/
def Obligations.MeasurementCompletes : Prop :=
  ∀ (s : State) (tool : ToolId) (r : ToolRecord) (n : Nat) (temp : Int) (d : Millis),
    s.port.nodeState ≠ .unconfigured → s.config.head = true → s.find tool = some r →
    s.head.run = some { kind := .measurement tool, n := n, t := temp, deadline := d } →
    let samples := s.head.samples ++ [{ z := s.head.z, x := s.head.x }]
    let kept := keptSamples s.config.band samples
    samples.length = n →
    ∃ t, exec (.capture s.config.captureRising) s = .next t
      ∧ t.head = { s.head with run := none, samples := [] }
      ∧ t.bank = s.bank ∧ t.line = s.line ∧ t.custody = s.custody ∧ t.magazine = s.magazine
      ∧ (kept.length < max 3 ((n + 1) / 2) →
        t.records = s.records.map (fun q =>
          if q.image.toolId = tool then { q with state := .seated } else q)
        ∧ t.notices = ((s.post .recordChanged tool (parts (byte 3 ++ byte 3 ++ byte 0))).post
            .measureDone tool (parts (byte 4 ++ byte kept.length))).notices)
      ∧ (max 3 ((n + 1) / 2) ≤ kept.length →
        ∃ b : Measured, t.records = s.records.map (fun q => if q.image.toolId = tool then
            { image := { q.image with measured := some b }, state := .seated } else q)
          ∧ t.notices = ((s.post .recordChanged tool (parts (byte 3 ++ byte 3 ++ byte 0))).post
              .measureDone tool (parts (byte b.verdict.code ++ byte kept.length))).notices
          ∧ b.station = s.port.station.toNat ∧ b.temperature = temp ∧ b.kept = kept.length
          ∧ b.lifeAtMeasure = r.image.lifeUsed
          ∧ ∀ zMax xMax xMin : Int,
            (∃ p ∈ kept, p.z.toInt = zMax) → (∀ p ∈ kept, p.z.toInt ≤ zMax) →
            (∃ p ∈ kept, p.x.toInt = xMax) → (∀ p ∈ kept, p.x.toInt ≤ xMax) →
            (∃ p ∈ kept, p.x.toInt = xMin) → (∀ p ∈ kept, xMin ≤ p.x.toInt) →
            let dL := (zMax - s.head.reference.z.toInt) * 5
            let dR := (xMax - s.head.reference.x.toInt) * 5
            let l := s.config.lRef + dL + correction s.config.alpha temp dL
            let e := s.config.rRef + dR + correction s.config.alpha temp dR
            let u := min 65535 ((xMax - xMin) * 5).toNat
            let wasClamped := l < 0 ∨ 5000000 < l ∨ e < 0 ∨ 1000000 < e
            let out := r.image.lengthTol < absDiff b.length r.image.nomLength
              ∨ r.image.radiusTol < absDiff b.radius r.image.nomRadius
            (b.length : Int) = max 0 (min 5000000 l) ∧ (b.radius : Int) = max 0 (min 1000000 e)
            ∧ b.runout = u
            ∧ b.verdict = (if wasClamped then .clamped else if r.image.runoutLimit < u then .runoutHigh
                else if out then .outOfBand else .within))

/-- MEASURE_REFERENCE and MEASURE start a run with an empty buffer, N and T clamped, and a deadline of now plus 10,000
ms; ABORT_MEASURE and the capture timeout end the active run, a measured record going back to SEATED with its data
unchanged (R131, R133 to R135). -/
def Obligations.RunsStartAndEnd : Prop :=
  ∀ (s : State), s.port.nodeState ≠ .unconfigured → s.config.head = true →
    let running (k : RunKind) (n : Byte) (t : BitVec 16) : State := { s with head := { s.head with
      run := some {
        kind := k, n := max 4 (min 32 n.toNat), t := max (-1000) (min 5000 t.toInt)
        deadline := s.now + 10000 }
      samples := [] } }
    let idle : State := { s with head := { s.head with run := none, samples := [] } }
    let seated (tool : ToolId) : List ToolRecord := s.records.map (fun q =>
      if q.image.toolId = tool then { q with state := .seated } else q)
    (∀ n t, s.PortFree → s.port.nodeState = .online ∨ s.port.nodeState = .listenOnly →
      s.head.seat = .present → s.headRecord = none → s.callAt .head = none → s.head.run = none →
      exec (.measureReference n t) s = .next ((running .reference n t).answered .ok []))
    ∧ (∀ n t tool r, s.PortFree → s.port.nodeState = .online ∨ s.port.nodeState = .listenOnly →
      tool ≠ 0 → s.find tool = some r → r.state = .seated →
      (s.head.reference.valid = false →
        exec (.measure tool n t) s = .next (s.answered .noReference []))
      ∧ (s.head.reference.valid = true →
        200 < (max (-1000) (min 5000 t.toInt) - s.head.reference.t).natAbs →
        exec (.measure tool n t) s = .next (s.answered .referenceStale []))
      ∧ (s.head.reference.valid = true →
        (max (-1000) (min 5000 t.toInt) - s.head.reference.t).natAbs ≤ 200 →
        exec (.measure tool n t) s = .next ((State.post { running (.measurement tool) n t with
            records := s.records.map (fun q =>
              if q.image.toolId = tool then { q with state := .measuring } else q) } .recordChanged
          tool (parts (byte 4 ++ byte 3 ++ byte 0))).answered .ok [])))
    ∧ (∀ n t d, s.head.run = some { kind := .reference, n := n, t := t, deadline := d } →
      (s.PortFree → exec .abortMeasure s =
        .next ((idle.post .referenceDone 0 (num 6)).answered .ok []))
      ∧ (reached s.now d = true →
        exec .captureTimeout s = .next (idle.post .referenceDone 0 (num 5))))
    ∧ (∀ tool r n t d, s.find tool = some r →
      s.head.run = some { kind := .measurement tool, n := n, t := t, deadline := d } →
      let back : State := State.post { idle with records := seated tool } .recordChanged tool
        (parts (byte 3 ++ byte 3 ++ byte 0))
      (s.PortFree → exec .abortMeasure s =
        .next ((back.post .measureDone tool (parts (byte 6 ++ byte 0))).answered .ok []))
      ∧ (reached s.now d = true →
        exec .captureTimeout s = .next (back.post .measureDone tool (parts (byte 5 ++ byte 0)))))

/-- The first settled seat reading is no event; a seat-present event posts HEAD_SEATED; a seat-absent event makes the
record on the head LOOSE, posts HEAD_UNSEATED with its tool id, ends a run UNSEATED (a reference run on the empty
head leaves the reference as it was) and closes a call for the head WITHDRAWN, with the notices in this order (R128,
R68). That the seat sensor has the pocket sensors' polarity is the
model's choice (log 26). -/
def Obligations.SeatEvents : Prop :=
  ∀ s : State, s.port.nodeState ≠ .unconfigured → s.config.head = true →
    (∀ high, s.head.seat = .unsettled → exec (.seatFirstReading high) s = .next
      { s with head := { s.head with
        seat := if high = s.config.sensorHigh then .present else .absent } })
    ∧ (s.head.seat = .absent → exec .headSeated s = .next
      (State.post { s with head := { s.head with seat := .present } } .headSeated 0 0))
    ∧ (s.head.seat = .present → s.headRecord = none → s.head.run = none → s.callAt .head = none →
      exec .headUnseated s = .next
        (State.post { s with head := { s.head with seat := .absent } } .headUnseated 0 0))
    ∧ (∀ n temp d, s.head.seat = .present → s.headRecord = none → s.callAt .head = none →
      s.head.run = some { kind := .reference, n := n, t := temp, deadline := d } →
      exec .headUnseated s = .next ((State.post
        { s with head := { s.head with seat := .absent, run := none, samples := [] } } .headUnseated 0 0).post
          .referenceDone 0 (num 7)))
    ∧ (∀ i c, s.head.seat = .present → s.headRecord = none → s.head.run = none →
      s.callAt .head = some i → s.call? i = some c →
      ∃ t, exec .headUnseated s = .next t ∧ t.head = { s.head with seat := .absent }
        ∧ t.custody = { s.custody with calls := s.custody.calls.set i none }
        ∧ t.records = s.records ∧ t.magazine = s.magazine
        ∧ t.notices = ((s.post .headUnseated 0 0).post .callDone c.tool
            (parts (byte 4 ++ byte 0 ++ byte 0))).notices)
    ∧ (∀ r, s.head.seat = .present → s.headRecord = some r → s.find r.image.toolId = some r →
      s.callAt .head = none →
      ∃ t, exec .headUnseated s = .next t
        ∧ t.head = { s.head with
            seat := .absent, run := none, samples := if s.head.run = none then s.head.samples else [] }
        ∧ t.records = s.records.map (fun q =>
            if q.image.toolId = r.image.toolId then { q with state := .loose } else q)
        ∧ (let off := (s.post .recordChanged r.image.toolId (parts (byte 5 ++ byte 0 ++ byte 0))).post
              .headUnseated 0 r.image.toolId
           (s.head.run = none → t.notices = off.notices)
           ∧ (∀ tool n temp d,
              s.head.run = some { kind := .measurement tool, n := n, t := temp, deadline := d } →
              t.notices = (off.post .measureDone tool (parts (byte 7 ++ byte 0))).notices))
        ∧ t.custody = s.custody ∧ t.line = s.line ∧ t.bank = s.bank)

/-! ### Magazine unit -/

/-- LOAD into an EMPTY slot: a LOOSE FIT record becomes LOADED, a LOOSE unfit one stays LOOSE and the slot becomes
REFUSED with its unfit reason, a tool not held here is called for and the slot becomes CALLING, the refusals of R64
being the command's; MISSING, OUTBOUND and IN_DOUBT records are refused with BAD_STATE, placed ones with
PLACE_CONFLICT, and a slot that is not EMPTY with SLOT_OCCUPIED (R147 to R149). -/
def Obligations.LoadFillsASlot : Prop :=
  ∀ (b : Byte) (tool : ToolId) (m : MagSlot) (s : State), s.PortFree →
    s.port.nodeState = .online ∨ s.port.nodeState = .listenOnly → tool ≠ 0 →
    s.slot? b.toNat = some m →
    (m ≠ .empty → exec (.load b tool) s = .next (s.answered .slotOccupied []))
    ∧ (m = .empty →
      (∀ r, s.find tool = some r → r.state = .loose → r.image.fit = true →
        exec (.load b tool) s = .next ((State.post (State.setSlot { s with
            records := s.records.map (fun q =>
              if q.image.toolId = tool then { q with state := .loaded b.toNat } else q) }
            b.toNat (.loaded tool)) .recordChanged tool
          (parts (byte 2 ++ byte 2 ++ byte b.toNat))).answered .ok (byte 2)))
      ∧ (∀ r why, s.find tool = some r → r.state = .loose → r.image.unfitReason = some why →
        exec (.load b tool) s = .next (((s.setSlot b.toNat (.refused (.unfit why))).post .loadRefused
          tool (parts (byte b.toNat ++ byte why.code))).answered .ok (byte 3)))
      ∧ (∀ r, s.find tool = some r → r.state = .missing ∨ (∃ c p, r.state = .outbound c p)
          ∨ (∃ c p d, r.state = .inDoubt c p d) →
        exec (.load b tool) s = .next (s.answered .badState []))
      ∧ (∀ r, s.find tool = some r → r.state = .seated ∨ r.state = .measuring
          ∨ (∃ p, r.state = .stocked p) ∨ (∃ n, r.state = .loaded n) →
        exec (.load b tool) s = .next (s.answered .placeConflict []))
      ∧ (s.find tool = none → exec (.load b tool) s =
          (match s.openCall tool (.slot b.toNat) with
            | .ok t => .next ((t.setSlot b.toNat (.calling tool)).answered .ok (byte 1))
            | .error r => .next (s.answered r []))))

/-- UNLOAD empties a slot in every node state after CONFIGURE: a LOADED record becomes LOOSE, a call closes
WITHDRAWN, a REFUSED slot loses its cause, an EMPTY one stays (R150, R68).
A charge of a LOADED record, its seconds clamped to 1 to 3600, sets life used to the smaller of the sum and the
life limit, answers it with the excess, and posts RECORD_CHANGED, LIFE_LOW, LIFE_WORN, REMEASURE_DUE and
LIFE_OVERRUN in this order, each where it applies; a slot that is not LOADED posts UNCHARGED and changes nothing
else; the answer is then the model's, read from 11.3 (log 16), and left open here (R152 to R154). -/
def Obligations.UnloadAndCharge : Prop :=
  (∀ (b : Byte) (m : MagSlot) (s : State), s.PortFree → s.port.nodeState ≠ .unconfigured →
    s.slot? b.toNat = some m →
    (m = .empty → exec (.unload b) s = .next (s.answered .ok []))
    ∧ (∀ c, m = .refused c →
        exec (.unload b) s = .next ((s.setSlot b.toNat .empty).answered .ok []))
    ∧ (∀ tool r, m = .loaded tool → s.find tool = some r →
        exec (.unload b) s = .next ((State.post (State.setSlot { s with
            records := s.records.map (fun q =>
              if q.image.toolId = tool then { q with state := .loose } else q) } b.toNat .empty)
          .recordChanged tool (parts (byte 5 ++ byte 0 ++ byte 0))).answered .ok []))
    ∧ (∀ tool i c, m = .calling tool → s.callAt (.slot b.toNat) = some i → s.call? i = some c →
        ∃ t, exec (.unload b) s = .next t
          ∧ t.port.response = some { result := .ok, payload := [] }
          ∧ t.slot? b.toNat = some .empty
          ∧ t.custody = { s.custody with calls := s.custody.calls.set i none }
          ∧ t.records = s.records
          ∧ t.notices = (s.post .callDone c.tool (parts (byte 4 ++ byte 0 ++ byte 0))).notices))
  ∧ (∀ (b : Byte) (seconds : BitVec 16) (m : MagSlot) (s : State), s.PortFree →
    s.port.nodeState = .online ∨ s.port.nodeState = .listenOnly → s.slot? b.toNat = some m →
    let n := max 1 (min 3600 seconds.toNat)
    ((∀ tool, m ≠ .loaded tool) → ∃ answer, exec (.charge b seconds) s = .next
      ((s.post .uncharged (num b.toNat) (num n)).answered .ok answer))
    ∧ (∀ tool r, m = .loaded tool → s.find tool = some r → r.state = .loaded b.toNat →
      let i := r.image
      let j : Image := { i with lifeUsed := min (i.lifeUsed + n) i.lifeLimit }
      let excess := i.lifeUsed + n - i.lifeLimit
      let t : State := { s with records := s.records.map (fun q => if q.image.toolId = tool then
        { q with image := { q.image with lifeUsed := min (q.image.lifeUsed + n) q.image.lifeLimit } }
        else q) }
      let t := if j.lifeUsed = i.lifeUsed then t
        else t.post .recordChanged tool (parts (byte 2 ++ byte 2 ++ byte b.toNat))
      let t := if i.low = false ∧ j.low = true then
        t.post .lifeLow tool (num (j.lifeLimit - j.lifeUsed)) else t
      let t := if i.worn = false ∧ j.worn = true then t.post .lifeWorn tool (num b.toNat) else t
      let t := if i.remeasureDue = false ∧ j.remeasureDue = true then
        t.post .remeasureDue tool (num j.sinceOf) else t
      let t := if 0 < excess then t.post .lifeOverrun tool (num excess) else t
      exec (.charge b seconds) s = .next
        (t.answered .ok (beBytes 3 j.lifeUsed ++ beBytes 3 excess))))

/-! ### Demand and reservations -/

/-- SET_DEMAND replaces the whole list: entries with count 0 left out, counts above 4 stored as 4, a class given
twice among the entries that are not left out at its first position with its last count, so no class stands
twice and every count is 1 to 4; a queued DEMAND is refreshed; the answer is the number of entries stored
(R160).
START_DEMAND begins a run of the sequencer and takes its first cycle point, STOP_DEMAND ends it, takes the run's
queued DEMAND out and offers the withdrawal with the run's hold time and no entries; a cycle deadline in
INTERVAL mode and a trigger edge in TRIGGER mode take a cycle point (R161, R162, R164). That a DEMAND in
transmission belongs to nobody once STOP_DEMAND has removed it is the model's choice (log 29). -/
def Obligations.DemandListAndRuns : Prop :=
  ((∀ (entries : List (BitVec 16 × Byte)) (s : State), s.PortFree →
    s.port.nodeState ≠ .unconfigured → s.config.slotCount ≠ 0 → entries.length ≤ 8 →
    (∀ e ∈ entries, e.2 ≠ 0 → e.1 ≠ 0) →
    let list := normalEntries (entries.map (fun e => { cls := e.1.toNat, count := e.2.toNat }))
    exec (.setDemand entries) s = .next
      ((State.replaceFrame { s with demand := { s.demand with list := list } } .demandRun
        (demandPayload s.demand.hold list) false).answered .ok (byte list.length)))
  ∧ (∀ entries : List DemandEntry, let list := normalEntries entries
      (list.map (·.cls)).Nodup ∧ (∀ e ∈ list, 1 ≤ e.count ∧ e.count ≤ 4)
      ∧ (∀ c, c ∈ list.map (·.cls) ↔ ∃ e ∈ entries, e.cls = c ∧ e.count ≠ 0)
      ∧ list.map (·.cls) = ((entries.filter (·.count ≠ 0)).map (·.cls)).eraseDups
      ∧ (∀ e front back, entries = front ++ e :: back → e.count ≠ 0 →
          (∀ x ∈ back, x.cls = e.cls → x.count = 0) →
          { cls := e.cls, count := min e.count 4 } ∈ list)
      ∧ (list.map (·.cls)).Sublist (entries.map (·.cls))))
  ∧ (∀ s : State, s.config.slotCount ≠ 0 →
    (∀ mode interval target hold m, s.PortFree → s.port.nodeState = .online →
      s.demand.running = false →
      (mode = 1 ∧ m = .interval (max 1 (min 60 interval.toNat)) ∨ mode = 2 ∧ m = .trigger) →
      exec (.startDemand mode interval target hold) s = .next
        ((State.cyclePoint { s with demand := { s.demand with
          running := true, mode := m, target := target.toNat, cycles := 0
          hold := max 1 (min 60 hold.toNat)
          deadline := (match m with
            | .interval n => some (s.now + BitVec.ofNat 32 (1000 * n))
            | .trigger => none) } }).answered .ok []))
    ∧ (s.PortFree → s.port.nodeState ≠ .unconfigured → s.demand.running = true →
      exec .stopDemand s = .next
        ((State.offerFrame { s.removeFrames .demandRun with
            demand := { s.demand with running := false, deadline := none } }
          (newFrame .demand 63 (byte s.demand.hold) .nobody)).answered .ok []))
    ∧ (∀ d n, s.demand.running = true → s.demand.deadline = some d → reached s.now d = true →
      s.demand.mode = .interval n →
      exec .cycleExpiry s = .next (State.cyclePoint { s with demand := { s.demand with
        deadline := some (s.now + BitVec.ofNat 32 (1000 * n)) } }))
    ∧ (s.port.nodeState ≠ .unconfigured → s.demand.running = true → s.demand.mode = .trigger →
      exec (.triggerEdge s.config.triggerHigh) s = .next s.cyclePoint)
    ∧ exec (.triggerEdge (!s.config.triggerHigh)) s = .next s
    ∧ (s.line.queuedFor .demandRun = true →
      s.cyclePoint = (s.post .cycleOverrun 0 (num s.demand.cycles)).replaceFrame .demandRun
        (demandPayload s.demand.hold s.demand.list) true)
    ∧ (s.line.queuedFor .demandRun = false →
      s.cyclePoint = s.offerFrame (newFrame .demand 63
        (byte s.demand.hold ++ s.demand.list.flatMap (fun e => beBytes 2 e.cls ++ byte e.count))
        .demandRun)))

/-- The marking pass changes nothing but marks; it marks only a pocket that is in service, CLOSED, unmarked and
holds a STOCKED FIT record of the row's class, for that row's station, or keeps a mark (R169, R102).
With one row for each requester and class (R166, a law that every step keeps): after the pass no row has more
pockets marked than it wants, and none has fewer than it had and wants; a row is left short only where no unmarked
pocket qualifies for it, also where the pass itself has freed one (R170); no mark goes where no row had too many; and
a pass after the pass changes nothing.
Of the qualifying pockets the marked ones have the greatest remaining life, ties to the lowest number; a surplus
mark is taken from a CLOSED pocket before one that is opening, then from the least remaining life, then from the
highest number (R169). -/
def Obligations.MarkingPassRules : Prop :=
  ∀ s : State,
    let after := s.markingPass.bank.pockets
    let oneEach : Prop := (s.reservations.map (fun row => (row.requester, row.cls))).Nodup
    let noSurplus : Prop := ∀ row ∈ s.reservations, marked s.records row s.bank.pockets ≤ row.wanted
    let suits (k : Pocket) (cls : Nat) : Prop := k.fault = .none ∧ k.lock = .closed
      ∧ ∃ tool r q, k.occupancy = .held tool ∧ s.find tool = some r ∧ r.state = .stocked q
          ∧ r.image.fit = true ∧ r.image.cls = cls
    s.markingPass = { s with bank := { s.bank with pockets := after } }
    ∧ s.markingPass.plainPockets = s.plainPockets
    ∧ (∀ (p : Nat) (k k' : Pocket) (n : Nat), s.bank.pockets[p]? = some k →
        after[p]? = some k' → k'.reservedFor = some n →
        k.reservedFor = some n ∨
        (k.fault = .none ∧ k.lock = .closed ∧ ∃ row ∈ s.reservations, row.requester = n ∧
          ∃ tool r, k.occupancy = .held tool ∧ s.find tool = some r ∧ r.image.fit = true
            ∧ r.image.cls = row.cls ∧ ∃ q, r.state = .stocked q))
    ∧ (oneEach → ∀ row ∈ s.reservations, marked s.records row after ≤ row.wanted
        ∧ min row.wanted (marked s.records row s.bank.pockets) ≤ marked s.records row after)
    ∧ (oneEach → ∀ row ∈ s.reservations, marked s.records row after < row.wanted →
        ∀ k ∈ after, k.reservedFor = none → ¬ suits k row.cls)
    ∧ (oneEach → noSurplus → ∀ (p : Nat) (k k' : Pocket), s.bank.pockets[p]? = some k → k.reservedFor ≠ none →
        after[p]? = some k' → k' = k)
    ∧ (oneEach → s.markingPass.markingPass = s.markingPass)
    ∧ (oneEach → ∀ (p q : Nat) (k l k' l' : Pocket) (cls : Nat), s.bank.pockets[p]? = some k → k.reservedFor = none →
        after[p]? = some k' → k'.reservedFor ≠ none → suits k cls →
        s.bank.pockets[q]? = some l → l.reservedFor = none →
        after[q]? = some l' → l'.reservedFor = none → suits l cls →
        lifeIn s.records l < lifeIn s.records k ∨ lifeIn s.records l = lifeIn s.records k ∧ p < q)
    ∧ (oneEach → (∀ r ∈ s.records, r.image.lifeLimit ≤ 4194303) → ∀ row ∈ s.reservations,
        ∀ (p q : Nat) (k l k' l' : Pocket), s.bank.pockets[p]? = some k → s.bank.pockets[q]? = some l →
        after[p]? = some k' → after[q]? = some l' →
        k.reservedFor = some row.requester → classIn s.records k = row.cls →
        k'.reservedFor ≠ some row.requester →
        l.reservedFor = some row.requester → classIn s.records l = row.cls →
        l'.reservedFor = some row.requester →
        (k.lock = .closed ∧ l.lock ≠ .closed)
        ∨ ((k.lock = .closed ↔ l.lock = .closed) ∧
          (lifeIn s.records k < lifeIn s.records l ∨ lifeIn s.records k = lifeIn s.records l ∧ q < p)))

/-- An expired row is deleted, its marks removed and the pass run, and RESERVATION_ENDED posted with the cause
EXPIRED (R172).
A DEMAND is ignored in other states than ONLINE and LISTEN_ONLY, at a node with 0 pockets and from a DOUBTFUL
sender; otherwise it is taken with its hold time as 1 to 60 s and its entries as R168 lists them; an entry with
a count and class 0 is out of range (R167).
A taken DEMAND deletes the sender's rows that it does not list, with their marks; then, in list order, it
updates a row in its place, creates a row at the end of a table of fewer than 16, or skips the entry; then the
pass runs; then RESERVATION_ENDED WITHDRAWN for each deleted row in table order, and RESERVATION_ADDED with the
wanted and marked counts or RESERVATION_FULL for each created or skipped entry in list order; other stations'
rows stay (R168).
That the pass which follows its own removals begins once every row has been swept is the model's choice (log 32). -/
def Obligations.ReservationRows : Prop :=
  (∀ (n c : Nat) (row : Reservation) (s : State),
    s.reservations.find? (fun r => r.requester == n && r.cls == c) = some row →
    reached s.now row.expiry = true →
    let rows := s.reservations.filter (fun r => !(r.requester == n && r.cls == c))
    ∃ t, exec (.reservationExpiry n c) s = .next t
      ∧ t.reservations = rows
      ∧ t.bank = (State.markingPass { s with
          reservations := rows
          bank := { s.bank with pockets := s.bank.pockets.map (fun k =>
            if k.reservedFor = some n ∧ classIn s.records k = c then { k with reservedFor := none }
            else k) } }).bank
      ∧ marked s.records row t.bank.pockets = 0
      ∧ t.notices = (s.post .reservationEnded (num n) (parts (beBytes 2 c ++ byte 2))).notices
      ∧ t.plainPockets = s.plainPockets ∧ t.records = s.records ∧ t.line = s.line
      ∧ t.roster = s.roster ∧ t.panels = s.panels)
  ∧ (∀ (s : State) (f : RxFrame),
    let taken : Prop := (s.port.nodeState = .online ∨ s.port.nodeState = .listenOnly)
      ∧ s.config.pocketCount ≠ 0 ∧ s.doubtful f.source.toNat = false
    (¬ taken → s.takeDemand f = s)
    ∧ (taken → s.takeDemand f = s.applyDemand f.source.toNat (max 1 (min 60 (field f.payload 0 1)))
        (normalEntries (parseEntries (f.payload.drop 1))))
    ∧ (f.fieldsOk .demand = false ↔ ∃ e ∈ parseEntries (f.payload.drop 1), e.count ≠ 0 ∧ e.cls = 0)
    ∧ parseEntries [] = []
    ∧ ∀ (a b c : Byte) (rest : List Byte), parseEntries (a :: b :: c :: rest) =
        { cls := a.toNat * 256 + b.toNat, count := c.toNat } :: parseEntries rest)
  ∧ (∀ (n : Nat) (expiry : Millis) (e : DemandEntry) (rows : List Reservation),
    ((∃ r ∈ rows, r.requester = n ∧ r.cls = e.cls) →
      reserveOne n expiry rows e = (rows.map (fun r =>
        if r.requester = n ∧ r.cls = e.cls then { r with wanted := e.count, expiry := expiry } else r),
        .updated))
    ∧ ((∀ r ∈ rows, ¬ (r.requester = n ∧ r.cls = e.cls)) →
      (rows.length < 16 → reserveOne n expiry rows e = (rows ++
        [{ requester := n, cls := e.cls, wanted := e.count, expiry := expiry }], .created))
      ∧ (16 ≤ rows.length → reserveOne n expiry rows e = (rows, .skipped))))
  ∧ (∀ (s : State) (n hold : Nat) (list : List DemandEntry),
      let gone (r : Reservation) : Bool := r.requester == n && !(list.map (·.cls)).contains r.cls
      let expiry := s.now + BitVec.ofNat 32 (1000 * hold)
      let fates := list.foldl (fun (acc : List Reservation × List (DemandEntry × EntryFate)) e =>
        ((reserveOne n expiry acc.1 e).1, acc.2 ++ [(e, (reserveOne n expiry acc.1 e).2)]))
        (s.reservations.filter (fun r => !gone r), [])
      let t := s.applyDemand n hold list
      t.reservations = fates.1
      ∧ t.bank = (State.markingPass { s with
          reservations := fates.1
          bank := { s.bank with pockets := s.bank.pockets.map (fun k =>
            if ∃ r ∈ s.reservations, gone r = true ∧ k.reservedFor = some n ∧ classIn s.records k = r.cls
            then { k with reservedFor := none } else k) } }).bank
      ∧ t.notices = (fates.2.foldl (fun u x => match x.2 with
          | .updated => u
          | .created => u.post .reservationAdded (num n) (parts (beBytes 2 x.1.cls ++ byte x.1.count
              ++ byte (t.bank.pockets.countP (fun k =>
                k.reservedFor = some n ∧ classIn s.records k = x.1.cls))))
          | .skipped => u.post .reservationFull (num n) (parts (beBytes 2 x.1.cls ++ byte x.1.count)))
        ((s.reservations.filter gone).foldl (fun u r =>
          u.post .reservationEnded (num n) (parts (beBytes 2 r.cls ++ byte 1))) s)).notices
      ∧ t = { s with reservations := t.reservations, bank := t.bank, notices := t.notices })
  ∧ (∀ (s : State) (n hold : Nat) (list : List DemandEntry), s.reservations.length ≤ 16 →
      (s.applyDemand n hold list).reservations.length ≤ 16
      ∧ (∀ r ∈ (s.applyDemand n hold list).reservations, r.requester = n →
          r.cls ∈ list.map (·.cls))
      ∧ (s.applyDemand n hold list).reservations.filter (fun r => r.requester != n)
          = s.reservations.filter (fun r => r.requester != n)
      ∧ (s.applyDemand n hold list).plainPockets = s.plainPockets
      ∧ (s.applyDemand n hold list).records = s.records)

/-! ### Hall line -/

/-- A frame offered outside ONLINE is lost; one offered to a queue of fewer than 8 frames joins behind every
frame of its own class and of lower class numbers; at a full queue the candidate, the youngest frame of the
largest class that is not in transmission, leaves and the offered frame joins at its place where the candidate's
class number is larger, otherwise the offered frame is discarded and the queue stays, TX_DISCARDED telling which; on
an idle line an attempt starts with the head (R28, R29, R33, R34).
That TX_DISCARDED has the frame's destination as its object, and in its argument the kind code, the class and the
cause QUEUE_FULL (2), the class in 2 bytes, which is the model's reading (R34, log 12). -/
def Obligations.OfferedFramesJoinTheQueue : Prop :=
  (∀ (s : State) (g : TxFrame), s.postDiscarded g .queueFull =
    s.post .txDiscarded (BitVec.ofNat 32 g.destination) (BitVec.ofNat 32 (match g.kind with
      | .accept => 0x01000002 | .decline => 0x02000002 | .here => 0x03000002 | .checkReply => 0x04000002
      | .call => 0x05000102 | .offer => 0x06000102 | .check => 0x07000102
      | .demand => 0x08000202 | .presence => 0x09000302)))
  ∧ ∀ (s : State) (f : TxFrame), f.sending = false →
    let joins (others : List TxFrame) (told : State → State) : Prop := ∃ front back, others = front ++ back
      ∧ (∀ g ∈ front, g.kind.cls ≤ f.kind.cls) ∧ (∀ g ∈ back, f.kind.cls < g.kind.cls)
      ∧ (s.line.condition ≠ .idle ∨ s.line.driverDisabled = true ∨ (∃ g ∈ others, g.sending = true) →
        s.offerFrame f = told { s with line := { s.line with txQueue := front ++ f :: back } })
      ∧ (s.line.condition = .idle → s.line.driverDisabled = false → (∀ g ∈ others, g.sending = false) →
        s.offerFrame f = told { s with line := { s.line with
          condition := .transmitting
          receiver := .assembling
          txQueue := (match front ++ f :: back with
            | [] => []
            | g :: rest => { g with sending := true } :: rest) } })
    (s.port.nodeState ≠ .online → s.offerFrame f = s)
    ∧ (s.port.nodeState = .online → s.line.Ordered → s.line.txQueue.length < 8 →
      joins s.line.txQueue (fun t => t))
    ∧ (s.port.nodeState = .online → s.line.Ordered → 8 ≤ s.line.txQueue.length →
      (∀ front c back, s.line.txQueue = front ++ c :: back → c.sending = false →
        (∀ g ∈ back, g.sending = true) →
        (f.kind.cls < c.kind.cls → joins (front ++ back) (fun t => t.postDiscarded c .queueFull))
        ∧ (c.kind.cls ≤ f.kind.cls → s.offerFrame f = s.postDiscarded f .queueFull))
      ∧ ((∀ g ∈ s.line.txQueue, g.sending = true) → s.offerFrame f = s.postDiscarded f .queueFull))

/-- The line condition: 8 recessive cells end RECEIVING and TRANSMITTING and start the attempt that waits; an
edge on an IDLE line makes it RECEIVING; a start mark opens a frame; a framing error drops the one being
assembled; a held line is reported, and with it the node's own asserting driver, which is disabled, the node
entering LISTEN_ONLY with its queue empty; a release is reported with the whole milliseconds of the hold, and
the roster of an ONLINE node offers a PRESENCE (R26, R29, R36, R40 to R42, R44, R52). The object 0 of LINE_HELD,
DRIVER_FAULT and LINE_RELEASED is the model's choice (log 24), and so is RECEIVING at a start mark on an IDLE
line (log 21). -/
def Obligations.LineConditions : Prop :=
  ∀ s : State,
    (s.line.attempting = false → s.line.condition = .receiving ∨ s.line.condition = .transmitting →
      exec .lineIdle s = .next (State.startAttempt { s with line := { s.line with
        condition := .idle, receiver := .waiting } }))
    ∧ (s.line.receiver ≠ .stopped → s.line.condition = .idle →
      exec .dominantEdge s = .next { s with line := { s.line with condition := .receiving } })
    ∧ (∀ width, s.line.receiver ≠ .stopped → s.line.condition ≠ .held → s.line.attempting = false →
      s.config.lineRate ≤ 3 → 3 * cellNs s.config.lineRate ≤ 2 * width → width ≤ 2 * cellNs s.config.lineRate →
      exec (.startMarkRead width) s = .next { s with line := { s.line with
        receiver := .assembling
        condition := if s.line.condition = .idle then .receiving else s.line.condition } })
    ∧ (∀ cause, s.line.receiver = .assembling → s.line.attempting = false →
      isFramingError (cellNs s.config.lineRate) cause = true →
      exec (.framingError cause) s = .next { s with line := { s.line with receiver := .waiting } })
    ∧ (∀ start, s.line.receiver ≠ .stopped → s.line.condition ≠ .held → s.line.attempting = false →
      let held : State := State.post { s with line := { s.line with
        condition := .held, receiver := .waiting, heldSince := some start } } .lineHeld 0 0
      exec (.lineHeld start false) s = .next held
      ∧ exec (.lineHeld start true) s = .next (let t := held.post .driverFault 0 0
          { t with
            line := { t.line with driverDisabled := true, txQueue := [] }
            roster := { t.roster with beacon := none }
            port := { t.port with nodeState := .listenOnly, listenDeadline := none } }))
    ∧ (∀ start stop, s.line.condition = .held → s.line.heldSince = some start →
      let free : State := State.post { s with line := { s.line with
        condition := .idle, receiver := .waiting, heldSince := none } } .lineReleased 0
        (num ((stop - start) / 1000000))
      (s.port.nodeState ≠ .online → exec (.lineReleased stop) s = .next free)
      ∧ (s.port.nodeState = .online →
          exec (.lineReleased stop) s = .next free.offerPresence.startAttempt))
    ∧ (s.line.condition = .held → exec .dominantEdge s = .next s ∧ exec .lineIdle s = .next s
        ∧ ∀ start b, exec (.lineHeld start b) s = .next s)

/-- The ends of an attempt with one frame in transmission: lost arbitration keeps the frame at its place with
its count, a waiting replacement taking effect; a bit error counts, and the eighth discards the frame with
TX_DISCARDED; a frame sent leaves the queue and, as the run's DEMAND, counts a cycle, the target ending the run
with DEMAND_DONE; a frame whose removal waits leaves the queue (R30 to R32, R35, R163); that it does so at the
eighth bit error without TX_DISCARDED is the model's choice (log 20).
A PRESENCE, or the DEMAND of a run still RUNNING, whose replacement waits to be offered anew is offered anew
when its frame is sent or discarded, a DEMAND's report taken first (R52, R162); after the eighth bit error that
is the model's choice (log 20), and that the beacon deadline moves again too (log 19).
The frame that the node drives in the attempt is the frame in transmission with the node's station number as its
source, and it is the frame that has been sent when the attempt completes (R27, R32, R183); the field that keeps it
is the model's own (log 8).
The TX_DISCARDED of the eighth bit error has the frame's destination as its object, and in its argument the kind code,
the class and the cause BIT_ERRORS (1), the class in 2 bytes, which is the model's reading (R31, R34, log 12). -/
def Obligations.AttemptEnds : Prop :=
  (∀ (s : State) (g : TxFrame), s.postDiscarded g .bitErrors =
    s.post .txDiscarded (BitVec.ofNat 32 g.destination) (BitVec.ofNat 32 (match g.kind with
      | .accept => 0x01000001 | .decline => 0x02000001 | .here => 0x03000001 | .checkReply => 0x04000001
      | .call => 0x05000101 | .offer => 0x06000101 | .check => 0x07000101
      | .demand => 0x08000201 | .presence => 0x09000301)))
  ∧ ∀ (s : State) (front back : List TxFrame) (f : TxFrame), s.line.txQueue = front ++ f :: back →
    f.sending = true → (∀ g ∈ front ++ back, g.sending = false) →
    let again (n : Nat) : TxFrame := { f with
      sending := false, payload := f.replacement.getD f.payload, replacement := none, reoffer := false
      bitErrors := n }
    let queue (l : List TxFrame) (c : LineCondition) (r : Receiver) : State := { s with line := { s.line with
      txQueue := l, condition := c, receiver := r } }
    let onWire (t : State) : State :=
      { t with line.lastSent := some (wireFrame s.port.station f) }
    let demand : TxFrame :=
      newFrame .demand 63 (demandPayload s.demand.hold s.demand.list) .demandRun
    s.driven = some (wireFrame s.port.station f) ∧ (wireFrame s.port.station f).source = s.port.station
    ∧ (f.removeAfter = false → exec .arbitrationLost s =
        .next (queue (front ++ again f.bitErrors :: back) .receiving s.line.receiver))
    ∧ (f.removeAfter = true → exec .arbitrationLost s =
        .next (queue (front ++ back) .receiving s.line.receiver))
    ∧ (∀ mark : Bool, let r := if mark then Receiver.assembling else .waiting
      (f.removeAfter = true → exec (.bitError mark) s = .next (queue (front ++ back) .receiving r))
      ∧ (f.removeAfter = false → f.bitErrors + 1 < 8 → exec (.bitError mark) s =
          .next (queue (front ++ again (f.bitErrors + 1) :: back) .receiving r))
      ∧ (f.removeAfter = false → 8 ≤ f.bitErrors + 1 → f.reoffer = false →
          exec (.bitError mark) s = .next ((queue (front ++ back) .receiving r).postDiscarded f
            .bitErrors))
      ∧ (f.removeAfter = false → 8 ≤ f.bitErrors + 1 → f.reoffer = true →
        let lost := (queue (front ++ back) .receiving r).postDiscarded f .bitErrors
        (f.owner = .presence → s.port.nodeState = .online →
          exec (.bitError mark) s = .next lost.offerPresence)
        ∧ (f.owner = .demandRun → s.demand.running = true →
          exec (.bitError mark) s = .next (lost.offerFrame demand))))
    ∧ (f.reoffer = false →
      let sent : State := onWire (queue (front ++ back) s.line.condition .waiting)
      (f.owner ≠ .demandRun ∨ s.demand.running = false → exec .frameSent s = .next sent)
      ∧ (f.owner = .demandRun → s.demand.running = true →
        let n := min 255 (s.demand.cycles + 1)
        (s.demand.target = 0 ∨ n < s.demand.target →
          exec .frameSent s = .next { sent with demand := { s.demand with cycles := n } })
        ∧ (0 < s.demand.target → s.demand.target ≤ n →
          exec .frameSent s = .next (State.post { sent with demand := { s.demand with
            cycles := n, running := false, deadline := none } } .demandDone 0 (num n)))))
    ∧ (f.reoffer = true →
      let sent : State := onWire (queue (front ++ back) s.line.condition .waiting)
      (f.owner = .presence → s.port.nodeState = .online → exec .frameSent s = .next sent.offerPresence)
      ∧ (f.owner = .demandRun → s.demand.running = true →
        let n := min 255 (s.demand.cycles + 1)
        (s.demand.target = 0 ∨ n < s.demand.target →
          exec .frameSent s = .next (State.offerFrame { sent with demand := { s.demand with
            cycles := n } } demand))
        ∧ (0 < s.demand.target → s.demand.target ≤ n →
          exec .frameSent s = .next (State.post { sent with demand := { s.demand with
            cycles := n, running := false, deadline := none } } .demandDone 0 (num n)))))

/-- A whole frame read: a bad CRC drops it, so does source 0 or 63; the node's own source is a duplicate
station, told once, and puts the node in LISTEN_ONLY; in CONFIGURED every other valid frame is dropped; in
LISTENING, ONLINE and LISTEN_ONLY it joins a receive queue of fewer than 4 or sets RX_OVERRUN (R37, R38, R43,
R44). The frame that a node of a given station drives for a queued frame has its class, kind, destination, length and
payload, the station as its source, and a CRC that matches (R27, R183, R189). The object 0 of DUPLICATE_STATION is
the model's choice (log 24). -/
def Obligations.FramesReceived : Prop :=
  (∀ (f : WireFrame) (s : State), s.line.receiver = .assembling → s.line.attempting = false →
    f.length.toNat ≤ 56 → f.payload.length = f.length.toNat →
    let read : State := { s with line := { s.line with receiver := .waiting } }
    (crc16 (frameBits f) ≠ f.crc → exec (.frameReceived f) s = .next read)
    ∧ (crc16 (frameBits f) = f.crc →
      (f.source = 0 ∨ f.source = 63 → exec (.frameReceived f) s = .next read)
      ∧ (f.source ≠ 0 → f.source ≠ 63 → f.source = s.port.station →
        (s.line.duplicateSeen = true → exec (.frameReceived f) s = .next read)
        ∧ (s.line.duplicateSeen = false → ∃ t, exec (.frameReceived f) s = .next t
          ∧ t.port.nodeState = .listenOnly ∧ t.port.listenDeadline = none
          ∧ t.line = { s.line with receiver := .waiting, duplicateSeen := true, txQueue := [] }
          ∧ t.roster = { s.roster with beacon := none }
          ∧ t.notices = (s.post .duplicateStation 0 (num f.kind.toNat)).notices
          ∧ t.records = s.records ∧ t.custody = s.custody ∧ t.demand = s.demand))
      ∧ (f.source ≠ 0 → f.source ≠ 63 → f.source ≠ s.port.station →
        (s.port.nodeState = .configured → exec (.frameReceived f) s = .next read)
        ∧ (s.port.nodeState ≠ .configured → s.line.rxQueue.length < 4 →
          exec (.frameReceived f) s = .next { s with line := { s.line with
            receiver := .waiting
            rxQueue := s.line.rxQueue ++ [{ cls := f.cls, kind := f.kind, source := f.source
                                            destination := f.destination, payload := f.payload }] } })
        ∧ (s.port.nodeState ≠ .configured → 4 ≤ s.line.rxQueue.length →
          exec (.frameReceived f) s = .next { s with line := { s.line with
            receiver := .waiting, rxOverrun := true } }))))
  ∧ (∀ (station : BitVec 6) (g : TxFrame), crcOk (wireFrame station g) = true
      ∧ (wireFrame station g).cls.toNat = g.kind.cls ∧ (wireFrame station g).kind.toNat = g.kind.code
      ∧ (wireFrame station g).source = station ∧ (wireFrame station g).payload = g.payload
      ∧ (g.destination ≤ 63 → (wireFrame station g).destination.toNat = g.destination)
      ∧ (g.payload.length ≤ 56 → (wireFrame station g).length.toNat = g.payload.length))

/-! ### Roster -/

/-- Delivery of the oldest received frame: a malformed one is heard and struck; a well-formed one is heard,
judged clean or, where it is addressed here and a field is out of range, struck; addressed here and in range it
goes to its consumer; the frame leaves the receive queue (R39, R47, R49, R63). -/
def Obligations.DeliveriesReachTheirConsumers : Prop :=
  ∀ (s : State) (f : RxFrame) (rest : List RxFrame), s.line.rxQueue = f :: rest →
    let n := f.source.toNat
    let taken : State := { s with line := { s.line with rxQueue := rest } }
    let mine : Prop := f.destination = 63 ∨ f.destination = s.port.station
    (f.form = none → exec .malformedFrame s = .next ((taken.hear n none).strike n f.kind.toNat))
    ∧ (∀ k, f.form = some k ↔ f.kind.toNat = k.code ∧ f.cls.toNat = k.cls
        ∧ k.lengthOk f.payload.length = true ∧ k.destinationOk f.destination.toNat = true)
    ∧ (∀ (k : FrameKind) (c : Instr) (act : State → State),
      (k, c, act) ∈ ([
        (.call, .call, fun t => t.takeCall f), (.offer, .offer, fun t => t.takeOffer f),
        (.accept, .accept, fun t => t.applyAccept n (toolAt f.payload) (byteAt f.payload 4)),
        (.decline, .decline, fun t => t.applyDecline n (toolAt f.payload) (byteAt f.payload 4)
          (field f.payload 5 1)),
        (.here, .here, fun t => t.applyHere n (toolAt f.payload) (field f.payload 4 1)),
        (.check, .check, fun t => t.takeCheck f),
        (.checkReply, .checkReply, fun t => t.applyCheckReply n (toolAt f.payload)
          (byteAt f.payload 4) (field f.payload 5 1)),
        (.demand, .demand, fun t => t.takeDemand f)] :
          List (FrameKind × Instr × (State → State))) →
      f.form = some k →
      (¬ mine → exec c s = .next ((taken.hear n none).clean n))
      ∧ (mine → f.fieldsOk k = false → exec c s = .next ((taken.hear n none).strike n k.code))
      ∧ (mine → f.fieldsOk k = true → exec c s = .next (act ((taken.hear n none).clean n))))
    ∧ (f.form = some .presence →
      let a := parsePresence f.payload
      (48 < a.pockets ∨ 64 < a.slots →
        exec .presence s = .next ((taken.hear n none).strike n 9))
      ∧ (a.pockets ≤ 48 → a.slots ≤ 64 →
        exec .presence s = .next (((taken.hear n (some a)).clean n).presenceReport n)))

/-- The roster's entry of a station it hears: PRESENT, last heard now, the deadline three beacon intervals on, a
new or returned peer told by PEER_PRESENT and cleared of doubt when it was ABSENT; a strike counts to 3 and then
sets DOUBTFUL once; a clean frame clears the count; an absence deadline makes the entry ABSENT, lapses the
offers to the station and deletes its reservations with their marks, the pass following; behind PEER_ABSENT stand, in
slot order, RECORD_CHANGED and RECORD_IN_DOUBT with the cause ABSENT for each lapsed offer, then, in table order,
RESERVATION_ENDED with the cause ABSENT for each deleted row (R47 to R49, R72, R172). That PEER_PRESENT shows the
functions as the frame leaves them is the model's choice (log 14). -/
def Obligations.RosterEntries : Prop :=
  ∀ (s : State) (n : Nat) (p : Peer), s.peer? n = some p →
    (∀ a : Option Announced,
      let ann := if a = none then p.announced else a
      let q : Peer := { p with
        state := .present, announced := ann, lastHeard := s.now
        absence := some (s.now + BitVec.ofNat 32 (3 * (match ann with
          | some x => 250 * 2 ^ x.beaconCode
          | none => 2000))) }
      (p.state = .present → s.hear n a = s.setPeer n (fun _ => q))
      ∧ (p.state = .unknown → s.hear n a = (s.setPeer n (fun _ => q)).post .peerPresent (num n)
          (parts (functionsBytes ann)))
      ∧ (p.state = .absent → s.hear n a =
          (s.setPeer n (fun _ => { q with strikes := 0, doubtful := false })).post .peerPresent (num n)
            (parts (functionsBytes ann))))
    ∧ (∀ kind, (p.strikes < 2 → s.strike n kind =
          s.setPeer n (fun _ => { p with strikes := p.strikes + 1 }))
      ∧ (2 ≤ p.strikes → p.doubtful = true → s.strike n kind =
          s.setPeer n (fun _ => { p with strikes := 3 }))
      ∧ (2 ≤ p.strikes → p.doubtful = false → s.strike n kind =
          (s.setPeer n (fun _ => { p with strikes := 3, doubtful := true })).post .peerDoubtful (num n)
            (num (if kind ≤ 9 then kind else 0))))
    ∧ s.clean n = s.setPeer n (fun _ => { p with strikes := 0 })
    ∧ (∀ d, p.state = .present → p.absence = some d → reached s.now d = true → s.Sized →
      ∃ t, exec (.peerAbsent n) s = .next t
        ∧ t.peer? n = some { p with state := .absent, absence := none }
        ∧ (∀ m, m ≠ n → t.peer? m = s.peer? m)
        ∧ (∀ o, some o ∈ t.custody.outs → some o ∈ s.custody.outs ∧ o.caller ≠ n)
        ∧ (∀ o, some o ∈ s.custody.outs → o.caller ≠ n → some o ∈ t.custody.outs)
        ∧ (∀ r ∈ s.records, ∀ o, some o ∈ s.custody.outs → o.caller = n → o.tool = r.image.toolId →
            ∀ c q, r.state = .outbound c q → { r with state := .inDoubt c q none } ∈ t.records)
        ∧ t.reservations = s.reservations.filter (fun row => row.requester != n)
        ∧ t.plainPockets = s.plainPockets
        ∧ t.bank = (State.markingPass { s with
            records := t.records
            reservations := t.reservations
            bank := { s.bank with pockets := s.bank.pockets.map (fun k =>
              if k.reservedFor = some n ∧ ∃ row ∈ s.reservations, row.requester = n ∧ classIn s.records k = row.cls
              then { k with reservedFor := none } else k) } }).bank
        ∧ (s.RecordLaw → s.OfferLaw → t.notices = ((s.reservations.filter (fun row => row.requester == n)).foldl
            (fun u row => u.post .reservationEnded (num n) (parts (beBytes 2 row.cls ++ byte 3)))
            (postLapses 2 ((s.custody.outs.filterMap id).filter (fun o => o.caller == n))
              (s.post .peerAbsent (num n) p.lastHeard))).notices)
        ∧ ((∀ o, some o ∈ s.custody.outs → o.caller ≠ n) → t.records = s.records
          ∧ (t.reservations = s.reservations →
            t.notices = (s.post .peerAbsent (num n) p.lastHeard).notices)))

/-- The end of the listening period makes the node ONLINE, posts NODE_ONLINE and offers the first PRESENCE; a beacon
deadline offers the next; each offer moves the beacon deadline by the configured interval and refreshes a PRESENCE
still queued (R52, R54). A PRESENCE of a counterpart starts a check of each of its IN_DOUBT records with none
outstanding: CHECK with the tool id and the handoff number is handed over to it, in row order, and the check is
outstanding for 60 ms; outside ONLINE none starts (R79). -/
def Obligations.BeaconsAndChecks : Prop :=
  ∀ s : State,
    (∀ d, s.port.nodeState = .listening → s.port.listenDeadline = some d → reached s.now d = true →
      exec .nodeOnline s = .next (State.offerPresence (State.post
        { s with port := { s.port with nodeState := .online, listenDeadline := none } } .nodeOnline
        (num s.port.station.toNat) (num s.line.condition.code))))
    ∧ (∀ d, s.port.nodeState = .online → s.roster.beacon = some d → reached s.now d = true →
      exec .beaconExpiry s = .next s.offerPresence)
    ∧ (let moved : State := { s with roster := { s.roster with
          beacon := some (s.now + BitVec.ofNat 32 (250 * 2 ^ s.config.beaconCode)) } }
       let payload := byte s.config.pocketCount ++ byte s.config.slotCount
         ++ byte ((if s.config.head then 128 else 0) + s.config.beaconCode % 4)
       (s.line.queuedFor .presence = false →
          s.offerPresence = moved.offerFrame (newFrame .presence 63 payload .presence))
       ∧ (s.line.queuedFor .presence = true →
          s.offerPresence = moved.replaceFrame .presence payload true))
    ∧ (∀ n, s.port.nodeState ≠ .online → s.presenceReport n = s)
    ∧ (∀ n, s.port.nodeState = .online → (s.records.map (·.image.toolId)).Nodup →
      (s.presenceReport n).records = s.records.map (fun r => { r with state := (match r.state with
        | .inDoubt c p none =>
          if c.counterpart = n then .inDoubt c p (some (s.now + 60)) else r.state
        | st => st) })
      ∧ (s.presenceReport n).custody = s.custody ∧ (s.presenceReport n).bank = s.bank
      ∧ (s.presenceReport n).roster = s.roster
      ∧ (let offered := s.records.foldl (fun u r => match r.state with
          | .inDoubt c _ none => if c.counterpart = n then u.offerFrame (newFrame .check n
              (wordBytes r.image.toolId ++ [c.handoff]) (.check r.image.toolId)) else u
          | _ => u) s
        (s.presenceReport n).line = offered.line ∧ (s.presenceReport n).notices = offered.notices))

/-! ### Custody engine -/

/-- The answer to a CALL for a tool held here, while ONLINE: HERE(PEER_DOUBTFUL) to a DOUBTFUL caller, else by the
record's state; a LOOSE or MISSING record is offered through the lowest free outbound slot with the next handoff
number, RECORD_CHANGED before the OFFER, or answered HERE(NO_SLOT); no answer for a tool not held, for an offer to the
same caller, or outside ONLINE (R63, R69, R70, R61). -/
def Obligations.CallAnswers : Prop :=
  ∀ (s : State) (f : RxFrame),
    let n := f.source.toNat
    let tool := toolAt f.payload
    let here (code : Nat) : State :=
      s.offerFrame (newFrame .here n (wordBytes tool ++ byte code) .nobody)
    (s.port.nodeState ≠ .online → s.takeCall f = s)
    ∧ (s.find tool = none → s.takeCall f = s)
    ∧ (∀ r, s.port.nodeState = .online → s.find tool = some r →
      (s.doubtful n = true → s.takeCall f = here 5)
      ∧ (s.doubtful n = false →
        (r.state = .seated ∨ (∃ p, r.state = .stocked p) ∨ (∃ m, r.state = .loaded m) →
          s.takeCall f = (here 1).post .calledWhilePlaced tool (num n))
        ∧ (r.state = .measuring → s.takeCall f = here 2)
        ∧ (∀ c p, r.state = .outbound c p →
          (c.counterpart = n → s.takeCall f = s) ∧ (c.counterpart ≠ n → s.takeCall f = here 3))
        ∧ (∀ c p d, r.state = .inDoubt c p d → s.takeCall f = here 4)
        ∧ (∀ prior, r.state = .loose ∧ prior = .loose ∨ r.state = .missing ∧ prior = .missing →
          ((∀ o ∈ s.custody.outs, o ≠ none) → s.takeCall f = here 6)
          ∧ (∀ i, s.custody.outs[i]? = some none → (∀ j, j < i → s.custody.outs[j]? ≠ some none) →
            s.takeCall f = State.offerFrame (State.post { s with
                custody := { s.custody with
                  outs := s.custody.outs.set i (some
                    { tool := tool, caller := n, handoff := s.custody.handoff, tries := 1
                      deadline := s.now + 60 })
                  handoff := s.custody.handoff + 1 }
                records := s.records.map (fun q => if q.image.toolId = tool then { q with
                  state := .outbound { counterpart := n, handoff := s.custody.handoff } prior }
                  else q) } .recordChanged tool (parts (byte 7 ++ byte 0 ++ byte 0)))
              (newFrame .offer n (s.custody.handoff :: imageBytes r.image) (.offer (i + 1)))))))

/-- The decision on an OFFER: an accepted triple is accepted again with no other change; a DOUBTFUL sender is
declined and blocks the open call; an open call takes the record into its place, or declines an unfit one for a
slot; without a call ALREADY_HELD or NOT_CALLED answers; the taken record stands at the end of the row order,
the triple in the accepted list, ACCEPT is handed over, the call closes TAKEN and RECORD_ARRIVED precedes
CALL_DONE; an arrival in a slot lowers its class in the demand list, with DEMAND_MET (R73 to R75, R60, R165).
That an ACCEPT or a DECLINE is handed over before the close removes a queued CALL is the model's choice (log
22).
An OFFER frame is decided on only while ONLINE, with the handoff number of its first byte and the image behind
it, its verdict brought into agreement with its nominal data (R63, R7). -/
def Obligations.OfferDecisions : Prop :=
  (∀ (s : State) (f : RxFrame),
    (s.port.nodeState ≠ .online → s.takeOffer f = s)
    ∧ (s.port.nodeState = .online → s.takeOffer f =
        s.decideOffer f.source.toNat (byteAt f.payload 0) (parseImage (f.payload.drop 1)).lineIntake))
  ∧ (∀ raw : RawImage,
    (raw.block = none → raw.lineIntake = { raw.base with measured := none })
    ∧ (∀ b, raw.block = some b → ∃ v : Verdict,
      let far : Prop := raw.base.lengthTol < absDiff b.length raw.base.nomLength
        ∨ raw.base.radiusTol < absDiff b.radius raw.base.nomRadius
      raw.lineIntake = { raw.base with measured := some {
          length := b.length, radius := b.radius, runout := b.runout, verdict := v, station := b.station
          temperature := b.temperature, kept := b.kept, lifeAtMeasure := b.lifeAtMeasure } }
      ∧ (b.verdictCode = 0 → raw.base.runoutLimit < b.runout → v = .runoutHigh)
      ∧ (b.verdictCode = 0 → b.runout ≤ raw.base.runoutLimit → far → v = .outOfBand)
      ∧ (b.verdictCode = 0 → b.runout ≤ raw.base.runoutLimit → ¬ far → v = .within)
      ∧ (b.verdictCode = 1 → v = .outOfBand) ∧ (b.verdictCode = 2 → v = .runoutHigh)
      ∧ (b.verdictCode = 3 → v = .clamped)))
  ∧ ∀ (s : State) (n : Nat) (h : Byte) (image : Image),
    let tool := image.toolId
    let triple : Accepted := { source := n, handoff := h, tool := tool }
    let accept : State :=
      s.offerFrame (newFrame .accept n (wordBytes tool ++ [h]) .nobody)
    let decline (code : Nat) : State :=
      s.offerFrame (newFrame .decline n (wordBytes tool ++ [h] ++ byte code) .nobody)
    (triple ∈ s.custody.accepted → s.decideOffer n h image = accept)
    ∧ (triple ∉ s.custody.accepted →
      (s.doubtful n = true →
        (s.callFor tool = none → s.decideOffer n h image = decline 1)
        ∧ (∀ i, s.callFor tool = some i →
          s.decideOffer n h image = (decline 1).closeCall i (.blocked .peerDoubtful) n))
      ∧ (s.doubtful n = false →
        (s.callFor tool = none → s.find tool = none → s.decideOffer n h image = decline 4)
        ∧ (s.callFor tool = none → s.find tool ≠ none → s.decideOffer n h image =
          (decline 3).post .duplicateCustody tool (parts (byte n ++ byte 6)))
        ∧ (∀ i c, s.callFor tool = some i → s.call? i = some c →
          (∀ m, c.purpose = .slot m → image.fit = false →
            s.decideOffer n h image = (decline 2).closeCall i (.blocked .notFit) n)
          ∧ ((∀ m, c.purpose = .slot m → image.fit = true) →
            let t := s.decideOffer n h image
            t.records = s.records ++ [{ image := image, state := (match c.purpose with
                | .pocket p => .stocked p
                | .slot m => .loaded m
                | .head => .seated) }]
            ∧ t.custody.accepted = (if s.custody.accepted.length < 16 then s.custody.accepted
                else s.custody.accepted.drop 1) ++ [triple]
            ∧ t.custody.calls = s.custody.calls.set i none
            ∧ t.custody.outs = s.custody.outs ∧ t.custody.handoff = s.custody.handoff
            ∧ (∀ p k, c.purpose = .pocket p → s.pocket? p = some k →
                ∃ m, t.pocket? p = some { k with occupancy := .held tool, reservedFor := m })
            ∧ (∀ m, c.purpose = .slot m → s.slot? m ≠ none → t.slot? m = some (.loaded tool))
            ∧ (c.purpose = .head → t.bank = s.bank ∧ t.magazine = s.magazine)
            ∧ t.roster = s.roster ∧ t.head = s.head ∧ t.panels = s.panels
            ∧ ((∀ m, c.purpose = .slot m → ∀ e ∈ s.demand.list, e.cls ≠ image.cls) →
              t.line = (accept.removeFrames (.call (i + 1))).line ∧ t.demand = s.demand)
            ∧ (∀ m e, c.purpose = .slot m → s.demand.list.find? (·.cls == image.cls) = some e →
              let lowered := s.demand.list.filterMap (fun x => if x.cls = image.cls then
                (if x.count ≤ 1 then none else some { x with count := x.count - 1 }) else some x)
              t.line = ((accept.removeFrames (.call (i + 1))).replaceFrame .demandRun
                (demandPayload s.demand.hold lowered) false).line
              ∧ t.demand = { s.demand with list := lowered }
              ∧ (s.port.nodeState = .online → s.line.txQueue.length < 8 →
                t.notices = (((s.post .recordArrived tool (num n)).post .callDone tool
                  (parts (byte 1 ++ byte n ++ byte 0))).post .demandMet tool
                    (parts (beBytes 2 image.cls ++ byte (e.count - 1)))).notices))
            ∧ (s.port.nodeState = .online → s.line.txQueue.length < 8 →
              ∃ g ∈ t.line.txQueue, g.kind = .accept ∧ g.destination = n ∧ g.payload = wordBytes tool ++ [h])
            ∧ (s.port.nodeState = .online → s.line.txQueue.length < 8 →
              (∀ m, c.purpose = .slot m → ∀ e ∈ s.demand.list, e.cls ≠ image.cls) →
              t.notices = ((s.post .recordArrived tool (num n)).post .callDone tool
                (parts (byte 1 ++ byte n ++ byte 0))).notices)))))

/-- The replies: a matching ACCEPT removes the record, from its busy outbound slot or from doubt, and one that
matches nothing posts LATE_ACCEPT; a matching DECLINE returns it to its prior state with OFFER_DECLINED; a HERE
closes the call BLOCKED or notes the busy station; a CHECK is answered HOLDING, PASSED or UNKNOWN; a CHECK_REPLY
to an outstanding check removes the record or returns it to its prior state, with DOUBT_SETTLED (R67, R76, R77,
R81, R82).
The BLOCKED closing of a call, by a HERE or by a DECLINE of this node: the slot is free, its waiting CALL leaves the
transmit queue, CALL_DONE carries the outcome 3 with the station and the reason, a purpose slot of the magazine is
REFUSED with that cause, and every other place and record stays (R65). -/
def Obligations.RepliesSettle : Prop :=
  ∀ (s : State) (n : Nat) (tool : ToolId) (h : Byte),
    let gone (t : State) : State := State.post (State.removeFrames { t with
      records := t.records.filter (fun q => q.image.toolId != tool) } (.check tool))
      .recordDeparted tool (num n)
    let returned (t : State) (st : RecordState) : State := State.post (State.removeFrames { t with
      records := t.records.map (fun q => if q.image.toolId = tool then { q with state := st } else q) }
      (.check tool)) .recordChanged tool (parts (byte st.code ++ byte 0 ++ byte 0))
    (∀ i, s.outFor tool n h = some i →
      s.applyAccept n tool h = gone (s.freeOut i)
      ∧ ∀ r c p reason, s.find tool = some r → r.state = .outbound c p →
        let t := (returned (s.freeOut i) p.toState).post .offerDeclined tool (parts (byte n ++ byte reason))
        s.applyDecline n tool h reason =
          if reason = 3 then t.post .duplicateCustody tool (parts (byte n ++ byte 2)) else t)
    ∧ (s.outFor tool n h = none →
      (∀ r c p d, s.find tool = some r → r.state = .inDoubt c p d → c.counterpart = n → c.handoff = h →
        s.applyAccept n tool h = gone s
        ∧ (∀ reason, let t := (returned s p.toState).post .offerDeclined tool (parts (byte n ++ byte reason))
          s.applyDecline n tool h reason =
            if reason = 3 then t.post .duplicateCustody tool (parts (byte n ++ byte 2)) else t)
        ∧ (∀ answer, (d = none → s.applyCheckReply n tool h answer = s)
          ∧ (d ≠ none → answer = 3 → s.applyCheckReply n tool h answer =
              (returned s p.toState).post .doubtSettled tool (parts (byte n ++ byte answer)))
          ∧ (d ≠ none → answer ≠ 3 → s.applyCheckReply n tool h answer =
              (gone s).post .doubtSettled tool (parts (byte n ++ byte answer)))))
      ∧ (s.doubtful? tool n h = false →
        s.applyAccept n tool h = s.post .lateAccept tool (parts (byte n ++ [h]))
        ∧ ∀ reason, s.applyDecline n tool h reason = s ∧ s.applyCheckReply n tool h reason = s))
    ∧ (∀ i, s.callFor tool = some i →
      (∀ reason why, BlockReason.ofHere reason = some why →
        s.applyHere n tool reason = s.closeCall i (.blocked why) n)
      ∧ ∃ t, s.applyHere n tool 6 = t ∧ t.records = s.records ∧ t.line = s.line
        ∧ t.notices = s.notices ∧ ∀ c, s.call? i = some c →
          t.call? i = some { c with busyStation := some n })
    ∧ (∀ i c why, s.call? i = some c →
      let t := s.closeCall i (.blocked why) n
      let reason : Nat := match why with
        | .inPlace => 1
        | .inUse => 2
        | .inTransit => 3
        | .inDoubt => 4
        | .peerDoubtful => 5
        | .notFit => 7
      t.custody = { s.custody with calls := s.custody.calls.set i none }
      ∧ t.notices = (s.post .callDone c.tool (parts (byte 3 ++ byte n ++ byte reason))).notices
      ∧ (∀ m, t.slot? m = if c.purpose = .slot m ∧ s.slot? m ≠ none then some (.refused (.blocked why))
          else s.slot? m)
      ∧ t.line.txQueue.filter (fun g => !g.sending) =
          s.line.txQueue.filter (fun g => !g.sending && g.owner != .call (i + 1))
      ∧ t.line.txQueue.length = s.line.txQueue.length -
          s.line.txQueue.countP (fun g => !g.sending && g.owner == .call (i + 1))
      ∧ t = { s with
          custody := t.custody, notices := t.notices, magazine := t.magazine
          line := { s.line with txQueue := t.line.txQueue } })
    ∧ (∀ reason, s.callFor tool = none → (s.find tool = none → s.applyHere n tool reason = s)
      ∧ (s.find tool ≠ none → s.applyHere n tool reason =
        s.post .duplicateCustody tool (parts (byte n ++ byte 3))))
    ∧ (∀ f : RxFrame, f.source.toNat = n → toolAt f.payload = tool → byteAt f.payload 4 = h →
      (s.port.nodeState ≠ .online → s.takeCheck f = s)
      ∧ (s.port.nodeState = .online → s.takeCheck f = s.offerFrame (newFrame .checkReply n
        (wordBytes tool ++ [h] ++ byte (if s.find tool ≠ none then 1 else
          if { source := n, handoff := h, tool := tool } ∈ s.custody.accepted then 2 else 3))
        .nobody)))

/-- The waits: a call or offer whose deadline passes at tries 1 or 2 is tried again, a frame still queued standing for
the new try; at tries 3 the call closes NO_ANSWER with the busy station, and the offer lapses, its record IN_DOUBT
with RECORD_CHANGED and RECORD_IN_DOUBT; an unanswered check ends and its record stays IN_DOUBT (R62, R66, R71,
R80). -/
def Obligations.WaitExpiries : Prop :=
  ∀ (s : State) (i : Nat),
    (∀ c, s.call? i = some c → reached s.now c.deadline = true →
      (c.tries < 3 →
        let t : State := { s with custody := { s.custody with calls := s.custody.calls.set i (some
          { c with tries := c.tries + 1, deadline := s.now + 100 }) } }
        exec (.callWaitExpiry (i + 1)) s = .next (if s.line.queuedFor (.call (i + 1)) then t
          else t.offerFrame (newFrame .call 63 (callPayload c.tool c.purpose) (.call (i + 1)))))
      ∧ (3 ≤ c.tries → ∃ t, exec (.callWaitExpiry (i + 1)) s = .next t
        ∧ t.custody = { s.custody with calls := s.custody.calls.set i none }
        ∧ t.records = s.records ∧ t.bank = s.bank
        ∧ t.notices = (s.post .callDone c.tool
            (parts (byte 2 ++ byte (c.busyStation.getD 0) ++ byte 0))).notices
        ∧ (∀ m, c.purpose = .slot m → s.slot? m ≠ none → t.slot? m = some (.refused .noAnswer))
        ∧ ((∀ m, c.purpose ≠ .slot m) → t.magazine = s.magazine)))
    ∧ (∀ o r, s.out? i = some o → reached s.now o.deadline = true → s.find o.tool = some r →
      (o.tries < 3 →
        let t : State := { s with custody := { s.custody with outs := s.custody.outs.set i (some
          { o with tries := o.tries + 1, deadline := s.now + 60 }) } }
        exec (.offerWaitExpiry (i + 1)) s = .next (if s.line.queuedFor (.offer (i + 1)) then t
          else t.offerFrame (newFrame .offer o.caller (o.handoff :: imageBytes r.image)
            (.offer (i + 1)))))
      ∧ (3 ≤ o.tries → ∀ c p, r.state = .outbound c p →
        ∃ t, exec (.offerWaitExpiry (i + 1)) s = .next t
        ∧ t.custody = { s.custody with outs := s.custody.outs.set i none }
        ∧ { r with state := .inDoubt c p none } ∈ t.records
        ∧ t.records.map (·.image) = s.records.map (·.image)
        ∧ t.notices = ((s.post .recordChanged o.tool (parts (byte 8 ++ byte 0 ++ byte 0))).post
            .recordInDoubt o.tool (parts (byte o.caller ++ [o.handoff] ++ byte 1))).notices
        ∧ t.bank = s.bank ∧ t.magazine = s.magazine))
    ∧ (∀ tool r c p d, s.find tool = some r → r.state = .inDoubt c p (some d) →
      reached s.now d = true →
      exec (.checkWaitExpiry tool) s = .next (State.removeFrames { s with
        records := s.records.map (fun q => if q.image.toolId = tool then
          { q with state := .inDoubt c p none } else q) } (.check tool)))

/-- A call opens only while ONLINE, for a tool and a place with no open call, in the lowest free call slot,
while a row is free; its refusals come in this order; it reserves a row, sets tries 1 and a deadline 100 ms on,
and hands over a CALL to station 63 (R64, R3). The purpose number 0 of a CALL for the head is the model's choice
(log 13). -/
def Obligations.CallsOpen : Prop :=
  ∀ (s : State) (tool : ToolId) (why : Purpose),
    (s.port.nodeState ≠ .online → s.openCall tool why = .error .notOnline)
    ∧ (s.port.nodeState = .online →
      ((∃ c, some c ∈ s.custody.calls ∧ c.tool = tool) →
        s.openCall tool why = .error .callPending)
      ∧ ((∀ c, some c ∈ s.custody.calls → c.tool ≠ tool) →
        ((∃ c, some c ∈ s.custody.calls ∧ c.purpose = why) →
          s.openCall tool why = .error .placeConflict)
        ∧ ((∀ c, some c ∈ s.custody.calls → c.purpose ≠ why) →
          ((∀ c ∈ s.custody.calls, c ≠ none) → s.openCall tool why = .error .noCallSlot)
          ∧ (∀ i, s.custody.calls[i]? = some none → (∀ j, j < i → s.custody.calls[j]? ≠ some none) →
            (96 ≤ s.records.length + s.custody.calls.countP Option.isSome →
              s.openCall tool why = .error .tableFull)
            ∧ (s.records.length + s.custody.calls.countP Option.isSome < 96 →
              s.openCall tool why = .ok (State.offerFrame { s with custody := { s.custody with
                  calls := s.custody.calls.set i (some
                    { tool := tool, purpose := why, tries := 1, deadline := s.now + 100
                      busyStation := none }) } }
                (newFrame .call 63 (wordBytes tool ++ (match why with
                  | .pocket p => byte 1 ++ byte p
                  | .slot m => byte 2 ++ byte m
                  | .head => byte 3 ++ byte 0)) (.call (i + 1)))))))))
end

