-- ==== Sys2Proof/Laws/State.lean ====
section
/-! SUPPORT. What each named update of State leaves alone: one lemma for each field and each update, so that no
later proof unfolds a record update. -/

namespace Sys2Proof.Machine

variable (s : State)

/-! `updateRecord` changes records only. -/

@[simp] theorem State.updateRecord_pending (tool : ToolId) (f : ToolRecord → ToolRecord) :
    (s.updateRecord tool f).pending = s.pending := rfl
@[simp] theorem State.updateRecord_now (tool : ToolId) (f : ToolRecord → ToolRecord) :
    (s.updateRecord tool f).now = s.now := rfl
@[simp] theorem State.updateRecord_delay (tool : ToolId) (f : ToolRecord → ToolRecord) :
    (s.updateRecord tool f).delay = s.delay := rfl
@[simp] theorem State.updateRecord_port (tool : ToolId) (f : ToolRecord → ToolRecord) :
    (s.updateRecord tool f).port = s.port := rfl
@[simp] theorem State.updateRecord_notices (tool : ToolId) (f : ToolRecord → ToolRecord) :
    (s.updateRecord tool f).notices = s.notices := rfl
@[simp] theorem State.updateRecord_config (tool : ToolId) (f : ToolRecord → ToolRecord) :
    (s.updateRecord tool f).config = s.config := rfl
@[simp] theorem State.updateRecord_line (tool : ToolId) (f : ToolRecord → ToolRecord) :
    (s.updateRecord tool f).line = s.line := rfl
@[simp] theorem State.updateRecord_roster (tool : ToolId) (f : ToolRecord → ToolRecord) :
    (s.updateRecord tool f).roster = s.roster := rfl
@[simp] theorem State.updateRecord_custody (tool : ToolId) (f : ToolRecord → ToolRecord) :
    (s.updateRecord tool f).custody = s.custody := rfl
@[simp] theorem State.updateRecord_bank (tool : ToolId) (f : ToolRecord → ToolRecord) :
    (s.updateRecord tool f).bank = s.bank := rfl
@[simp] theorem State.updateRecord_panels (tool : ToolId) (f : ToolRecord → ToolRecord) :
    (s.updateRecord tool f).panels = s.panels := rfl
@[simp] theorem State.updateRecord_head (tool : ToolId) (f : ToolRecord → ToolRecord) :
    (s.updateRecord tool f).head = s.head := rfl
@[simp] theorem State.updateRecord_magazine (tool : ToolId) (f : ToolRecord → ToolRecord) :
    (s.updateRecord tool f).magazine = s.magazine := rfl
@[simp] theorem State.updateRecord_demand (tool : ToolId) (f : ToolRecord → ToolRecord) :
    (s.updateRecord tool f).demand = s.demand := rfl
@[simp] theorem State.updateRecord_reservations (tool : ToolId) (f : ToolRecord → ToolRecord) :
    (s.updateRecord tool f).reservations = s.reservations := rfl

/-! `setState` changes records only. -/

@[simp] theorem State.setState_pending (tool : ToolId) (st : RecordState) :
    (s.setState tool st).pending = s.pending := rfl
@[simp] theorem State.setState_now (tool : ToolId) (st : RecordState) :
    (s.setState tool st).now = s.now := rfl
@[simp] theorem State.setState_delay (tool : ToolId) (st : RecordState) :
    (s.setState tool st).delay = s.delay := rfl
@[simp] theorem State.setState_port (tool : ToolId) (st : RecordState) :
    (s.setState tool st).port = s.port := rfl
@[simp] theorem State.setState_notices (tool : ToolId) (st : RecordState) :
    (s.setState tool st).notices = s.notices := rfl
@[simp] theorem State.setState_config (tool : ToolId) (st : RecordState) :
    (s.setState tool st).config = s.config := rfl
@[simp] theorem State.setState_line (tool : ToolId) (st : RecordState) :
    (s.setState tool st).line = s.line := rfl
@[simp] theorem State.setState_roster (tool : ToolId) (st : RecordState) :
    (s.setState tool st).roster = s.roster := rfl
@[simp] theorem State.setState_custody (tool : ToolId) (st : RecordState) :
    (s.setState tool st).custody = s.custody := rfl
@[simp] theorem State.setState_bank (tool : ToolId) (st : RecordState) :
    (s.setState tool st).bank = s.bank := rfl
@[simp] theorem State.setState_panels (tool : ToolId) (st : RecordState) :
    (s.setState tool st).panels = s.panels := rfl
@[simp] theorem State.setState_head (tool : ToolId) (st : RecordState) :
    (s.setState tool st).head = s.head := rfl
@[simp] theorem State.setState_magazine (tool : ToolId) (st : RecordState) :
    (s.setState tool st).magazine = s.magazine := rfl
@[simp] theorem State.setState_demand (tool : ToolId) (st : RecordState) :
    (s.setState tool st).demand = s.demand := rfl
@[simp] theorem State.setState_reservations (tool : ToolId) (st : RecordState) :
    (s.setState tool st).reservations = s.reservations := rfl

/-! `setImage` changes records only. -/

@[simp] theorem State.setImage_pending (tool : ToolId) (f : Image → Image) :
    (s.setImage tool f).pending = s.pending := rfl
@[simp] theorem State.setImage_now (tool : ToolId) (f : Image → Image) :
    (s.setImage tool f).now = s.now := rfl
@[simp] theorem State.setImage_delay (tool : ToolId) (f : Image → Image) :
    (s.setImage tool f).delay = s.delay := rfl
@[simp] theorem State.setImage_port (tool : ToolId) (f : Image → Image) :
    (s.setImage tool f).port = s.port := rfl
@[simp] theorem State.setImage_notices (tool : ToolId) (f : Image → Image) :
    (s.setImage tool f).notices = s.notices := rfl
@[simp] theorem State.setImage_config (tool : ToolId) (f : Image → Image) :
    (s.setImage tool f).config = s.config := rfl
@[simp] theorem State.setImage_line (tool : ToolId) (f : Image → Image) :
    (s.setImage tool f).line = s.line := rfl
@[simp] theorem State.setImage_roster (tool : ToolId) (f : Image → Image) :
    (s.setImage tool f).roster = s.roster := rfl
@[simp] theorem State.setImage_custody (tool : ToolId) (f : Image → Image) :
    (s.setImage tool f).custody = s.custody := rfl
@[simp] theorem State.setImage_bank (tool : ToolId) (f : Image → Image) :
    (s.setImage tool f).bank = s.bank := rfl
@[simp] theorem State.setImage_panels (tool : ToolId) (f : Image → Image) :
    (s.setImage tool f).panels = s.panels := rfl
@[simp] theorem State.setImage_head (tool : ToolId) (f : Image → Image) :
    (s.setImage tool f).head = s.head := rfl
@[simp] theorem State.setImage_magazine (tool : ToolId) (f : Image → Image) :
    (s.setImage tool f).magazine = s.magazine := rfl
@[simp] theorem State.setImage_demand (tool : ToolId) (f : Image → Image) :
    (s.setImage tool f).demand = s.demand := rfl
@[simp] theorem State.setImage_reservations (tool : ToolId) (f : Image → Image) :
    (s.setImage tool f).reservations = s.reservations := rfl

/-! `addRecord` changes records only. -/

@[simp] theorem State.addRecord_pending (r : ToolRecord) : (s.addRecord r).pending = s.pending := rfl
@[simp] theorem State.addRecord_now (r : ToolRecord) : (s.addRecord r).now = s.now := rfl
@[simp] theorem State.addRecord_delay (r : ToolRecord) : (s.addRecord r).delay = s.delay := rfl
@[simp] theorem State.addRecord_port (r : ToolRecord) : (s.addRecord r).port = s.port := rfl
@[simp] theorem State.addRecord_notices (r : ToolRecord) : (s.addRecord r).notices = s.notices := rfl
@[simp] theorem State.addRecord_config (r : ToolRecord) : (s.addRecord r).config = s.config := rfl
@[simp] theorem State.addRecord_line (r : ToolRecord) : (s.addRecord r).line = s.line := rfl
@[simp] theorem State.addRecord_roster (r : ToolRecord) : (s.addRecord r).roster = s.roster := rfl
@[simp] theorem State.addRecord_custody (r : ToolRecord) : (s.addRecord r).custody = s.custody := rfl
@[simp] theorem State.addRecord_bank (r : ToolRecord) : (s.addRecord r).bank = s.bank := rfl
@[simp] theorem State.addRecord_panels (r : ToolRecord) : (s.addRecord r).panels = s.panels := rfl
@[simp] theorem State.addRecord_head (r : ToolRecord) : (s.addRecord r).head = s.head := rfl
@[simp] theorem State.addRecord_magazine (r : ToolRecord) : (s.addRecord r).magazine = s.magazine := rfl
@[simp] theorem State.addRecord_demand (r : ToolRecord) : (s.addRecord r).demand = s.demand := rfl
@[simp] theorem State.addRecord_reservations (r : ToolRecord) :
    (s.addRecord r).reservations = s.reservations := rfl

/-! `dropRecord` changes records only. -/

@[simp] theorem State.dropRecord_pending (tool : ToolId) : (s.dropRecord tool).pending = s.pending := rfl
@[simp] theorem State.dropRecord_now (tool : ToolId) : (s.dropRecord tool).now = s.now := rfl
@[simp] theorem State.dropRecord_delay (tool : ToolId) : (s.dropRecord tool).delay = s.delay := rfl
@[simp] theorem State.dropRecord_port (tool : ToolId) : (s.dropRecord tool).port = s.port := rfl
@[simp] theorem State.dropRecord_notices (tool : ToolId) : (s.dropRecord tool).notices = s.notices := rfl
@[simp] theorem State.dropRecord_config (tool : ToolId) : (s.dropRecord tool).config = s.config := rfl
@[simp] theorem State.dropRecord_line (tool : ToolId) : (s.dropRecord tool).line = s.line := rfl
@[simp] theorem State.dropRecord_roster (tool : ToolId) : (s.dropRecord tool).roster = s.roster := rfl
@[simp] theorem State.dropRecord_custody (tool : ToolId) : (s.dropRecord tool).custody = s.custody := rfl
@[simp] theorem State.dropRecord_bank (tool : ToolId) : (s.dropRecord tool).bank = s.bank := rfl
@[simp] theorem State.dropRecord_panels (tool : ToolId) : (s.dropRecord tool).panels = s.panels := rfl
@[simp] theorem State.dropRecord_head (tool : ToolId) : (s.dropRecord tool).head = s.head := rfl
@[simp] theorem State.dropRecord_magazine (tool : ToolId) : (s.dropRecord tool).magazine = s.magazine := rfl
@[simp] theorem State.dropRecord_demand (tool : ToolId) : (s.dropRecord tool).demand = s.demand := rfl
@[simp] theorem State.dropRecord_reservations (tool : ToolId) :
    (s.dropRecord tool).reservations = s.reservations := rfl

/-! `sweep` changes bank only. -/

@[simp] theorem State.sweep_pending : (s.sweep).pending = s.pending := rfl
@[simp] theorem State.sweep_now : (s.sweep).now = s.now := rfl
@[simp] theorem State.sweep_delay : (s.sweep).delay = s.delay := rfl
@[simp] theorem State.sweep_port : (s.sweep).port = s.port := rfl
@[simp] theorem State.sweep_notices : (s.sweep).notices = s.notices := rfl
@[simp] theorem State.sweep_config : (s.sweep).config = s.config := rfl
@[simp] theorem State.sweep_records : (s.sweep).records = s.records := rfl
@[simp] theorem State.sweep_line : (s.sweep).line = s.line := rfl
@[simp] theorem State.sweep_roster : (s.sweep).roster = s.roster := rfl
@[simp] theorem State.sweep_custody : (s.sweep).custody = s.custody := rfl
@[simp] theorem State.sweep_panels : (s.sweep).panels = s.panels := rfl
@[simp] theorem State.sweep_head : (s.sweep).head = s.head := rfl
@[simp] theorem State.sweep_magazine : (s.sweep).magazine = s.magazine := rfl
@[simp] theorem State.sweep_demand : (s.sweep).demand = s.demand := rfl
@[simp] theorem State.sweep_reservations : (s.sweep).reservations = s.reservations := rfl

/-! `markingPass` changes bank only. -/

@[simp] theorem State.markingPass_pending : (s.markingPass).pending = s.pending := rfl
@[simp] theorem State.markingPass_now : (s.markingPass).now = s.now := rfl
@[simp] theorem State.markingPass_delay : (s.markingPass).delay = s.delay := rfl
@[simp] theorem State.markingPass_port : (s.markingPass).port = s.port := rfl
@[simp] theorem State.markingPass_notices : (s.markingPass).notices = s.notices := rfl
@[simp] theorem State.markingPass_config : (s.markingPass).config = s.config := rfl
@[simp] theorem State.markingPass_records : (s.markingPass).records = s.records := rfl
@[simp] theorem State.markingPass_line : (s.markingPass).line = s.line := rfl
@[simp] theorem State.markingPass_roster : (s.markingPass).roster = s.roster := rfl
@[simp] theorem State.markingPass_custody : (s.markingPass).custody = s.custody := rfl
@[simp] theorem State.markingPass_panels : (s.markingPass).panels = s.panels := rfl
@[simp] theorem State.markingPass_head : (s.markingPass).head = s.head := rfl
@[simp] theorem State.markingPass_magazine : (s.markingPass).magazine = s.magazine := rfl
@[simp] theorem State.markingPass_demand : (s.markingPass).demand = s.demand := rfl
@[simp] theorem State.markingPass_reservations : (s.markingPass).reservations = s.reservations := rfl

/-! `deleteRows` changes bank, reservations only. -/

@[simp] theorem State.deleteRows_pending (gone : Reservation → Bool) :
    (s.deleteRows gone).pending = s.pending := rfl
@[simp] theorem State.deleteRows_now (gone : Reservation → Bool) : (s.deleteRows gone).now = s.now := rfl
@[simp] theorem State.deleteRows_delay (gone : Reservation → Bool) :
    (s.deleteRows gone).delay = s.delay := rfl
@[simp] theorem State.deleteRows_port (gone : Reservation → Bool) : (s.deleteRows gone).port = s.port := rfl
@[simp] theorem State.deleteRows_notices (gone : Reservation → Bool) :
    (s.deleteRows gone).notices = s.notices := rfl
@[simp] theorem State.deleteRows_config (gone : Reservation → Bool) :
    (s.deleteRows gone).config = s.config := rfl
@[simp] theorem State.deleteRows_records (gone : Reservation → Bool) :
    (s.deleteRows gone).records = s.records := rfl
@[simp] theorem State.deleteRows_line (gone : Reservation → Bool) : (s.deleteRows gone).line = s.line := rfl
@[simp] theorem State.deleteRows_roster (gone : Reservation → Bool) :
    (s.deleteRows gone).roster = s.roster := rfl
@[simp] theorem State.deleteRows_custody (gone : Reservation → Bool) :
    (s.deleteRows gone).custody = s.custody := rfl
@[simp] theorem State.deleteRows_panels (gone : Reservation → Bool) :
    (s.deleteRows gone).panels = s.panels := rfl
@[simp] theorem State.deleteRows_head (gone : Reservation → Bool) : (s.deleteRows gone).head = s.head := rfl
@[simp] theorem State.deleteRows_magazine (gone : Reservation → Bool) :
    (s.deleteRows gone).magazine = s.magazine := rfl
@[simp] theorem State.deleteRows_demand (gone : Reservation → Bool) :
    (s.deleteRows gone).demand = s.demand := rfl

/-! `removeFrames` changes line only. -/

@[simp] theorem State.removeFrames_pending (o : FrameOwner) : (s.removeFrames o).pending = s.pending := rfl
@[simp] theorem State.removeFrames_now (o : FrameOwner) : (s.removeFrames o).now = s.now := rfl
@[simp] theorem State.removeFrames_delay (o : FrameOwner) : (s.removeFrames o).delay = s.delay := rfl
@[simp] theorem State.removeFrames_port (o : FrameOwner) : (s.removeFrames o).port = s.port := rfl
@[simp] theorem State.removeFrames_notices (o : FrameOwner) : (s.removeFrames o).notices = s.notices := rfl
@[simp] theorem State.removeFrames_config (o : FrameOwner) : (s.removeFrames o).config = s.config := rfl
@[simp] theorem State.removeFrames_records (o : FrameOwner) : (s.removeFrames o).records = s.records := rfl
@[simp] theorem State.removeFrames_roster (o : FrameOwner) : (s.removeFrames o).roster = s.roster := rfl
@[simp] theorem State.removeFrames_custody (o : FrameOwner) : (s.removeFrames o).custody = s.custody := rfl
@[simp] theorem State.removeFrames_bank (o : FrameOwner) : (s.removeFrames o).bank = s.bank := rfl
@[simp] theorem State.removeFrames_panels (o : FrameOwner) : (s.removeFrames o).panels = s.panels := rfl
@[simp] theorem State.removeFrames_head (o : FrameOwner) : (s.removeFrames o).head = s.head := rfl
@[simp] theorem State.removeFrames_magazine (o : FrameOwner) : (s.removeFrames o).magazine = s.magazine := rfl
@[simp] theorem State.removeFrames_demand (o : FrameOwner) : (s.removeFrames o).demand = s.demand := rfl
@[simp] theorem State.removeFrames_reservations (o : FrameOwner) :
    (s.removeFrames o).reservations = s.reservations := rfl

/-! `replaceFrame` changes line only. -/

@[simp] theorem State.replaceFrame_pending (o : FrameOwner) (p : List Byte) (again : Bool) :
    (s.replaceFrame o p again).pending = s.pending := rfl
@[simp] theorem State.replaceFrame_now (o : FrameOwner) (p : List Byte) (again : Bool) :
    (s.replaceFrame o p again).now = s.now := rfl
@[simp] theorem State.replaceFrame_delay (o : FrameOwner) (p : List Byte) (again : Bool) :
    (s.replaceFrame o p again).delay = s.delay := rfl
@[simp] theorem State.replaceFrame_port (o : FrameOwner) (p : List Byte) (again : Bool) :
    (s.replaceFrame o p again).port = s.port := rfl
@[simp] theorem State.replaceFrame_notices (o : FrameOwner) (p : List Byte) (again : Bool) :
    (s.replaceFrame o p again).notices = s.notices := rfl
@[simp] theorem State.replaceFrame_config (o : FrameOwner) (p : List Byte) (again : Bool) :
    (s.replaceFrame o p again).config = s.config := rfl
@[simp] theorem State.replaceFrame_records (o : FrameOwner) (p : List Byte) (again : Bool) :
    (s.replaceFrame o p again).records = s.records := rfl
@[simp] theorem State.replaceFrame_roster (o : FrameOwner) (p : List Byte) (again : Bool) :
    (s.replaceFrame o p again).roster = s.roster := rfl
@[simp] theorem State.replaceFrame_custody (o : FrameOwner) (p : List Byte) (again : Bool) :
    (s.replaceFrame o p again).custody = s.custody := rfl
@[simp] theorem State.replaceFrame_bank (o : FrameOwner) (p : List Byte) (again : Bool) :
    (s.replaceFrame o p again).bank = s.bank := rfl
@[simp] theorem State.replaceFrame_panels (o : FrameOwner) (p : List Byte) (again : Bool) :
    (s.replaceFrame o p again).panels = s.panels := rfl
@[simp] theorem State.replaceFrame_head (o : FrameOwner) (p : List Byte) (again : Bool) :
    (s.replaceFrame o p again).head = s.head := rfl
@[simp] theorem State.replaceFrame_magazine (o : FrameOwner) (p : List Byte) (again : Bool) :
    (s.replaceFrame o p again).magazine = s.magazine := rfl
@[simp] theorem State.replaceFrame_demand (o : FrameOwner) (p : List Byte) (again : Bool) :
    (s.replaceFrame o p again).demand = s.demand := rfl
@[simp] theorem State.replaceFrame_reservations (o : FrameOwner) (p : List Byte) (again : Bool) :
    (s.replaceFrame o p again).reservations = s.reservations := rfl

/-! `refreshDemand` changes line only. -/

@[simp] theorem State.refreshDemand_pending (again : Bool) :
    (s.refreshDemand again).pending = s.pending := rfl
@[simp] theorem State.refreshDemand_now (again : Bool) : (s.refreshDemand again).now = s.now := rfl
@[simp] theorem State.refreshDemand_delay (again : Bool) : (s.refreshDemand again).delay = s.delay := rfl
@[simp] theorem State.refreshDemand_port (again : Bool) : (s.refreshDemand again).port = s.port := rfl
@[simp] theorem State.refreshDemand_notices (again : Bool) :
    (s.refreshDemand again).notices = s.notices := rfl
@[simp] theorem State.refreshDemand_config (again : Bool) : (s.refreshDemand again).config = s.config := rfl
@[simp] theorem State.refreshDemand_records (again : Bool) :
    (s.refreshDemand again).records = s.records := rfl
@[simp] theorem State.refreshDemand_roster (again : Bool) : (s.refreshDemand again).roster = s.roster := rfl
@[simp] theorem State.refreshDemand_custody (again : Bool) :
    (s.refreshDemand again).custody = s.custody := rfl
@[simp] theorem State.refreshDemand_bank (again : Bool) : (s.refreshDemand again).bank = s.bank := rfl
@[simp] theorem State.refreshDemand_panels (again : Bool) : (s.refreshDemand again).panels = s.panels := rfl
@[simp] theorem State.refreshDemand_head (again : Bool) : (s.refreshDemand again).head = s.head := rfl
@[simp] theorem State.refreshDemand_magazine (again : Bool) :
    (s.refreshDemand again).magazine = s.magazine := rfl
@[simp] theorem State.refreshDemand_demand (again : Bool) : (s.refreshDemand again).demand = s.demand := rfl
@[simp] theorem State.refreshDemand_reservations (again : Bool) :
    (s.refreshDemand again).reservations = s.reservations := rfl

/-! `freeOut` changes line, custody only. -/

@[simp] theorem State.freeOut_pending (i : Nat) : (s.freeOut i).pending = s.pending := rfl
@[simp] theorem State.freeOut_now (i : Nat) : (s.freeOut i).now = s.now := rfl
@[simp] theorem State.freeOut_delay (i : Nat) : (s.freeOut i).delay = s.delay := rfl
@[simp] theorem State.freeOut_port (i : Nat) : (s.freeOut i).port = s.port := rfl
@[simp] theorem State.freeOut_notices (i : Nat) : (s.freeOut i).notices = s.notices := rfl
@[simp] theorem State.freeOut_config (i : Nat) : (s.freeOut i).config = s.config := rfl
@[simp] theorem State.freeOut_records (i : Nat) : (s.freeOut i).records = s.records := rfl
@[simp] theorem State.freeOut_roster (i : Nat) : (s.freeOut i).roster = s.roster := rfl
@[simp] theorem State.freeOut_bank (i : Nat) : (s.freeOut i).bank = s.bank := rfl
@[simp] theorem State.freeOut_panels (i : Nat) : (s.freeOut i).panels = s.panels := rfl
@[simp] theorem State.freeOut_head (i : Nat) : (s.freeOut i).head = s.head := rfl
@[simp] theorem State.freeOut_magazine (i : Nat) : (s.freeOut i).magazine = s.magazine := rfl
@[simp] theorem State.freeOut_demand (i : Nat) : (s.freeOut i).demand = s.demand := rfl
@[simp] theorem State.freeOut_reservations (i : Nat) : (s.freeOut i).reservations = s.reservations := rfl

/-! `enterListenOnly` changes line, roster, port only. -/

@[simp] theorem State.enterListenOnly_pending : (s.enterListenOnly).pending = s.pending := rfl
@[simp] theorem State.enterListenOnly_now : (s.enterListenOnly).now = s.now := rfl
@[simp] theorem State.enterListenOnly_delay : (s.enterListenOnly).delay = s.delay := rfl
@[simp] theorem State.enterListenOnly_notices : (s.enterListenOnly).notices = s.notices := rfl
@[simp] theorem State.enterListenOnly_config : (s.enterListenOnly).config = s.config := rfl
@[simp] theorem State.enterListenOnly_records : (s.enterListenOnly).records = s.records := rfl
@[simp] theorem State.enterListenOnly_custody : (s.enterListenOnly).custody = s.custody := rfl
@[simp] theorem State.enterListenOnly_bank : (s.enterListenOnly).bank = s.bank := rfl
@[simp] theorem State.enterListenOnly_panels : (s.enterListenOnly).panels = s.panels := rfl
@[simp] theorem State.enterListenOnly_head : (s.enterListenOnly).head = s.head := rfl
@[simp] theorem State.enterListenOnly_magazine : (s.enterListenOnly).magazine = s.magazine := rfl
@[simp] theorem State.enterListenOnly_demand : (s.enterListenOnly).demand = s.demand := rfl
@[simp] theorem State.enterListenOnly_reservations : (s.enterListenOnly).reservations = s.reservations := rfl

/-! `idleRun` changes head only. -/

@[simp] theorem State.idleRun_pending : (s.idleRun).pending = s.pending := rfl
@[simp] theorem State.idleRun_now : (s.idleRun).now = s.now := rfl
@[simp] theorem State.idleRun_delay : (s.idleRun).delay = s.delay := rfl
@[simp] theorem State.idleRun_port : (s.idleRun).port = s.port := rfl
@[simp] theorem State.idleRun_notices : (s.idleRun).notices = s.notices := rfl
@[simp] theorem State.idleRun_config : (s.idleRun).config = s.config := rfl
@[simp] theorem State.idleRun_records : (s.idleRun).records = s.records := rfl
@[simp] theorem State.idleRun_line : (s.idleRun).line = s.line := rfl
@[simp] theorem State.idleRun_roster : (s.idleRun).roster = s.roster := rfl
@[simp] theorem State.idleRun_custody : (s.idleRun).custody = s.custody := rfl
@[simp] theorem State.idleRun_bank : (s.idleRun).bank = s.bank := rfl
@[simp] theorem State.idleRun_panels : (s.idleRun).panels = s.panels := rfl
@[simp] theorem State.idleRun_magazine : (s.idleRun).magazine = s.magazine := rfl
@[simp] theorem State.idleRun_demand : (s.idleRun).demand = s.demand := rfl
@[simp] theorem State.idleRun_reservations : (s.idleRun).reservations = s.reservations := rfl

/-! `formReference` changes head only. -/

@[simp] theorem State.formReference_pending (t : Int) (l : List Sample) :
    (s.formReference t l).pending = s.pending := rfl
@[simp] theorem State.formReference_now (t : Int) (l : List Sample) : (s.formReference t l).now = s.now := rfl
@[simp] theorem State.formReference_delay (t : Int) (l : List Sample) :
    (s.formReference t l).delay = s.delay := rfl
@[simp] theorem State.formReference_port (t : Int) (l : List Sample) :
    (s.formReference t l).port = s.port := rfl
@[simp] theorem State.formReference_notices (t : Int) (l : List Sample) :
    (s.formReference t l).notices = s.notices := rfl
@[simp] theorem State.formReference_config (t : Int) (l : List Sample) :
    (s.formReference t l).config = s.config := rfl
@[simp] theorem State.formReference_records (t : Int) (l : List Sample) :
    (s.formReference t l).records = s.records := rfl
@[simp] theorem State.formReference_line (t : Int) (l : List Sample) :
    (s.formReference t l).line = s.line := rfl
@[simp] theorem State.formReference_roster (t : Int) (l : List Sample) :
    (s.formReference t l).roster = s.roster := rfl
@[simp] theorem State.formReference_custody (t : Int) (l : List Sample) :
    (s.formReference t l).custody = s.custody := rfl
@[simp] theorem State.formReference_bank (t : Int) (l : List Sample) :
    (s.formReference t l).bank = s.bank := rfl
@[simp] theorem State.formReference_panels (t : Int) (l : List Sample) :
    (s.formReference t l).panels = s.panels := rfl
@[simp] theorem State.formReference_magazine (t : Int) (l : List Sample) :
    (s.formReference t l).magazine = s.magazine := rfl
@[simp] theorem State.formReference_demand (t : Int) (l : List Sample) :
    (s.formReference t l).demand = s.demand := rfl
@[simp] theorem State.formReference_reservations (t : Int) (l : List Sample) :
    (s.formReference t l).reservations = s.reservations := rfl

/-! `closeLock` changes bank only. -/

@[simp] theorem State.closeLock_pending (p : Nat) :
    (s.closeLock p).pending = s.pending := by unfold State.closeLock State.setPocket; split <;> rfl
@[simp] theorem State.closeLock_now (p : Nat) :
    (s.closeLock p).now = s.now := by unfold State.closeLock State.setPocket; split <;> rfl
@[simp] theorem State.closeLock_delay (p : Nat) :
    (s.closeLock p).delay = s.delay := by unfold State.closeLock State.setPocket; split <;> rfl
@[simp] theorem State.closeLock_port (p : Nat) :
    (s.closeLock p).port = s.port := by unfold State.closeLock State.setPocket; split <;> rfl
@[simp] theorem State.closeLock_notices (p : Nat) :
    (s.closeLock p).notices = s.notices := by unfold State.closeLock State.setPocket; split <;> rfl
@[simp] theorem State.closeLock_config (p : Nat) :
    (s.closeLock p).config = s.config := by unfold State.closeLock State.setPocket; split <;> rfl
@[simp] theorem State.closeLock_records (p : Nat) :
    (s.closeLock p).records = s.records := by unfold State.closeLock State.setPocket; split <;> rfl
@[simp] theorem State.closeLock_line (p : Nat) :
    (s.closeLock p).line = s.line := by unfold State.closeLock State.setPocket; split <;> rfl
@[simp] theorem State.closeLock_roster (p : Nat) :
    (s.closeLock p).roster = s.roster := by unfold State.closeLock State.setPocket; split <;> rfl
@[simp] theorem State.closeLock_custody (p : Nat) :
    (s.closeLock p).custody = s.custody := by unfold State.closeLock State.setPocket; split <;> rfl
@[simp] theorem State.closeLock_panels (p : Nat) :
    (s.closeLock p).panels = s.panels := by unfold State.closeLock State.setPocket; split <;> rfl
@[simp] theorem State.closeLock_head (p : Nat) :
    (s.closeLock p).head = s.head := by unfold State.closeLock State.setPocket; split <;> rfl
@[simp] theorem State.closeLock_magazine (p : Nat) :
    (s.closeLock p).magazine = s.magazine := by unfold State.closeLock State.setPocket; split <;> rfl
@[simp] theorem State.closeLock_demand (p : Nat) :
    (s.closeLock p).demand = s.demand := by unfold State.closeLock State.setPocket; split <;> rfl
@[simp] theorem State.closeLock_reservations (p : Nat) :
    (s.closeLock p).reservations = s.reservations := by unfold State.closeLock State.setPocket; split <;> rfl

/-! `post` changes notices only. -/

@[simp] theorem State.post_pending (k : NoticeKind) (o a : BitVec 32) :
    (s.post k o a).pending = s.pending := by unfold State.post; split <;> rfl
@[simp] theorem State.post_now (k : NoticeKind) (o a : BitVec 32) :
    (s.post k o a).now = s.now := by unfold State.post; split <;> rfl
@[simp] theorem State.post_delay (k : NoticeKind) (o a : BitVec 32) :
    (s.post k o a).delay = s.delay := by unfold State.post; split <;> rfl
@[simp] theorem State.post_port (k : NoticeKind) (o a : BitVec 32) :
    (s.post k o a).port = s.port := by unfold State.post; split <;> rfl
@[simp] theorem State.post_config (k : NoticeKind) (o a : BitVec 32) :
    (s.post k o a).config = s.config := by unfold State.post; split <;> rfl
@[simp] theorem State.post_records (k : NoticeKind) (o a : BitVec 32) :
    (s.post k o a).records = s.records := by unfold State.post; split <;> rfl
@[simp] theorem State.post_line (k : NoticeKind) (o a : BitVec 32) :
    (s.post k o a).line = s.line := by unfold State.post; split <;> rfl
@[simp] theorem State.post_roster (k : NoticeKind) (o a : BitVec 32) :
    (s.post k o a).roster = s.roster := by unfold State.post; split <;> rfl
@[simp] theorem State.post_custody (k : NoticeKind) (o a : BitVec 32) :
    (s.post k o a).custody = s.custody := by unfold State.post; split <;> rfl
@[simp] theorem State.post_bank (k : NoticeKind) (o a : BitVec 32) :
    (s.post k o a).bank = s.bank := by unfold State.post; split <;> rfl
@[simp] theorem State.post_panels (k : NoticeKind) (o a : BitVec 32) :
    (s.post k o a).panels = s.panels := by unfold State.post; split <;> rfl
@[simp] theorem State.post_head (k : NoticeKind) (o a : BitVec 32) :
    (s.post k o a).head = s.head := by unfold State.post; split <;> rfl
@[simp] theorem State.post_magazine (k : NoticeKind) (o a : BitVec 32) :
    (s.post k o a).magazine = s.magazine := by unfold State.post; split <;> rfl
@[simp] theorem State.post_demand (k : NoticeKind) (o a : BitVec 32) :
    (s.post k o a).demand = s.demand := by unfold State.post; split <;> rfl
@[simp] theorem State.post_reservations (k : NoticeKind) (o a : BitVec 32) :
    (s.post k o a).reservations = s.reservations := by unfold State.post; split <;> rfl

/-! `setPocket` changes bank only. -/

@[simp] theorem State.setPocket_pending (p : Nat) (f : Pocket → Pocket) :
    (s.setPocket p f).pending = s.pending := by unfold State.setPocket; split <;> rfl
@[simp] theorem State.setPocket_now (p : Nat) (f : Pocket → Pocket) :
    (s.setPocket p f).now = s.now := by unfold State.setPocket; split <;> rfl
@[simp] theorem State.setPocket_delay (p : Nat) (f : Pocket → Pocket) :
    (s.setPocket p f).delay = s.delay := by unfold State.setPocket; split <;> rfl
@[simp] theorem State.setPocket_port (p : Nat) (f : Pocket → Pocket) :
    (s.setPocket p f).port = s.port := by unfold State.setPocket; split <;> rfl
@[simp] theorem State.setPocket_notices (p : Nat) (f : Pocket → Pocket) :
    (s.setPocket p f).notices = s.notices := by unfold State.setPocket; split <;> rfl
@[simp] theorem State.setPocket_config (p : Nat) (f : Pocket → Pocket) :
    (s.setPocket p f).config = s.config := by unfold State.setPocket; split <;> rfl
@[simp] theorem State.setPocket_records (p : Nat) (f : Pocket → Pocket) :
    (s.setPocket p f).records = s.records := by unfold State.setPocket; split <;> rfl
@[simp] theorem State.setPocket_line (p : Nat) (f : Pocket → Pocket) :
    (s.setPocket p f).line = s.line := by unfold State.setPocket; split <;> rfl
@[simp] theorem State.setPocket_roster (p : Nat) (f : Pocket → Pocket) :
    (s.setPocket p f).roster = s.roster := by unfold State.setPocket; split <;> rfl
@[simp] theorem State.setPocket_custody (p : Nat) (f : Pocket → Pocket) :
    (s.setPocket p f).custody = s.custody := by unfold State.setPocket; split <;> rfl
@[simp] theorem State.setPocket_panels (p : Nat) (f : Pocket → Pocket) :
    (s.setPocket p f).panels = s.panels := by unfold State.setPocket; split <;> rfl
@[simp] theorem State.setPocket_head (p : Nat) (f : Pocket → Pocket) :
    (s.setPocket p f).head = s.head := by unfold State.setPocket; split <;> rfl
@[simp] theorem State.setPocket_magazine (p : Nat) (f : Pocket → Pocket) :
    (s.setPocket p f).magazine = s.magazine := by unfold State.setPocket; split <;> rfl
@[simp] theorem State.setPocket_demand (p : Nat) (f : Pocket → Pocket) :
    (s.setPocket p f).demand = s.demand := by unfold State.setPocket; split <;> rfl
@[simp] theorem State.setPocket_reservations (p : Nat) (f : Pocket → Pocket) :
    (s.setPocket p f).reservations = s.reservations := by unfold State.setPocket; split <;> rfl

/-! `unmark` changes bank only. -/

@[simp] theorem State.unmark_pending (p : Nat) :
    (s.unmark p).pending = s.pending := by unfold State.unmark; simp
@[simp] theorem State.unmark_now (p : Nat) : (s.unmark p).now = s.now := by unfold State.unmark; simp
@[simp] theorem State.unmark_delay (p : Nat) : (s.unmark p).delay = s.delay := by unfold State.unmark; simp
@[simp] theorem State.unmark_port (p : Nat) : (s.unmark p).port = s.port := by unfold State.unmark; simp
@[simp] theorem State.unmark_notices (p : Nat) :
    (s.unmark p).notices = s.notices := by unfold State.unmark; simp
@[simp] theorem State.unmark_config (p : Nat) : (s.unmark p).config = s.config := by unfold State.unmark; simp
@[simp] theorem State.unmark_records (p : Nat) :
    (s.unmark p).records = s.records := by unfold State.unmark; simp
@[simp] theorem State.unmark_line (p : Nat) : (s.unmark p).line = s.line := by unfold State.unmark; simp
@[simp] theorem State.unmark_roster (p : Nat) : (s.unmark p).roster = s.roster := by unfold State.unmark; simp
@[simp] theorem State.unmark_custody (p : Nat) :
    (s.unmark p).custody = s.custody := by unfold State.unmark; simp
@[simp] theorem State.unmark_panels (p : Nat) : (s.unmark p).panels = s.panels := by unfold State.unmark; simp
@[simp] theorem State.unmark_head (p : Nat) : (s.unmark p).head = s.head := by unfold State.unmark; simp
@[simp] theorem State.unmark_magazine (p : Nat) :
    (s.unmark p).magazine = s.magazine := by unfold State.unmark; simp
@[simp] theorem State.unmark_demand (p : Nat) : (s.unmark p).demand = s.demand := by unfold State.unmark; simp
@[simp] theorem State.unmark_reservations (p : Nat) :
    (s.unmark p).reservations = s.reservations := by unfold State.unmark; simp

/-! `setSlot` changes magazine only. -/

@[simp] theorem State.setSlot_pending (n : Nat) (m : MagSlot) :
    (s.setSlot n m).pending = s.pending := by unfold State.setSlot; split <;> rfl
@[simp] theorem State.setSlot_now (n : Nat) (m : MagSlot) :
    (s.setSlot n m).now = s.now := by unfold State.setSlot; split <;> rfl
@[simp] theorem State.setSlot_delay (n : Nat) (m : MagSlot) :
    (s.setSlot n m).delay = s.delay := by unfold State.setSlot; split <;> rfl
@[simp] theorem State.setSlot_port (n : Nat) (m : MagSlot) :
    (s.setSlot n m).port = s.port := by unfold State.setSlot; split <;> rfl
@[simp] theorem State.setSlot_notices (n : Nat) (m : MagSlot) :
    (s.setSlot n m).notices = s.notices := by unfold State.setSlot; split <;> rfl
@[simp] theorem State.setSlot_config (n : Nat) (m : MagSlot) :
    (s.setSlot n m).config = s.config := by unfold State.setSlot; split <;> rfl
@[simp] theorem State.setSlot_records (n : Nat) (m : MagSlot) :
    (s.setSlot n m).records = s.records := by unfold State.setSlot; split <;> rfl
@[simp] theorem State.setSlot_line (n : Nat) (m : MagSlot) :
    (s.setSlot n m).line = s.line := by unfold State.setSlot; split <;> rfl
@[simp] theorem State.setSlot_roster (n : Nat) (m : MagSlot) :
    (s.setSlot n m).roster = s.roster := by unfold State.setSlot; split <;> rfl
@[simp] theorem State.setSlot_custody (n : Nat) (m : MagSlot) :
    (s.setSlot n m).custody = s.custody := by unfold State.setSlot; split <;> rfl
@[simp] theorem State.setSlot_bank (n : Nat) (m : MagSlot) :
    (s.setSlot n m).bank = s.bank := by unfold State.setSlot; split <;> rfl
@[simp] theorem State.setSlot_panels (n : Nat) (m : MagSlot) :
    (s.setSlot n m).panels = s.panels := by unfold State.setSlot; split <;> rfl
@[simp] theorem State.setSlot_head (n : Nat) (m : MagSlot) :
    (s.setSlot n m).head = s.head := by unfold State.setSlot; split <;> rfl
@[simp] theorem State.setSlot_demand (n : Nat) (m : MagSlot) :
    (s.setSlot n m).demand = s.demand := by unfold State.setSlot; split <;> rfl
@[simp] theorem State.setSlot_reservations (n : Nat) (m : MagSlot) :
    (s.setSlot n m).reservations = s.reservations := by unfold State.setSlot; split <;> rfl

/-! `setPanel` changes panels only. -/

@[simp] theorem State.setPanel_pending (i : PanelId) (f : Panel → Panel) :
    (s.setPanel i f).pending = s.pending := by cases i <;> rfl
@[simp] theorem State.setPanel_now (i : PanelId) (f : Panel → Panel) :
    (s.setPanel i f).now = s.now := by cases i <;> rfl
@[simp] theorem State.setPanel_delay (i : PanelId) (f : Panel → Panel) :
    (s.setPanel i f).delay = s.delay := by cases i <;> rfl
@[simp] theorem State.setPanel_port (i : PanelId) (f : Panel → Panel) :
    (s.setPanel i f).port = s.port := by cases i <;> rfl
@[simp] theorem State.setPanel_notices (i : PanelId) (f : Panel → Panel) :
    (s.setPanel i f).notices = s.notices := by cases i <;> rfl
@[simp] theorem State.setPanel_config (i : PanelId) (f : Panel → Panel) :
    (s.setPanel i f).config = s.config := by cases i <;> rfl
@[simp] theorem State.setPanel_records (i : PanelId) (f : Panel → Panel) :
    (s.setPanel i f).records = s.records := by cases i <;> rfl
@[simp] theorem State.setPanel_line (i : PanelId) (f : Panel → Panel) :
    (s.setPanel i f).line = s.line := by cases i <;> rfl
@[simp] theorem State.setPanel_roster (i : PanelId) (f : Panel → Panel) :
    (s.setPanel i f).roster = s.roster := by cases i <;> rfl
@[simp] theorem State.setPanel_custody (i : PanelId) (f : Panel → Panel) :
    (s.setPanel i f).custody = s.custody := by cases i <;> rfl
@[simp] theorem State.setPanel_bank (i : PanelId) (f : Panel → Panel) :
    (s.setPanel i f).bank = s.bank := by cases i <;> rfl
@[simp] theorem State.setPanel_head (i : PanelId) (f : Panel → Panel) :
    (s.setPanel i f).head = s.head := by cases i <;> rfl
@[simp] theorem State.setPanel_magazine (i : PanelId) (f : Panel → Panel) :
    (s.setPanel i f).magazine = s.magazine := by cases i <;> rfl
@[simp] theorem State.setPanel_demand (i : PanelId) (f : Panel → Panel) :
    (s.setPanel i f).demand = s.demand := by cases i <;> rfl
@[simp] theorem State.setPanel_reservations (i : PanelId) (f : Panel → Panel) :
    (s.setPanel i f).reservations = s.reservations := by cases i <;> rfl

/-! `startAttempt` changes line only. -/

@[simp] theorem State.startAttempt_pending :
    (s.startAttempt).pending = s.pending := by unfold State.startAttempt; split <;> rfl
@[simp] theorem State.startAttempt_now :
    (s.startAttempt).now = s.now := by unfold State.startAttempt; split <;> rfl
@[simp] theorem State.startAttempt_delay :
    (s.startAttempt).delay = s.delay := by unfold State.startAttempt; split <;> rfl
@[simp] theorem State.startAttempt_port :
    (s.startAttempt).port = s.port := by unfold State.startAttempt; split <;> rfl
@[simp] theorem State.startAttempt_notices :
    (s.startAttempt).notices = s.notices := by unfold State.startAttempt; split <;> rfl
@[simp] theorem State.startAttempt_config :
    (s.startAttempt).config = s.config := by unfold State.startAttempt; split <;> rfl
@[simp] theorem State.startAttempt_records :
    (s.startAttempt).records = s.records := by unfold State.startAttempt; split <;> rfl
@[simp] theorem State.startAttempt_roster :
    (s.startAttempt).roster = s.roster := by unfold State.startAttempt; split <;> rfl
@[simp] theorem State.startAttempt_custody :
    (s.startAttempt).custody = s.custody := by unfold State.startAttempt; split <;> rfl
@[simp] theorem State.startAttempt_bank :
    (s.startAttempt).bank = s.bank := by unfold State.startAttempt; split <;> rfl
@[simp] theorem State.startAttempt_panels :
    (s.startAttempt).panels = s.panels := by unfold State.startAttempt; split <;> rfl
@[simp] theorem State.startAttempt_head :
    (s.startAttempt).head = s.head := by unfold State.startAttempt; split <;> rfl
@[simp] theorem State.startAttempt_magazine :
    (s.startAttempt).magazine = s.magazine := by unfold State.startAttempt; split <;> rfl
@[simp] theorem State.startAttempt_demand :
    (s.startAttempt).demand = s.demand := by unfold State.startAttempt; split <;> rfl
@[simp] theorem State.startAttempt_reservations :
    (s.startAttempt).reservations = s.reservations := by unfold State.startAttempt; split <;> rfl

/-! `postChanged` changes notices only. -/

@[simp] theorem State.postChanged_pending (tool : ToolId) :
    (s.postChanged tool).pending = s.pending := by unfold State.postChanged; split <;> simp
@[simp] theorem State.postChanged_now (tool : ToolId) :
    (s.postChanged tool).now = s.now := by unfold State.postChanged; split <;> simp
@[simp] theorem State.postChanged_delay (tool : ToolId) :
    (s.postChanged tool).delay = s.delay := by unfold State.postChanged; split <;> simp
@[simp] theorem State.postChanged_port (tool : ToolId) :
    (s.postChanged tool).port = s.port := by unfold State.postChanged; split <;> simp
@[simp] theorem State.postChanged_config (tool : ToolId) :
    (s.postChanged tool).config = s.config := by unfold State.postChanged; split <;> simp
@[simp] theorem State.postChanged_records (tool : ToolId) :
    (s.postChanged tool).records = s.records := by unfold State.postChanged; split <;> simp
@[simp] theorem State.postChanged_line (tool : ToolId) :
    (s.postChanged tool).line = s.line := by unfold State.postChanged; split <;> simp
@[simp] theorem State.postChanged_roster (tool : ToolId) :
    (s.postChanged tool).roster = s.roster := by unfold State.postChanged; split <;> simp
@[simp] theorem State.postChanged_custody (tool : ToolId) :
    (s.postChanged tool).custody = s.custody := by unfold State.postChanged; split <;> simp
@[simp] theorem State.postChanged_bank (tool : ToolId) :
    (s.postChanged tool).bank = s.bank := by unfold State.postChanged; split <;> simp
@[simp] theorem State.postChanged_panels (tool : ToolId) :
    (s.postChanged tool).panels = s.panels := by unfold State.postChanged; split <;> simp
@[simp] theorem State.postChanged_head (tool : ToolId) :
    (s.postChanged tool).head = s.head := by unfold State.postChanged; split <;> simp
@[simp] theorem State.postChanged_magazine (tool : ToolId) :
    (s.postChanged tool).magazine = s.magazine := by unfold State.postChanged; split <;> simp
@[simp] theorem State.postChanged_demand (tool : ToolId) :
    (s.postChanged tool).demand = s.demand := by unfold State.postChanged; split <;> simp
@[simp] theorem State.postChanged_reservations (tool : ToolId) :
    (s.postChanged tool).reservations = s.reservations := by unfold State.postChanged; split <;> simp

/-! `postDiscarded` changes notices only. -/

@[simp] theorem State.postDiscarded_pending (f : TxFrame) (c : DiscardCause) :
    (s.postDiscarded f c).pending = s.pending := by unfold State.postDiscarded; simp
@[simp] theorem State.postDiscarded_now (f : TxFrame) (c : DiscardCause) :
    (s.postDiscarded f c).now = s.now := by unfold State.postDiscarded; simp
@[simp] theorem State.postDiscarded_delay (f : TxFrame) (c : DiscardCause) :
    (s.postDiscarded f c).delay = s.delay := by unfold State.postDiscarded; simp
@[simp] theorem State.postDiscarded_port (f : TxFrame) (c : DiscardCause) :
    (s.postDiscarded f c).port = s.port := by unfold State.postDiscarded; simp
@[simp] theorem State.postDiscarded_config (f : TxFrame) (c : DiscardCause) :
    (s.postDiscarded f c).config = s.config := by unfold State.postDiscarded; simp
@[simp] theorem State.postDiscarded_records (f : TxFrame) (c : DiscardCause) :
    (s.postDiscarded f c).records = s.records := by unfold State.postDiscarded; simp
@[simp] theorem State.postDiscarded_line (f : TxFrame) (c : DiscardCause) :
    (s.postDiscarded f c).line = s.line := by unfold State.postDiscarded; simp
@[simp] theorem State.postDiscarded_roster (f : TxFrame) (c : DiscardCause) :
    (s.postDiscarded f c).roster = s.roster := by unfold State.postDiscarded; simp
@[simp] theorem State.postDiscarded_custody (f : TxFrame) (c : DiscardCause) :
    (s.postDiscarded f c).custody = s.custody := by unfold State.postDiscarded; simp
@[simp] theorem State.postDiscarded_bank (f : TxFrame) (c : DiscardCause) :
    (s.postDiscarded f c).bank = s.bank := by unfold State.postDiscarded; simp
@[simp] theorem State.postDiscarded_panels (f : TxFrame) (c : DiscardCause) :
    (s.postDiscarded f c).panels = s.panels := by unfold State.postDiscarded; simp
@[simp] theorem State.postDiscarded_head (f : TxFrame) (c : DiscardCause) :
    (s.postDiscarded f c).head = s.head := by unfold State.postDiscarded; simp
@[simp] theorem State.postDiscarded_magazine (f : TxFrame) (c : DiscardCause) :
    (s.postDiscarded f c).magazine = s.magazine := by unfold State.postDiscarded; simp
@[simp] theorem State.postDiscarded_demand (f : TxFrame) (c : DiscardCause) :
    (s.postDiscarded f c).demand = s.demand := by unfold State.postDiscarded; simp
@[simp] theorem State.postDiscarded_reservations (f : TxFrame) (c : DiscardCause) :
    (s.postDiscarded f c).reservations = s.reservations := by unfold State.postDiscarded; simp

/-! `postReferenceDone` changes notices only. -/

@[simp] theorem State.postReferenceDone_pending (o : RunOutcome) :
    (s.postReferenceDone o).pending = s.pending := by unfold State.postReferenceDone; simp
@[simp] theorem State.postReferenceDone_now (o : RunOutcome) :
    (s.postReferenceDone o).now = s.now := by unfold State.postReferenceDone; simp
@[simp] theorem State.postReferenceDone_delay (o : RunOutcome) :
    (s.postReferenceDone o).delay = s.delay := by unfold State.postReferenceDone; simp
@[simp] theorem State.postReferenceDone_port (o : RunOutcome) :
    (s.postReferenceDone o).port = s.port := by unfold State.postReferenceDone; simp
@[simp] theorem State.postReferenceDone_config (o : RunOutcome) :
    (s.postReferenceDone o).config = s.config := by unfold State.postReferenceDone; simp
@[simp] theorem State.postReferenceDone_records (o : RunOutcome) :
    (s.postReferenceDone o).records = s.records := by unfold State.postReferenceDone; simp
@[simp] theorem State.postReferenceDone_line (o : RunOutcome) :
    (s.postReferenceDone o).line = s.line := by unfold State.postReferenceDone; simp
@[simp] theorem State.postReferenceDone_roster (o : RunOutcome) :
    (s.postReferenceDone o).roster = s.roster := by unfold State.postReferenceDone; simp
@[simp] theorem State.postReferenceDone_custody (o : RunOutcome) :
    (s.postReferenceDone o).custody = s.custody := by unfold State.postReferenceDone; simp
@[simp] theorem State.postReferenceDone_bank (o : RunOutcome) :
    (s.postReferenceDone o).bank = s.bank := by unfold State.postReferenceDone; simp
@[simp] theorem State.postReferenceDone_panels (o : RunOutcome) :
    (s.postReferenceDone o).panels = s.panels := by unfold State.postReferenceDone; simp
@[simp] theorem State.postReferenceDone_head (o : RunOutcome) :
    (s.postReferenceDone o).head = s.head := by unfold State.postReferenceDone; simp
@[simp] theorem State.postReferenceDone_magazine (o : RunOutcome) :
    (s.postReferenceDone o).magazine = s.magazine := by unfold State.postReferenceDone; simp
@[simp] theorem State.postReferenceDone_demand (o : RunOutcome) :
    (s.postReferenceDone o).demand = s.demand := by unfold State.postReferenceDone; simp
@[simp] theorem State.postReferenceDone_reservations (o : RunOutcome) :
    (s.postReferenceDone o).reservations = s.reservations := by unfold State.postReferenceDone; simp

/-! `postMeasureDone` changes notices only. -/

@[simp] theorem State.postMeasureDone_pending (tool : ToolId) (o : RunOutcome) (n : Nat) :
    (s.postMeasureDone tool o n).pending = s.pending := by unfold State.postMeasureDone; simp
@[simp] theorem State.postMeasureDone_now (tool : ToolId) (o : RunOutcome) (n : Nat) :
    (s.postMeasureDone tool o n).now = s.now := by unfold State.postMeasureDone; simp
@[simp] theorem State.postMeasureDone_delay (tool : ToolId) (o : RunOutcome) (n : Nat) :
    (s.postMeasureDone tool o n).delay = s.delay := by unfold State.postMeasureDone; simp
@[simp] theorem State.postMeasureDone_port (tool : ToolId) (o : RunOutcome) (n : Nat) :
    (s.postMeasureDone tool o n).port = s.port := by unfold State.postMeasureDone; simp
@[simp] theorem State.postMeasureDone_config (tool : ToolId) (o : RunOutcome) (n : Nat) :
    (s.postMeasureDone tool o n).config = s.config := by unfold State.postMeasureDone; simp
@[simp] theorem State.postMeasureDone_records (tool : ToolId) (o : RunOutcome) (n : Nat) :
    (s.postMeasureDone tool o n).records = s.records := by unfold State.postMeasureDone; simp
@[simp] theorem State.postMeasureDone_line (tool : ToolId) (o : RunOutcome) (n : Nat) :
    (s.postMeasureDone tool o n).line = s.line := by unfold State.postMeasureDone; simp
@[simp] theorem State.postMeasureDone_roster (tool : ToolId) (o : RunOutcome) (n : Nat) :
    (s.postMeasureDone tool o n).roster = s.roster := by unfold State.postMeasureDone; simp
@[simp] theorem State.postMeasureDone_custody (tool : ToolId) (o : RunOutcome) (n : Nat) :
    (s.postMeasureDone tool o n).custody = s.custody := by unfold State.postMeasureDone; simp
@[simp] theorem State.postMeasureDone_bank (tool : ToolId) (o : RunOutcome) (n : Nat) :
    (s.postMeasureDone tool o n).bank = s.bank := by unfold State.postMeasureDone; simp
@[simp] theorem State.postMeasureDone_panels (tool : ToolId) (o : RunOutcome) (n : Nat) :
    (s.postMeasureDone tool o n).panels = s.panels := by unfold State.postMeasureDone; simp
@[simp] theorem State.postMeasureDone_head (tool : ToolId) (o : RunOutcome) (n : Nat) :
    (s.postMeasureDone tool o n).head = s.head := by unfold State.postMeasureDone; simp
@[simp] theorem State.postMeasureDone_magazine (tool : ToolId) (o : RunOutcome) (n : Nat) :
    (s.postMeasureDone tool o n).magazine = s.magazine := by unfold State.postMeasureDone; simp
@[simp] theorem State.postMeasureDone_demand (tool : ToolId) (o : RunOutcome) (n : Nat) :
    (s.postMeasureDone tool o n).demand = s.demand := by unfold State.postMeasureDone; simp
@[simp] theorem State.postMeasureDone_reservations (tool : ToolId) (o : RunOutcome) (n : Nat) :
    (s.postMeasureDone tool o n).reservations = s.reservations := by unfold State.postMeasureDone; simp

/-! `offerFrame` changes line, notices only. -/

@[simp] theorem State.offerFrame_pending (f : TxFrame) : (s.offerFrame f).pending = s.pending := by
  unfold State.offerFrame
  repeat' (first | rfl | (simp; done) | split)
@[simp] theorem State.offerFrame_now (f : TxFrame) : (s.offerFrame f).now = s.now := by
  unfold State.offerFrame
  repeat' (first | rfl | (simp; done) | split)
@[simp] theorem State.offerFrame_delay (f : TxFrame) : (s.offerFrame f).delay = s.delay := by
  unfold State.offerFrame
  repeat' (first | rfl | (simp; done) | split)
@[simp] theorem State.offerFrame_port (f : TxFrame) : (s.offerFrame f).port = s.port := by
  unfold State.offerFrame
  repeat' (first | rfl | (simp; done) | split)
@[simp] theorem State.offerFrame_config (f : TxFrame) : (s.offerFrame f).config = s.config := by
  unfold State.offerFrame
  repeat' (first | rfl | (simp; done) | split)
@[simp] theorem State.offerFrame_records (f : TxFrame) : (s.offerFrame f).records = s.records := by
  unfold State.offerFrame
  repeat' (first | rfl | (simp; done) | split)
@[simp] theorem State.offerFrame_roster (f : TxFrame) : (s.offerFrame f).roster = s.roster := by
  unfold State.offerFrame
  repeat' (first | rfl | (simp; done) | split)
@[simp] theorem State.offerFrame_custody (f : TxFrame) : (s.offerFrame f).custody = s.custody := by
  unfold State.offerFrame
  repeat' (first | rfl | (simp; done) | split)
@[simp] theorem State.offerFrame_bank (f : TxFrame) : (s.offerFrame f).bank = s.bank := by
  unfold State.offerFrame
  repeat' (first | rfl | (simp; done) | split)
@[simp] theorem State.offerFrame_panels (f : TxFrame) : (s.offerFrame f).panels = s.panels := by
  unfold State.offerFrame
  repeat' (first | rfl | (simp; done) | split)
@[simp] theorem State.offerFrame_head (f : TxFrame) : (s.offerFrame f).head = s.head := by
  unfold State.offerFrame
  repeat' (first | rfl | (simp; done) | split)
@[simp] theorem State.offerFrame_magazine (f : TxFrame) : (s.offerFrame f).magazine = s.magazine := by
  unfold State.offerFrame
  repeat' (first | rfl | (simp; done) | split)
@[simp] theorem State.offerFrame_demand (f : TxFrame) : (s.offerFrame f).demand = s.demand := by
  unfold State.offerFrame
  repeat' (first | rfl | (simp; done) | split)
@[simp] theorem State.offerFrame_reservations (f : TxFrame) :
    (s.offerFrame f).reservations = s.reservations := by
  unfold State.offerFrame
  repeat' (first | rfl | (simp; done) | split)

/-! `offerPresence` changes line, notices, roster only. -/

@[simp] theorem State.offerPresence_pending :
    (s.offerPresence).pending = s.pending := by unfold State.offerPresence; simp only []; split <;> simp
@[simp] theorem State.offerPresence_now :
    (s.offerPresence).now = s.now := by unfold State.offerPresence; simp only []; split <;> simp
@[simp] theorem State.offerPresence_delay :
    (s.offerPresence).delay = s.delay := by unfold State.offerPresence; simp only []; split <;> simp
@[simp] theorem State.offerPresence_port :
    (s.offerPresence).port = s.port := by unfold State.offerPresence; simp only []; split <;> simp
@[simp] theorem State.offerPresence_config :
    (s.offerPresence).config = s.config := by unfold State.offerPresence; simp only []; split <;> simp
@[simp] theorem State.offerPresence_records :
    (s.offerPresence).records = s.records := by unfold State.offerPresence; simp only []; split <;> simp
@[simp] theorem State.offerPresence_custody :
    (s.offerPresence).custody = s.custody := by unfold State.offerPresence; simp only []; split <;> simp
@[simp] theorem State.offerPresence_bank :
    (s.offerPresence).bank = s.bank := by unfold State.offerPresence; simp only []; split <;> simp
@[simp] theorem State.offerPresence_panels :
    (s.offerPresence).panels = s.panels := by unfold State.offerPresence; simp only []; split <;> simp
@[simp] theorem State.offerPresence_head :
    (s.offerPresence).head = s.head := by unfold State.offerPresence; simp only []; split <;> simp
@[simp] theorem State.offerPresence_magazine :
    (s.offerPresence).magazine = s.magazine := by unfold State.offerPresence; simp only []; split <;> simp
@[simp] theorem State.offerPresence_demand :
    (s.offerPresence).demand = s.demand := by unfold State.offerPresence; simp only []; split <;> simp
@[simp] theorem State.offerPresence_reservations :
    (s.offerPresence).reservations = s.reservations := by unfold State.offerPresence; simp only []; split <;> simp

/-! `offerDemand` changes line, notices only. -/

@[simp] theorem State.offerDemand_pending :
    (s.offerDemand).pending = s.pending := by unfold State.offerDemand; simp
@[simp] theorem State.offerDemand_now : (s.offerDemand).now = s.now := by unfold State.offerDemand; simp
@[simp] theorem State.offerDemand_delay : (s.offerDemand).delay = s.delay := by unfold State.offerDemand; simp
@[simp] theorem State.offerDemand_port : (s.offerDemand).port = s.port := by unfold State.offerDemand; simp
@[simp] theorem State.offerDemand_config :
    (s.offerDemand).config = s.config := by unfold State.offerDemand; simp
@[simp] theorem State.offerDemand_records :
    (s.offerDemand).records = s.records := by unfold State.offerDemand; simp
@[simp] theorem State.offerDemand_roster :
    (s.offerDemand).roster = s.roster := by unfold State.offerDemand; simp
@[simp] theorem State.offerDemand_custody :
    (s.offerDemand).custody = s.custody := by unfold State.offerDemand; simp
@[simp] theorem State.offerDemand_bank : (s.offerDemand).bank = s.bank := by unfold State.offerDemand; simp
@[simp] theorem State.offerDemand_panels :
    (s.offerDemand).panels = s.panels := by unfold State.offerDemand; simp
@[simp] theorem State.offerDemand_head : (s.offerDemand).head = s.head := by unfold State.offerDemand; simp
@[simp] theorem State.offerDemand_magazine :
    (s.offerDemand).magazine = s.magazine := by unfold State.offerDemand; simp
@[simp] theorem State.offerDemand_demand :
    (s.offerDemand).demand = s.demand := by unfold State.offerDemand; simp
@[simp] theorem State.offerDemand_reservations :
    (s.offerDemand).reservations = s.reservations := by unfold State.offerDemand; simp

/-! `leavePlace` changes magazine only. -/

@[simp] theorem State.leavePlace_pending (why : Purpose) (o : CallOutcome) :
    (s.leavePlace why o).pending = s.pending := by unfold State.leavePlace; split <;> simp
@[simp] theorem State.leavePlace_now (why : Purpose) (o : CallOutcome) :
    (s.leavePlace why o).now = s.now := by unfold State.leavePlace; split <;> simp
@[simp] theorem State.leavePlace_delay (why : Purpose) (o : CallOutcome) :
    (s.leavePlace why o).delay = s.delay := by unfold State.leavePlace; split <;> simp
@[simp] theorem State.leavePlace_port (why : Purpose) (o : CallOutcome) :
    (s.leavePlace why o).port = s.port := by unfold State.leavePlace; split <;> simp
@[simp] theorem State.leavePlace_notices (why : Purpose) (o : CallOutcome) :
    (s.leavePlace why o).notices = s.notices := by unfold State.leavePlace; split <;> simp
@[simp] theorem State.leavePlace_config (why : Purpose) (o : CallOutcome) :
    (s.leavePlace why o).config = s.config := by unfold State.leavePlace; split <;> simp
@[simp] theorem State.leavePlace_records (why : Purpose) (o : CallOutcome) :
    (s.leavePlace why o).records = s.records := by unfold State.leavePlace; split <;> simp
@[simp] theorem State.leavePlace_line (why : Purpose) (o : CallOutcome) :
    (s.leavePlace why o).line = s.line := by unfold State.leavePlace; split <;> simp
@[simp] theorem State.leavePlace_roster (why : Purpose) (o : CallOutcome) :
    (s.leavePlace why o).roster = s.roster := by unfold State.leavePlace; split <;> simp
@[simp] theorem State.leavePlace_custody (why : Purpose) (o : CallOutcome) :
    (s.leavePlace why o).custody = s.custody := by unfold State.leavePlace; split <;> simp
@[simp] theorem State.leavePlace_bank (why : Purpose) (o : CallOutcome) :
    (s.leavePlace why o).bank = s.bank := by unfold State.leavePlace; split <;> simp
@[simp] theorem State.leavePlace_panels (why : Purpose) (o : CallOutcome) :
    (s.leavePlace why o).panels = s.panels := by unfold State.leavePlace; split <;> simp
@[simp] theorem State.leavePlace_head (why : Purpose) (o : CallOutcome) :
    (s.leavePlace why o).head = s.head := by unfold State.leavePlace; split <;> simp
@[simp] theorem State.leavePlace_demand (why : Purpose) (o : CallOutcome) :
    (s.leavePlace why o).demand = s.demand := by unfold State.leavePlace; split <;> simp
@[simp] theorem State.leavePlace_reservations (why : Purpose) (o : CallOutcome) :
    (s.leavePlace why o).reservations = s.reservations := by unfold State.leavePlace; split <;> simp

/-! `closeCall` changes line, notices, custody, magazine only. -/

@[simp] theorem State.closeCall_pending (i : Nat) (o : CallOutcome) (n : Nat) :
    (s.closeCall i o n).pending = s.pending := by unfold State.closeCall; split <;> simp
@[simp] theorem State.closeCall_now (i : Nat) (o : CallOutcome) (n : Nat) :
    (s.closeCall i o n).now = s.now := by unfold State.closeCall; split <;> simp
@[simp] theorem State.closeCall_delay (i : Nat) (o : CallOutcome) (n : Nat) :
    (s.closeCall i o n).delay = s.delay := by unfold State.closeCall; split <;> simp
@[simp] theorem State.closeCall_port (i : Nat) (o : CallOutcome) (n : Nat) :
    (s.closeCall i o n).port = s.port := by unfold State.closeCall; split <;> simp
@[simp] theorem State.closeCall_config (i : Nat) (o : CallOutcome) (n : Nat) :
    (s.closeCall i o n).config = s.config := by unfold State.closeCall; split <;> simp
@[simp] theorem State.closeCall_records (i : Nat) (o : CallOutcome) (n : Nat) :
    (s.closeCall i o n).records = s.records := by unfold State.closeCall; split <;> simp
@[simp] theorem State.closeCall_roster (i : Nat) (o : CallOutcome) (n : Nat) :
    (s.closeCall i o n).roster = s.roster := by unfold State.closeCall; split <;> simp
@[simp] theorem State.closeCall_bank (i : Nat) (o : CallOutcome) (n : Nat) :
    (s.closeCall i o n).bank = s.bank := by unfold State.closeCall; split <;> simp
@[simp] theorem State.closeCall_panels (i : Nat) (o : CallOutcome) (n : Nat) :
    (s.closeCall i o n).panels = s.panels := by unfold State.closeCall; split <;> simp
@[simp] theorem State.closeCall_head (i : Nat) (o : CallOutcome) (n : Nat) :
    (s.closeCall i o n).head = s.head := by unfold State.closeCall; split <;> simp
@[simp] theorem State.closeCall_demand (i : Nat) (o : CallOutcome) (n : Nat) :
    (s.closeCall i o n).demand = s.demand := by unfold State.closeCall; split <;> simp
@[simp] theorem State.closeCall_reservations (i : Nat) (o : CallOutcome) (n : Nat) :
    (s.closeCall i o n).reservations = s.reservations := by unfold State.closeCall; split <;> simp

/-! `withdrawCall` changes line, notices, custody, magazine only. -/

@[simp] theorem State.withdrawCall_pending (why : Purpose) :
    (s.withdrawCall why).pending = s.pending := by unfold State.withdrawCall; split <;> simp
@[simp] theorem State.withdrawCall_now (why : Purpose) :
    (s.withdrawCall why).now = s.now := by unfold State.withdrawCall; split <;> simp
@[simp] theorem State.withdrawCall_delay (why : Purpose) :
    (s.withdrawCall why).delay = s.delay := by unfold State.withdrawCall; split <;> simp
@[simp] theorem State.withdrawCall_port (why : Purpose) :
    (s.withdrawCall why).port = s.port := by unfold State.withdrawCall; split <;> simp
@[simp] theorem State.withdrawCall_config (why : Purpose) :
    (s.withdrawCall why).config = s.config := by unfold State.withdrawCall; split <;> simp
@[simp] theorem State.withdrawCall_records (why : Purpose) :
    (s.withdrawCall why).records = s.records := by unfold State.withdrawCall; split <;> simp
@[simp] theorem State.withdrawCall_roster (why : Purpose) :
    (s.withdrawCall why).roster = s.roster := by unfold State.withdrawCall; split <;> simp
@[simp] theorem State.withdrawCall_bank (why : Purpose) :
    (s.withdrawCall why).bank = s.bank := by unfold State.withdrawCall; split <;> simp
@[simp] theorem State.withdrawCall_panels (why : Purpose) :
    (s.withdrawCall why).panels = s.panels := by unfold State.withdrawCall; split <;> simp
@[simp] theorem State.withdrawCall_head (why : Purpose) :
    (s.withdrawCall why).head = s.head := by unfold State.withdrawCall; split <;> simp
@[simp] theorem State.withdrawCall_demand (why : Purpose) :
    (s.withdrawCall why).demand = s.demand := by unfold State.withdrawCall; split <;> simp
@[simp] theorem State.withdrawCall_reservations (why : Purpose) :
    (s.withdrawCall why).reservations = s.reservations := by unfold State.withdrawCall; split <;> simp

/-! `lapse` changes line, notices, custody, records only. -/

@[simp] theorem State.lapse_pending (i : Nat) (c : DoubtCause) :
    (s.lapse i c).pending = s.pending := by unfold State.lapse; split <;> simp
@[simp] theorem State.lapse_now (i : Nat) (c : DoubtCause) :
    (s.lapse i c).now = s.now := by unfold State.lapse; split <;> simp
@[simp] theorem State.lapse_delay (i : Nat) (c : DoubtCause) :
    (s.lapse i c).delay = s.delay := by unfold State.lapse; split <;> simp
@[simp] theorem State.lapse_port (i : Nat) (c : DoubtCause) :
    (s.lapse i c).port = s.port := by unfold State.lapse; split <;> simp
@[simp] theorem State.lapse_config (i : Nat) (c : DoubtCause) :
    (s.lapse i c).config = s.config := by unfold State.lapse; split <;> simp
@[simp] theorem State.lapse_roster (i : Nat) (c : DoubtCause) :
    (s.lapse i c).roster = s.roster := by unfold State.lapse; split <;> simp
@[simp] theorem State.lapse_bank (i : Nat) (c : DoubtCause) :
    (s.lapse i c).bank = s.bank := by unfold State.lapse; split <;> simp
@[simp] theorem State.lapse_panels (i : Nat) (c : DoubtCause) :
    (s.lapse i c).panels = s.panels := by unfold State.lapse; split <;> simp
@[simp] theorem State.lapse_head (i : Nat) (c : DoubtCause) :
    (s.lapse i c).head = s.head := by unfold State.lapse; split <;> simp
@[simp] theorem State.lapse_magazine (i : Nat) (c : DoubtCause) :
    (s.lapse i c).magazine = s.magazine := by unfold State.lapse; split <;> simp
@[simp] theorem State.lapse_demand (i : Nat) (c : DoubtCause) :
    (s.lapse i c).demand = s.demand := by unfold State.lapse; split <;> simp
@[simp] theorem State.lapse_reservations (i : Nat) (c : DoubtCause) :
    (s.lapse i c).reservations = s.reservations := by unfold State.lapse; split <;> simp

/-! `depart` changes line, notices, records only. -/

@[simp] theorem State.depart_pending (tool : ToolId) (n : Nat) :
    (s.depart tool n).pending = s.pending := by unfold State.depart; simp
@[simp] theorem State.depart_now (tool : ToolId) (n : Nat) :
    (s.depart tool n).now = s.now := by unfold State.depart; simp
@[simp] theorem State.depart_delay (tool : ToolId) (n : Nat) :
    (s.depart tool n).delay = s.delay := by unfold State.depart; simp
@[simp] theorem State.depart_port (tool : ToolId) (n : Nat) :
    (s.depart tool n).port = s.port := by unfold State.depart; simp
@[simp] theorem State.depart_config (tool : ToolId) (n : Nat) :
    (s.depart tool n).config = s.config := by unfold State.depart; simp
@[simp] theorem State.depart_roster (tool : ToolId) (n : Nat) :
    (s.depart tool n).roster = s.roster := by unfold State.depart; simp
@[simp] theorem State.depart_custody (tool : ToolId) (n : Nat) :
    (s.depart tool n).custody = s.custody := by unfold State.depart; simp
@[simp] theorem State.depart_bank (tool : ToolId) (n : Nat) :
    (s.depart tool n).bank = s.bank := by unfold State.depart; simp
@[simp] theorem State.depart_panels (tool : ToolId) (n : Nat) :
    (s.depart tool n).panels = s.panels := by unfold State.depart; simp
@[simp] theorem State.depart_head (tool : ToolId) (n : Nat) :
    (s.depart tool n).head = s.head := by unfold State.depart; simp
@[simp] theorem State.depart_magazine (tool : ToolId) (n : Nat) :
    (s.depart tool n).magazine = s.magazine := by unfold State.depart; simp
@[simp] theorem State.depart_demand (tool : ToolId) (n : Nat) :
    (s.depart tool n).demand = s.demand := by unfold State.depart; simp
@[simp] theorem State.depart_reservations (tool : ToolId) (n : Nat) :
    (s.depart tool n).reservations = s.reservations := by unfold State.depart; simp

/-! `returnToPrior` changes line, notices, records only. -/

@[simp] theorem State.returnToPrior_pending (tool : ToolId) (p : Prior) :
    (s.returnToPrior tool p).pending = s.pending := by unfold State.returnToPrior; simp
@[simp] theorem State.returnToPrior_now (tool : ToolId) (p : Prior) :
    (s.returnToPrior tool p).now = s.now := by unfold State.returnToPrior; simp
@[simp] theorem State.returnToPrior_delay (tool : ToolId) (p : Prior) :
    (s.returnToPrior tool p).delay = s.delay := by unfold State.returnToPrior; simp
@[simp] theorem State.returnToPrior_port (tool : ToolId) (p : Prior) :
    (s.returnToPrior tool p).port = s.port := by unfold State.returnToPrior; simp
@[simp] theorem State.returnToPrior_config (tool : ToolId) (p : Prior) :
    (s.returnToPrior tool p).config = s.config := by unfold State.returnToPrior; simp
@[simp] theorem State.returnToPrior_roster (tool : ToolId) (p : Prior) :
    (s.returnToPrior tool p).roster = s.roster := by unfold State.returnToPrior; simp
@[simp] theorem State.returnToPrior_custody (tool : ToolId) (p : Prior) :
    (s.returnToPrior tool p).custody = s.custody := by unfold State.returnToPrior; simp
@[simp] theorem State.returnToPrior_bank (tool : ToolId) (p : Prior) :
    (s.returnToPrior tool p).bank = s.bank := by unfold State.returnToPrior; simp
@[simp] theorem State.returnToPrior_panels (tool : ToolId) (p : Prior) :
    (s.returnToPrior tool p).panels = s.panels := by unfold State.returnToPrior; simp
@[simp] theorem State.returnToPrior_head (tool : ToolId) (p : Prior) :
    (s.returnToPrior tool p).head = s.head := by unfold State.returnToPrior; simp
@[simp] theorem State.returnToPrior_magazine (tool : ToolId) (p : Prior) :
    (s.returnToPrior tool p).magazine = s.magazine := by unfold State.returnToPrior; simp
@[simp] theorem State.returnToPrior_demand (tool : ToolId) (p : Prior) :
    (s.returnToPrior tool p).demand = s.demand := by unfold State.returnToPrior; simp
@[simp] theorem State.returnToPrior_reservations (tool : ToolId) (p : Prior) :
    (s.returnToPrior tool p).reservations = s.reservations := by unfold State.returnToPrior; simp

/-! `reseat` changes notices, records only. -/

@[simp] theorem State.reseat_pending (tool : ToolId) :
    (s.reseat tool).pending = s.pending := by unfold State.reseat; simp
@[simp] theorem State.reseat_now (tool : ToolId) : (s.reseat tool).now = s.now := by unfold State.reseat; simp
@[simp] theorem State.reseat_delay (tool : ToolId) :
    (s.reseat tool).delay = s.delay := by unfold State.reseat; simp
@[simp] theorem State.reseat_port (tool : ToolId) :
    (s.reseat tool).port = s.port := by unfold State.reseat; simp
@[simp] theorem State.reseat_config (tool : ToolId) :
    (s.reseat tool).config = s.config := by unfold State.reseat; simp
@[simp] theorem State.reseat_line (tool : ToolId) :
    (s.reseat tool).line = s.line := by unfold State.reseat; simp
@[simp] theorem State.reseat_roster (tool : ToolId) :
    (s.reseat tool).roster = s.roster := by unfold State.reseat; simp
@[simp] theorem State.reseat_custody (tool : ToolId) :
    (s.reseat tool).custody = s.custody := by unfold State.reseat; simp
@[simp] theorem State.reseat_bank (tool : ToolId) :
    (s.reseat tool).bank = s.bank := by unfold State.reseat; simp
@[simp] theorem State.reseat_panels (tool : ToolId) :
    (s.reseat tool).panels = s.panels := by unfold State.reseat; simp
@[simp] theorem State.reseat_head (tool : ToolId) :
    (s.reseat tool).head = s.head := by unfold State.reseat; simp
@[simp] theorem State.reseat_magazine (tool : ToolId) :
    (s.reseat tool).magazine = s.magazine := by unfold State.reseat; simp
@[simp] theorem State.reseat_demand (tool : ToolId) :
    (s.reseat tool).demand = s.demand := by unfold State.reseat; simp
@[simp] theorem State.reseat_reservations (tool : ToolId) :
    (s.reseat tool).reservations = s.reservations := by unfold State.reseat; simp

/-! `endRun` changes notices, records, head only. -/

@[simp] theorem State.endRun_pending (o : RunOutcome) :
    (s.endRun o).pending = s.pending := by unfold State.endRun; split <;> first | rfl | (split <;> simp)
@[simp] theorem State.endRun_now (o : RunOutcome) :
    (s.endRun o).now = s.now := by unfold State.endRun; split <;> first | rfl | (split <;> simp)
@[simp] theorem State.endRun_delay (o : RunOutcome) :
    (s.endRun o).delay = s.delay := by unfold State.endRun; split <;> first | rfl | (split <;> simp)
@[simp] theorem State.endRun_port (o : RunOutcome) :
    (s.endRun o).port = s.port := by unfold State.endRun; split <;> first | rfl | (split <;> simp)
@[simp] theorem State.endRun_config (o : RunOutcome) :
    (s.endRun o).config = s.config := by unfold State.endRun; split <;> first | rfl | (split <;> simp)
@[simp] theorem State.endRun_line (o : RunOutcome) :
    (s.endRun o).line = s.line := by unfold State.endRun; split <;> first | rfl | (split <;> simp)
@[simp] theorem State.endRun_roster (o : RunOutcome) :
    (s.endRun o).roster = s.roster := by unfold State.endRun; split <;> first | rfl | (split <;> simp)
@[simp] theorem State.endRun_custody (o : RunOutcome) :
    (s.endRun o).custody = s.custody := by unfold State.endRun; split <;> first | rfl | (split <;> simp)
@[simp] theorem State.endRun_bank (o : RunOutcome) :
    (s.endRun o).bank = s.bank := by unfold State.endRun; split <;> first | rfl | (split <;> simp)
@[simp] theorem State.endRun_panels (o : RunOutcome) :
    (s.endRun o).panels = s.panels := by unfold State.endRun; split <;> first | rfl | (split <;> simp)
@[simp] theorem State.endRun_magazine (o : RunOutcome) :
    (s.endRun o).magazine = s.magazine := by unfold State.endRun; split <;> first | rfl | (split <;> simp)
@[simp] theorem State.endRun_demand (o : RunOutcome) :
    (s.endRun o).demand = s.demand := by unfold State.endRun; split <;> first | rfl | (split <;> simp)
@[simp] theorem State.endRun_reservations (o : RunOutcome) :
    (s.endRun o).reservations = s.reservations := by unfold State.endRun; split <;> first | rfl | (split <;> simp)

/-! `endOperation` changes notices, panels only. -/

@[simp] theorem State.endOperation_pending (i : PanelId) (o : OpOutcome) :
    (s.endOperation i o).pending = s.pending := by unfold State.endOperation; split <;> simp
@[simp] theorem State.endOperation_now (i : PanelId) (o : OpOutcome) :
    (s.endOperation i o).now = s.now := by unfold State.endOperation; split <;> simp
@[simp] theorem State.endOperation_delay (i : PanelId) (o : OpOutcome) :
    (s.endOperation i o).delay = s.delay := by unfold State.endOperation; split <;> simp
@[simp] theorem State.endOperation_port (i : PanelId) (o : OpOutcome) :
    (s.endOperation i o).port = s.port := by unfold State.endOperation; split <;> simp
@[simp] theorem State.endOperation_config (i : PanelId) (o : OpOutcome) :
    (s.endOperation i o).config = s.config := by unfold State.endOperation; split <;> simp
@[simp] theorem State.endOperation_records (i : PanelId) (o : OpOutcome) :
    (s.endOperation i o).records = s.records := by unfold State.endOperation; split <;> simp
@[simp] theorem State.endOperation_line (i : PanelId) (o : OpOutcome) :
    (s.endOperation i o).line = s.line := by unfold State.endOperation; split <;> simp
@[simp] theorem State.endOperation_roster (i : PanelId) (o : OpOutcome) :
    (s.endOperation i o).roster = s.roster := by unfold State.endOperation; split <;> simp
@[simp] theorem State.endOperation_custody (i : PanelId) (o : OpOutcome) :
    (s.endOperation i o).custody = s.custody := by unfold State.endOperation; split <;> simp
@[simp] theorem State.endOperation_bank (i : PanelId) (o : OpOutcome) :
    (s.endOperation i o).bank = s.bank := by unfold State.endOperation; split <;> simp
@[simp] theorem State.endOperation_head (i : PanelId) (o : OpOutcome) :
    (s.endOperation i o).head = s.head := by unfold State.endOperation; split <;> simp
@[simp] theorem State.endOperation_magazine (i : PanelId) (o : OpOutcome) :
    (s.endOperation i o).magazine = s.magazine := by unfold State.endOperation; split <;> simp
@[simp] theorem State.endOperation_demand (i : PanelId) (o : OpOutcome) :
    (s.endOperation i o).demand = s.demand := by unfold State.endOperation; split <;> simp
@[simp] theorem State.endOperation_reservations (i : PanelId) (o : OpOutcome) :
    (s.endOperation i o).reservations = s.reservations := by unfold State.endOperation; split <;> simp

/-! `report` changes notices, panels only. -/

@[simp] theorem State.report_pending (why : Opening) (p : Nat) (r : Report) :
    (s.report why p r).pending = s.pending := by
  unfold State.report; split <;> first | rfl | (cases r <;> simp <;> split <;> simp)
@[simp] theorem State.report_now (why : Opening) (p : Nat) (r : Report) :
    (s.report why p r).now = s.now := by
  unfold State.report; split <;> first | rfl | (cases r <;> simp <;> split <;> simp)
@[simp] theorem State.report_delay (why : Opening) (p : Nat) (r : Report) :
    (s.report why p r).delay = s.delay := by
  unfold State.report; split <;> first | rfl | (cases r <;> simp <;> split <;> simp)
@[simp] theorem State.report_port (why : Opening) (p : Nat) (r : Report) :
    (s.report why p r).port = s.port := by
  unfold State.report; split <;> first | rfl | (cases r <;> simp <;> split <;> simp)
@[simp] theorem State.report_config (why : Opening) (p : Nat) (r : Report) :
    (s.report why p r).config = s.config := by
  unfold State.report; split <;> first | rfl | (cases r <;> simp <;> split <;> simp)
@[simp] theorem State.report_records (why : Opening) (p : Nat) (r : Report) :
    (s.report why p r).records = s.records := by
  unfold State.report; split <;> first | rfl | (cases r <;> simp <;> split <;> simp)
@[simp] theorem State.report_line (why : Opening) (p : Nat) (r : Report) :
    (s.report why p r).line = s.line := by
  unfold State.report; split <;> first | rfl | (cases r <;> simp <;> split <;> simp)
@[simp] theorem State.report_roster (why : Opening) (p : Nat) (r : Report) :
    (s.report why p r).roster = s.roster := by
  unfold State.report; split <;> first | rfl | (cases r <;> simp <;> split <;> simp)
@[simp] theorem State.report_custody (why : Opening) (p : Nat) (r : Report) :
    (s.report why p r).custody = s.custody := by
  unfold State.report; split <;> first | rfl | (cases r <;> simp <;> split <;> simp)
@[simp] theorem State.report_bank (why : Opening) (p : Nat) (r : Report) :
    (s.report why p r).bank = s.bank := by
  unfold State.report; split <;> first | rfl | (cases r <;> simp <;> split <;> simp)
@[simp] theorem State.report_head (why : Opening) (p : Nat) (r : Report) :
    (s.report why p r).head = s.head := by
  unfold State.report; split <;> first | rfl | (cases r <;> simp <;> split <;> simp)
@[simp] theorem State.report_magazine (why : Opening) (p : Nat) (r : Report) :
    (s.report why p r).magazine = s.magazine := by
  unfold State.report; split <;> first | rfl | (cases r <;> simp <;> split <;> simp)
@[simp] theorem State.report_demand (why : Opening) (p : Nat) (r : Report) :
    (s.report why p r).demand = s.demand := by
  unfold State.report; split <;> first | rfl | (cases r <;> simp <;> split <;> simp)
@[simp] theorem State.report_reservations (why : Opening) (p : Nat) (r : Report) :
    (s.report why p r).reservations = s.reservations := by
  unfold State.report; split <;> first | rfl | (cases r <;> simp <;> split <;> simp)

/-! `stock` changes records, bank only. -/

@[simp] theorem State.stock_pending (tool : ToolId) (p : Nat) :
    (s.stock tool p).pending = s.pending := by unfold State.stock; simp
@[simp] theorem State.stock_now (tool : ToolId) (p : Nat) :
    (s.stock tool p).now = s.now := by unfold State.stock; simp
@[simp] theorem State.stock_delay (tool : ToolId) (p : Nat) :
    (s.stock tool p).delay = s.delay := by unfold State.stock; simp
@[simp] theorem State.stock_port (tool : ToolId) (p : Nat) :
    (s.stock tool p).port = s.port := by unfold State.stock; simp
@[simp] theorem State.stock_notices (tool : ToolId) (p : Nat) :
    (s.stock tool p).notices = s.notices := by unfold State.stock; simp
@[simp] theorem State.stock_config (tool : ToolId) (p : Nat) :
    (s.stock tool p).config = s.config := by unfold State.stock; simp
@[simp] theorem State.stock_line (tool : ToolId) (p : Nat) :
    (s.stock tool p).line = s.line := by unfold State.stock; simp
@[simp] theorem State.stock_roster (tool : ToolId) (p : Nat) :
    (s.stock tool p).roster = s.roster := by unfold State.stock; simp
@[simp] theorem State.stock_custody (tool : ToolId) (p : Nat) :
    (s.stock tool p).custody = s.custody := by unfold State.stock; simp
@[simp] theorem State.stock_panels (tool : ToolId) (p : Nat) :
    (s.stock tool p).panels = s.panels := by unfold State.stock; simp
@[simp] theorem State.stock_head (tool : ToolId) (p : Nat) :
    (s.stock tool p).head = s.head := by unfold State.stock; simp
@[simp] theorem State.stock_magazine (tool : ToolId) (p : Nat) :
    (s.stock tool p).magazine = s.magazine := by unfold State.stock; simp
@[simp] theorem State.stock_demand (tool : ToolId) (p : Nat) :
    (s.stock tool p).demand = s.demand := by unfold State.stock; simp
@[simp] theorem State.stock_reservations (tool : ToolId) (p : Nat) :
    (s.stock tool p).reservations = s.reservations := by unfold State.stock; simp

/-! `unstock` changes records, bank only. -/

@[simp] theorem State.unstock_pending (tool : ToolId) (p : Nat) (st : RecordState) :
    (s.unstock tool p st).pending = s.pending := by unfold State.unstock; simp
@[simp] theorem State.unstock_now (tool : ToolId) (p : Nat) (st : RecordState) :
    (s.unstock tool p st).now = s.now := by unfold State.unstock; simp
@[simp] theorem State.unstock_delay (tool : ToolId) (p : Nat) (st : RecordState) :
    (s.unstock tool p st).delay = s.delay := by unfold State.unstock; simp
@[simp] theorem State.unstock_port (tool : ToolId) (p : Nat) (st : RecordState) :
    (s.unstock tool p st).port = s.port := by unfold State.unstock; simp
@[simp] theorem State.unstock_notices (tool : ToolId) (p : Nat) (st : RecordState) :
    (s.unstock tool p st).notices = s.notices := by unfold State.unstock; simp
@[simp] theorem State.unstock_config (tool : ToolId) (p : Nat) (st : RecordState) :
    (s.unstock tool p st).config = s.config := by unfold State.unstock; simp
@[simp] theorem State.unstock_line (tool : ToolId) (p : Nat) (st : RecordState) :
    (s.unstock tool p st).line = s.line := by unfold State.unstock; simp
@[simp] theorem State.unstock_roster (tool : ToolId) (p : Nat) (st : RecordState) :
    (s.unstock tool p st).roster = s.roster := by unfold State.unstock; simp
@[simp] theorem State.unstock_custody (tool : ToolId) (p : Nat) (st : RecordState) :
    (s.unstock tool p st).custody = s.custody := by unfold State.unstock; simp
@[simp] theorem State.unstock_panels (tool : ToolId) (p : Nat) (st : RecordState) :
    (s.unstock tool p st).panels = s.panels := by unfold State.unstock; simp
@[simp] theorem State.unstock_head (tool : ToolId) (p : Nat) (st : RecordState) :
    (s.unstock tool p st).head = s.head := by unfold State.unstock; simp
@[simp] theorem State.unstock_magazine (tool : ToolId) (p : Nat) (st : RecordState) :
    (s.unstock tool p st).magazine = s.magazine := by unfold State.unstock; simp
@[simp] theorem State.unstock_demand (tool : ToolId) (p : Nat) (st : RecordState) :
    (s.unstock tool p st).demand = s.demand := by unfold State.unstock; simp
@[simp] theorem State.unstock_reservations (tool : ToolId) (p : Nat) (st : RecordState) :
    (s.unstock tool p st).reservations = s.reservations := by unfold State.unstock; simp

end Sys2Proof.Machine
end

