-- ==== Sys2Proof/Laws/Ops.lean ====
section
/-! SUPPORT. What the shared operations do, once each: host commands on a free and on a busy port, notices, the record
of a tool id, the pocket and slot tables, and the queue operations. -/

namespace Sys2Proof.Machine

/-! ### Host commands -/

/-- On a free port a host command answers what its own rule gives. -/
theorem hostCommand_free {s : State} (h : s.PortFree) (c : Instr) (body : State → CommandResult) :
    hostCommand c body s = match body s with
      | .error r => .next (s.answered r [])
      | .ok (t, p) => .next (t.answered .ok p) := by
  obtain ⟨h1, h2, h3, h4⟩ := h
  unfold hostCommand takeCommand
  rw [if_neg (by simp [h1]), if_neg (by simp [h2, h3]), if_neg (by simp [h4])]
  cases body s <;> rfl

/-- On a busy port a host command sets COLLISION only. -/
theorem hostCommand_busy {s : State} (h : s.port.resetHeld = false)
    (hb : s.port.response.isSome = true ∨ s.port.commandSlot.isSome = true) (c : Instr)
    (body : State → CommandResult) :
    hostCommand c body s = .next { s with port := { s.port with collision := true } } := by
  unfold hostCommand
  rw [if_neg (by simp [h]), if_pos (by rcases hb with hb | hb <;> simp [hb])]

/-- A host command that is taken later enters the slot, and nothing else happens. -/
theorem hostCommand_waits {s : State} (h : s.port.resetHeld = false) (hr : s.port.response = none)
    (hs : s.port.commandSlot = none) (hl : s.delay.later = true) (c : Instr) (body : State → CommandResult) :
    hostCommand c body s = .next { s with port := { s.port with commandSlot := some c } } := by
  unfold hostCommand
  rw [if_neg (by simp [h]), if_neg (by simp [hr, hs]), if_pos hl]

/-- While the reset is held a host command does nothing. -/
theorem hostCommand_held {s : State} (h : s.port.resetHeld = true) (c : Instr) (body : State → CommandResult) :
    hostCommand c body s = .next s := by
  unfold hostCommand; rw [if_pos h]

/-- Whatever the port's state, a host command goes on; `P` holds of the next state if it holds of the old one, of the
port changes, and of what the body answers. -/
theorem hostCommand_elim {c : Instr} {body : State → CommandResult} {s t : State} (P : State → Prop)
    (h : hostCommand c body s = .next t) (same : P s)
    (port : ∀ (u : State) (q : Port), P u → q.nodeState = u.port.nodeState → P { u with port := q })
    (ok : ∀ u p, body s = .ok (u, p) → P u) : P t := by
  unfold hostCommand takeCommand at h
  split at h
  · cases h; exact same
  · split at h
    · cases h; exact port s _ same rfl
    · split at h
      · cases h; exact port s _ same rfl
      · split at h
        · cases h; exact port s _ same rfl
        · next u p hb => cases h; exact port u _ (ok u p hb) rfl

/-- What a step with no command in front can do: nothing during a reset, a tick, or the taking of the command that
waits in the slot. -/
theorem State.idle_cases (s : State) :
    (s.port.resetHeld = true ∧ s.idle = .next s)
    ∨ (s.port.resetHeld = false ∧ s.idle = .next s.tick)
    ∨ ∃ c, s.port.resetHeld = false ∧ s.port.commandSlot = some c ∧ s.delay.later = false
        ∧ s.idle = exec c { s with port.commandSlot := none } := by
  unfold State.idle
  cases hr : s.port.resetHeld
  · rcases hc : s.port.commandSlot with _ | c
    · exact .inr (.inl ⟨rfl, by simp⟩)
    · cases hl : s.delay.later
      · exact .inr (.inr ⟨c, rfl, rfl, rfl, by simp⟩)
      · exact .inr (.inl ⟨rfl, by simp⟩)
  · exact .inl ⟨rfl, by simp⟩

/-! ### Notices -/

/-- A posted notice at a queue with room. -/
theorem State.post_room {s : State} (h : s.notices.entries.length < 32) (k : NoticeKind)
    (o a : BitVec 32) :
    s.post k o a = { s with notices.entries := s.notices.entries ++
      [{ kind := k, object := o, argument := a, timestamp := s.now }] } := by
  simp [State.post, Config.noticeMax, h]

/-- A posted notice at a full queue. -/
theorem State.post_full {s : State} (h : 32 ≤ s.notices.entries.length) (k : NoticeKind)
    (o a : BitVec 32) : s.post k o a = { s with notices.overflow := true } := by
  simp [State.post, Config.noticeMax, Nat.not_lt.mpr h]

/-! ### The record of a tool id -/

/-- The record found for a tool id bears it. -/
theorem State.find_toolId {s : State} {tool : ToolId} {r : ToolRecord} (h : s.find tool = some r) :
    r.image.toolId = tool := by
  have := List.find?_some h; simpa using this

/-- The record found for a tool id is held. -/
theorem State.find_mem {s : State} {tool : ToolId} {r : ToolRecord} (h : s.find tool = some r) :
    r ∈ s.records := List.mem_of_find?_eq_some h

/-- A change of a record that keeps its tool id is found under that id. -/
theorem State.find_updateRecord {s : State} {tool : ToolId} {r : ToolRecord} (h : s.find tool = some r)
    (f : ToolRecord → ToolRecord) (hf : ∀ q, (f q).image.toolId = q.image.toolId) :
    (s.updateRecord tool f).find tool = some (f r) := by
  unfold State.find State.updateRecord at *
  generalize s.records = l at *
  induction l with
  | nil => cases h
  | cons a l ih =>
    rw [List.find?_cons] at h
    simp only [List.map_cons, List.find?_cons]
    by_cases e : a.image.toolId = tool
    · simp only [e, beq_self_eq_true, Option.some.injEq] at h
      subst h
      simp [e, hf]
    · have e' : (a.image.toolId == tool) = false := by simpa using e
      simp only [e', if_neg e] at h ⊢
      exact ih h

/-- The record found after a change of its state. -/
theorem State.find_setState {s : State} {tool : ToolId} {r : ToolRecord} (h : s.find tool = some r)
    (st : RecordState) : (s.setState tool st).find tool = some { r with state := st } :=
  State.find_updateRecord h (fun r => { r with state := st }) (fun _ => rfl)

/-- The record found after a change of its content. -/
theorem State.find_setImage {s : State} {tool : ToolId} {r : ToolRecord} (h : s.find tool = some r)
    (f : Image → Image) (hf : ∀ i, (f i).toolId = i.toolId) :
    (s.setImage tool f).find tool = some { r with image := f r.image } :=
  State.find_updateRecord h (fun r => { r with image := f r.image }) (fun q => hf q.image)

/-- The records decide what is found. -/
theorem State.find_congr {s t : State} (h : t.records = s.records) (tool : ToolId) :
    t.find tool = s.find tool := by unfold State.find; rw [h]

/-- RECORD_CHANGED shows the state and the place of the record found. -/
theorem State.postChanged_eq {s : State} {tool : ToolId} {r : ToolRecord} (h : s.find tool = some r) :
    s.postChanged tool = s.post .recordChanged tool
      (parts (byte r.state.code ++ byte r.state.placeCode.1 ++ byte r.state.placeCode.2)) := by
  unfold State.postChanged; rw [h]

/-! ### Pockets and slots -/

/-- A pocket number in the table is not 0. -/
theorem State.pocket?_pos {s : State} {p : Nat} {k : Pocket} (h : s.pocket? p = some k) : p ≠ 0 := by
  intro e; simp [State.pocket?, e] at h

/-- A pocket number in the table is at most the pocket count of the table. -/
theorem State.pocket?_le {s : State} {p : Nat} {k : Pocket} (h : s.pocket? p = some k) :
    p ≤ s.bank.pockets.length := by
  have hp := State.pocket?_pos h
  simp only [State.pocket?, hp, if_false] at h
  have := (List.getElem?_eq_some_iff.mp h).1
  omega

/-- The entry of a pocket after a change of it. -/
theorem State.pocket?_setPocket {s : State} {p : Nat} {k : Pocket} (h : s.pocket? p = some k)
    (f : Pocket → Pocket) : (s.setPocket p f).pocket? p = some (f k) := by
  have hp := State.pocket?_pos h
  simp only [State.pocket?, State.setPocket, hp, if_false] at h ⊢
  simp [h]

/-- The entry of a pocket after a change of another. -/
theorem State.pocket?_setPocket_ne {s : State} {p q : Nat} (h : q ≠ p) (f : Pocket → Pocket) :
    (s.setPocket p f).pocket? q = s.pocket? q := by
  unfold State.pocket? State.setPocket
  by_cases hp : p = 0
  · simp [hp]
  · by_cases hq : q = 0
    · simp [hq]
    · have e : p - 1 ≠ q - 1 := by omega
      simp [hp, hq, e]

/-- Two changes of one pocket are one. -/
theorem State.setPocket_setPocket (s : State) (p : Nat) (f g : Pocket → Pocket) :
    (s.setPocket p f).setPocket p g = s.setPocket p (fun k => g (f k)) := by
  unfold State.setPocket
  by_cases hp : p = 0
  · simp [hp]
  · simp [hp, List.modify_modify_eq]; rfl

/-- The entry of a slot after a change of it. -/
theorem State.slot?_setSlot {s : State} {n : Nat} {m : MagSlot} (h : s.slot? n ≠ none) :
    (s.setSlot n m).slot? n = some m := by
  have hn : n ≠ 0 := by intro e; simp [State.slot?, e] at h
  simp only [State.slot?, State.setSlot, hn, if_false] at h ⊢
  have : n - 1 < s.magazine.length := by
    by_contra hl
    exact h (List.getElem?_eq_none (by omega))
  simp [this]

/-- What a pocket is does not depend on the rest of the state. -/
theorem State.pocket?_congr {s t : State} (h : t.bank.pockets = s.bank.pockets) (p : Nat) :
    t.pocket? p = s.pocket? p := by unfold State.pocket?; rw [h]

/-! ### Calls and offers -/

/-- Nothing to say where no call is open at an index. -/
theorem State.closeCall_none {s : State} {i : Nat} (h : s.call? i = none) (o : CallOutcome) (n : Nat) :
    s.closeCall i o n = s := by unfold State.closeCall; rw [h]

/-- The call slot after a call is closed. -/
theorem State.closeCall_custody {s : State} {i : Nat} {c : CallSlot} (h : s.call? i = some c)
    (o : CallOutcome) (n : Nat) :
    (s.closeCall i o n).custody = { s.custody with calls := s.custody.calls.set i none } := by
  unfold State.closeCall; rw [h]; simp

/-- The notice of a closing call. -/
theorem State.closeCall_notices {s : State} {i : Nat} {c : CallSlot} (h : s.call? i = some c)
    (o : CallOutcome) (n : Nat) :
    (s.closeCall i o n).notices =
      (s.post .callDone c.tool (parts (byte o.code ++ byte n ++ byte o.reasonCode))).notices := by
  unfold State.closeCall; rw [h]
  simp only [State.post]
  simp
  split <;> simp

/-- A frame offered outside ONLINE is lost. -/
theorem State.offerFrame_offline {s : State} (h : s.port.nodeState ≠ .online) (f : TxFrame) :
    s.offerFrame f = s := by
  unfold State.offerFrame State.online
  rw [if_pos (by simp [h])]

/-! ### The frame on the line -/

/-- What the node drives: the frame in transmission as its station sends it (R27, R183). -/
theorem State.driven_eq_some {s : State} {w : WireFrame} : s.driven = some w ↔
    ∃ f, s.line.sendingFrame = some f ∧ w = wireFrame s.port.station f := by
  simp [State.driven, eq_comm]

/-- The source of a driven frame is the station that the straps gave (R183). -/
theorem State.driven_source {s : State} {w : WireFrame} (h : s.driven = some w) :
    w.source = s.port.station := by
  obtain ⟨f, -, rfl⟩ := State.driven_eq_some.mp h; rfl

/-- The start of an attempt is no frame sent. -/
@[simp] theorem State.startAttempt_lastSent (s : State) :
    s.startAttempt.line.lastSent = s.line.lastSent := by
  unfold State.startAttempt; split <;> rfl

/-- Offering a frame is no frame sent. -/
@[simp] theorem State.offerFrame_lastSent (s : State) (f : TxFrame) :
    (s.offerFrame f).line.lastSent = s.line.lastSent := by
  unfold State.offerFrame State.postDiscarded
  split
  · rfl
  split
  · simp
  split
  · split <;> simp
  · simp

end Sys2Proof.Machine
end

