-- ==== Sys2Proof/Laws/PerInstr.lean ====
section
/-! SUPPORT. A lemma for each command: the payload of a well-formed host command has a length that its code takes,
so its length byte says it whole; an event has no command frame. -/

namespace Sys2Proof.Laws

open Sys2Proof.Machine

/-- A well-formed host command's payload is at most 255 bytes long and has a length that its code takes (11.3), but
for an unknown command, whose code or length is refused (R178). -/
def SizeOk.Statement (i : Instr) : Prop :=
  WellFormed i = true → ∀ c, commandCode i = some c →
    (commandPayload i).length ≤ 255
      ∧ (lengthTaken c (commandPayload i).length = true ∨ ∃ code payload, i = .unknownCommand code payload)

/-- An event has no command code. -/
theorem SizeOk.ofNone (i : Instr) (h : commandCode i = none) : SizeOk.Statement i := by
  intro _ c hc
  simp [h] at hc

/-- A host command whose payload has, by computation, a length that its code takes. -/
theorem SizeOk.ofTaken (i : Instr) (c : Nat) (h : commandCode i = some c)
    (small : Nat.ble (commandPayload i).length 255 = true)
    (taken : lengthTaken c (commandPayload i).length = true) : SizeOk.Statement i := by
  intro _ d hd
  rw [h] at hd
  cases hd
  exact ⟨Nat.le_of_ble_eq_true small, .inl taken⟩

/-- A host command whose length follows from its well-formedness. -/
theorem SizeOk.ofLength (i : Instr) (c n : Nat) (h : commandCode i = some c)
    (hn : (commandPayload i).length = n) (hl : WellFormed i = true → n ≤ 255 ∧ lengthTaken c n = true) :
    SizeOk.Statement i := by
  intro w d hd
  rw [h] at hd
  cases hd
  rw [hn]
  exact ⟨(hl w).1, .inl (hl w).2⟩

theorem SizeOk.reset : SizeOk.Statement .reset := SizeOk.ofNone _ rfl
theorem SizeOk.readTransaction (bytesOut : Nat) : SizeOk.Statement (.readTransaction bytesOut) :=
  SizeOk.ofNone _ rfl
theorem SizeOk.commandCollision : SizeOk.Statement .commandCollision := SizeOk.ofNone _ rfl
theorem SizeOk.unknownCommand (code : Byte) (payload : List Byte) :
    SizeOk.Statement (.unknownCommand code payload) := by
  intro w _ _
  simp only [WellFormed, Bool.and_eq_true, decide_eq_true_eq] at w
  exact ⟨w.1.2, .inr ⟨code, payload, rfl⟩⟩
theorem SizeOk.readStatus : SizeOk.Statement .readStatus := SizeOk.ofTaken _ 1 rfl rfl rfl
theorem SizeOk.readNotice : SizeOk.Statement .readNotice := SizeOk.ofTaken _ 2 rfl rfl rfl
theorem SizeOk.configure (payload : List Byte) : SizeOk.Statement (.configure payload) :=
  SizeOk.ofLength _ 3 payload.length rfl rfl (fun w => by
    have hp : payload.length = 61 := eq_of_beq w
    rw [hp]
    exact ⟨by decide, rfl⟩)
theorem SizeOk.restore (state placeKind placeNumber prior counterpart handoff : Byte) (image : List Byte) :
    SizeOk.Statement (.restore state placeKind placeNumber prior counterpart handoff image) :=
  SizeOk.ofLength _ 4 (image.length + 6) rfl rfl (fun w => by
    have hi : image.length = if blockBit image then 47 else 31 := eq_of_beq w
    rw [hi]
    cases blockBit image <;> exact ⟨by decide, rfl⟩)
theorem SizeOk.join : SizeOk.Statement .join := SizeOk.ofTaken _ 5 rfl rfl rfl
theorem SizeOk.rejoin : SizeOk.Statement .rejoin := SizeOk.ofTaken _ 6 rfl rfl rfl
theorem SizeOk.readPeer (station : Byte) : SizeOk.Statement (.readPeer station) :=
  SizeOk.ofTaken _ 8 rfl rfl rfl
theorem SizeOk.pardon (station : Byte) : SizeOk.Statement (.pardon station) := SizeOk.ofTaken _ 9 rfl rfl rfl
theorem SizeOk.create (placeKind placeNumber : Byte) (image : List Byte) :
    SizeOk.Statement (.create placeKind placeNumber image) :=
  SizeOk.ofLength _ 16 (image.length + 2) rfl rfl (fun w => by
    have hi : image.length = 31 := eq_of_beq w
    rw [hi]
    exact ⟨by decide, rfl⟩)
theorem SizeOk.drop (tool : ToolId) : SizeOk.Statement (.drop tool) := SizeOk.ofTaken _ 17 rfl rfl rfl
theorem SizeOk.resolve (tool : ToolId) (choice : Byte) : SizeOk.Statement (.resolve tool choice) :=
  SizeOk.ofTaken _ 18 rfl rfl rfl
theorem SizeOk.markDamaged (tool : ToolId) : SizeOk.Statement (.markDamaged tool) :=
  SizeOk.ofTaken _ 19 rfl rfl rfl
theorem SizeOk.regrind (tool : ToolId) (newLength : Option (BitVec 24)) :
    SizeOk.Statement (.regrind tool newLength) := by
  cases newLength <;> exact SizeOk.ofTaken _ 20 rfl rfl rfl
theorem SizeOk.readRecord (tool : ToolId) : SizeOk.Statement (.readRecord tool) :=
  SizeOk.ofTaken _ 21 rfl rfl rfl
theorem SizeOk.listRecords (start : Byte) : SizeOk.Statement (.listRecords start) :=
  SizeOk.ofTaken _ 22 rfl rfl rfl
theorem SizeOk.issue (panel : Byte) (cls : BitVec 16) (forStation : Byte) :
    SizeOk.Statement (.issue panel cls forStation) :=
  SizeOk.ofTaken _ 32 rfl rfl rfl
theorem SizeOk.returnTool (panel : Byte) (pocket : Option Byte) :
    SizeOk.Statement (.returnTool panel pocket) := by
  cases pocket <;> exact SizeOk.ofTaken _ 33 rfl rfl rfl
theorem SizeOk.serviceOpen (panel : Byte) (list : List Byte) : SizeOk.Statement (.serviceOpen panel list) :=
  SizeOk.ofLength _ 34 (list.length + 1) rfl rfl (fun w => by
    have hl : list.length ≤ 254 := of_decide_eq_true w
    refine ⟨by omega, ?_⟩
    show (decide (1 ≤ list.length + 1) && decide (list.length + 1 ≤ 255)) = true
    rw [decide_eq_true (by omega), decide_eq_true (by omega)]
    rfl)
theorem SizeOk.cancel (panel : Byte) : SizeOk.Statement (.cancel panel) := SizeOk.ofTaken _ 35 rfl rfl rfl
theorem SizeOk.identifyPocket (pocket : Byte) (tool : ToolId) :
    SizeOk.Statement (.identifyPocket pocket tool) :=
  SizeOk.ofTaken _ 36 rfl rfl rfl
theorem SizeOk.clearPocketFault (pocket : Byte) : SizeOk.Statement (.clearPocketFault pocket) :=
  SizeOk.ofTaken _ 37 rfl rfl rfl
theorem SizeOk.readPocket (pocket : Byte) : SizeOk.Statement (.readPocket pocket) :=
  SizeOk.ofTaken _ 38 rfl rfl rfl
theorem SizeOk.readPanel (panel : Byte) : SizeOk.Statement (.readPanel panel) :=
  SizeOk.ofTaken _ 39 rfl rfl rfl
theorem SizeOk.readReservations : SizeOk.Statement .readReservations := SizeOk.ofTaken _ 40 rfl rfl rfl
theorem SizeOk.identifyHead (tool : ToolId) : SizeOk.Statement (.identifyHead tool) :=
  SizeOk.ofTaken _ 48 rfl rfl rfl
theorem SizeOk.measureReference (n : Byte) (t : BitVec 16) : SizeOk.Statement (.measureReference n t) :=
  SizeOk.ofTaken _ 49 rfl rfl rfl
theorem SizeOk.measure (tool : ToolId) (n : Byte) (t : BitVec 16) : SizeOk.Statement (.measure tool n t) :=
  SizeOk.ofTaken _ 50 rfl rfl rfl
theorem SizeOk.abortMeasure : SizeOk.Statement .abortMeasure := SizeOk.ofTaken _ 51 rfl rfl rfl
theorem SizeOk.readHead : SizeOk.Statement .readHead := SizeOk.ofTaken _ 52 rfl rfl rfl
theorem SizeOk.load (slot : Byte) (tool : ToolId) : SizeOk.Statement (.load slot tool) :=
  SizeOk.ofTaken _ 64 rfl rfl rfl
theorem SizeOk.unload (slot : Byte) : SizeOk.Statement (.unload slot) := SizeOk.ofTaken _ 65 rfl rfl rfl
theorem SizeOk.charge (slot : Byte) (seconds : BitVec 16) : SizeOk.Statement (.charge slot seconds) :=
  SizeOk.ofTaken _ 66 rfl rfl rfl
theorem SizeOk.readSlot (slot : Byte) : SizeOk.Statement (.readSlot slot) := SizeOk.ofTaken _ 67 rfl rfl rfl
theorem length_flatMap_three (l : List (BitVec 16 × Byte)) :
    (l.flatMap (fun e => beBytes 2 e.1.toNat ++ [e.2])).length = 3 * l.length := by
  induction l with
  | nil => rfl
  | cons e l ih =>
    rw [List.flatMap_cons, List.length_append, ih]
    show 3 + 3 * l.length = 3 * (l.length + 1)
    omega
theorem SizeOk.setDemand (entries : List (BitVec 16 × Byte)) : SizeOk.Statement (.setDemand entries) :=
  SizeOk.ofLength _ 68 (3 * entries.length) rfl (length_flatMap_three entries) (fun w => by
    have hl : entries.length ≤ 85 := of_decide_eq_true w
    refine ⟨by omega, ?_⟩
    show (3 * entries.length % 3 == 0 && decide (3 * entries.length ≤ 255)) = true
    rw [decide_eq_true (by omega), Nat.mul_mod_right]
    rfl)
theorem SizeOk.startDemand (mode : Byte) (interval : Byte) (target : Byte) (hold : Byte) :
    SizeOk.Statement (.startDemand mode interval target hold) :=
  SizeOk.ofTaken _ 69 rfl rfl rfl
theorem SizeOk.stopDemand : SizeOk.Statement .stopDemand := SizeOk.ofTaken _ 70 rfl rfl rfl
theorem SizeOk.readDemand : SizeOk.Statement .readDemand := SizeOk.ofTaken _ 71 rfl rfl rfl
theorem SizeOk.lineIdle : SizeOk.Statement .lineIdle := SizeOk.ofNone _ rfl
theorem SizeOk.arbitrationLost : SizeOk.Statement .arbitrationLost := SizeOk.ofNone _ rfl
theorem SizeOk.bitError (startMark : Bool) : SizeOk.Statement (.bitError startMark) := SizeOk.ofNone _ rfl
theorem SizeOk.frameSent : SizeOk.Statement .frameSent := SizeOk.ofNone _ rfl
theorem SizeOk.frameReceived (frame : WireFrame) : SizeOk.Statement (.frameReceived frame) :=
  SizeOk.ofNone _ rfl
theorem SizeOk.malformedFrame : SizeOk.Statement .malformedFrame := SizeOk.ofNone _ rfl
theorem SizeOk.presence : SizeOk.Statement .presence := SizeOk.ofNone _ rfl
theorem SizeOk.call : SizeOk.Statement .call := SizeOk.ofNone _ rfl
theorem SizeOk.offer : SizeOk.Statement .offer := SizeOk.ofNone _ rfl
theorem SizeOk.accept : SizeOk.Statement .accept := SizeOk.ofNone _ rfl
theorem SizeOk.decline : SizeOk.Statement .decline := SizeOk.ofNone _ rfl
theorem SizeOk.here : SizeOk.Statement .here := SizeOk.ofNone _ rfl
theorem SizeOk.check : SizeOk.Statement .check := SizeOk.ofNone _ rfl
theorem SizeOk.checkReply : SizeOk.Statement .checkReply := SizeOk.ofNone _ rfl
theorem SizeOk.demand : SizeOk.Statement .demand := SizeOk.ofNone _ rfl
theorem SizeOk.lineHeld (startNs : Nat) (driverAsserting : Bool) :
    SizeOk.Statement (.lineHeld startNs driverAsserting) :=
  SizeOk.ofNone _ rfl
theorem SizeOk.lineReleased (endNs : Nat) : SizeOk.Statement (.lineReleased endNs) := SizeOk.ofNone _ rfl
theorem SizeOk.nodeOnline : SizeOk.Statement .nodeOnline := SizeOk.ofNone _ rfl
theorem SizeOk.beaconExpiry : SizeOk.Statement .beaconExpiry := SizeOk.ofNone _ rfl
theorem SizeOk.peerAbsent (station : Nat) : SizeOk.Statement (.peerAbsent station) := SizeOk.ofNone _ rfl
theorem SizeOk.callWaitExpiry (slot : Nat) : SizeOk.Statement (.callWaitExpiry slot) := SizeOk.ofNone _ rfl
theorem SizeOk.offerWaitExpiry (slot : Nat) : SizeOk.Statement (.offerWaitExpiry slot) := SizeOk.ofNone _ rfl
theorem SizeOk.checkWaitExpiry (tool : ToolId) : SizeOk.Statement (.checkWaitExpiry tool) :=
  SizeOk.ofNone _ rfl
theorem SizeOk.pocketFirstReading (pocket : Nat) (levelHigh : Bool) :
    SizeOk.Statement (.pocketFirstReading pocket levelHigh) :=
  SizeOk.ofNone _ rfl
theorem SizeOk.pocketRemoval (pocket : Nat) : SizeOk.Statement (.pocketRemoval pocket) := SizeOk.ofNone _ rfl
theorem SizeOk.pocketInsertion (pocket : Nat) : SizeOk.Statement (.pocketInsertion pocket) :=
  SizeOk.ofNone _ rfl
theorem SizeOk.currentSeen (pocket : Nat) : SizeOk.Statement (.currentSeen pocket) := SizeOk.ofNone _ rfl
theorem SizeOk.pullInExpiry (pocket : Nat) : SizeOk.Statement (.pullInExpiry pocket) := SizeOk.ofNone _ rfl
theorem SizeOk.shortCurrent (pocket : Nat) : SizeOk.Statement (.shortCurrent pocket) := SizeOk.ofNone _ rfl
theorem SizeOk.holdExpiry (pocket : Nat) : SizeOk.Statement (.holdExpiry pocket) := SizeOk.ofNone _ rfl
theorem SizeOk.supplyLow : SizeOk.Statement .supplyLow := SizeOk.ofNone _ rfl
theorem SizeOk.supplyNormal : SizeOk.Statement .supplyNormal := SizeOk.ofNone _ rfl
theorem SizeOk.digitKey (panel : PanelId) (digit : Nat) : SizeOk.Statement (.digitKey panel digit) :=
  SizeOk.ofNone _ rfl
theorem SizeOk.enter (panel : PanelId) : SizeOk.Statement (.enter panel) := SizeOk.ofNone _ rfl
theorem SizeOk.clear (panel : PanelId) : SizeOk.Statement (.clear panel) := SizeOk.ofNone _ rfl
theorem SizeOk.interKeyExpiry (panel : PanelId) : SizeOk.Statement (.interKeyExpiry panel) :=
  SizeOk.ofNone _ rfl
theorem SizeOk.lockoutExpiry (panel : PanelId) : SizeOk.Statement (.lockoutExpiry panel) :=
  SizeOk.ofNone _ rfl
theorem SizeOk.windowExpiry (panel : PanelId) : SizeOk.Statement (.windowExpiry panel) := SizeOk.ofNone _ rfl
theorem SizeOk.scaleStep (scale : Scale) (up : Bool) : SizeOk.Statement (.scaleStep scale up) :=
  SizeOk.ofNone _ rfl
theorem SizeOk.scaleError (scale : Scale) : SizeOk.Statement (.scaleError scale) := SizeOk.ofNone _ rfl
theorem SizeOk.capture (rising : Bool) : SizeOk.Statement (.capture rising) := SizeOk.ofNone _ rfl
theorem SizeOk.captureTimeout : SizeOk.Statement .captureTimeout := SizeOk.ofNone _ rfl
theorem SizeOk.seatFirstReading (levelHigh : Bool) : SizeOk.Statement (.seatFirstReading levelHigh) :=
  SizeOk.ofNone _ rfl
theorem SizeOk.headSeated : SizeOk.Statement .headSeated := SizeOk.ofNone _ rfl
theorem SizeOk.headUnseated : SizeOk.Statement .headUnseated := SizeOk.ofNone _ rfl
theorem SizeOk.cycleExpiry : SizeOk.Statement .cycleExpiry := SizeOk.ofNone _ rfl
theorem SizeOk.triggerEdge (levelHigh : Bool) : SizeOk.Statement (.triggerEdge levelHigh) :=
  SizeOk.ofNone _ rfl
theorem SizeOk.reservationExpiry (requester : Nat) (cls : Nat) :
    SizeOk.Statement (.reservationExpiry requester cls) :=
  SizeOk.ofNone _ rfl
theorem SizeOk.dominantEdge : SizeOk.Statement .dominantEdge := SizeOk.ofNone _ rfl
theorem SizeOk.startMarkRead (widthNs : Nat) : SizeOk.Statement (.startMarkRead widthNs) :=
  SizeOk.ofNone _ rfl
theorem SizeOk.framingError (cause : FramingCause) : SizeOk.Statement (.framingError cause) :=
  SizeOk.ofNone _ rfl
theorem SizeOk.resetEnds (straps : BitVec 6) : SizeOk.Statement (.resetEnds straps) := SizeOk.ofNone _ rfl

end Sys2Proof.Laws
end

