-- ==== Sys2Proof/Tests/Slice0.lean ====
section
/-! SUPPORT. Our own tests: ill-formed commands that WellFormed refuses, command frames written out byte by byte,
single steps with results from the spec's rules and tables, and for each statement with hypotheses a state and
operands that meet them. -/

namespace Sys2Proof.Tests

open Sys2Proof.Machine

/-! ### States and helpers -/

/-- An image of class 9: within tolerance, 20 of 100 seconds used, warn margin 10. -/
def image (tool : ToolId) : Image where
  toolId := tool
  cls := 9
  nomLength := 1000
  lengthTol := 10
  nomRadius := 500
  radiusTol := 10
  runoutLimit := 20
  lifeLimit := 100
  lifeUsed := 20
  warnMargin := 10
  remeasureInterval := 0
  regrinds := 0
  damaged := false
  measured := some
    { length := 1000, radius := 500, runout := 5, verdict := .within, station := 5, temperature := 2000,
      kept := 4, lifeAtMeasure := 20 }

/-- A held record. -/
def held (tool : ToolId) (st : RecordState) : ToolRecord := { image := image tool, state := st }

/-- A CLOSED pocket in service. -/
def pocket (r : Reading) (o : Occupancy) : Pocket :=
  { presence := r, occupancy := o, lock := .closed, fault := .none, reservedFor := none }

/-- An ONLINE node, station 5, with 3 pockets, 2 slots and a head, and records in most states. -/
def node : State :=
  { State.reset with
    now := 1000
    port := { Port.atReset with resetHeld := false, station := 5, nodeState := .online }
    config := { NodeConfig.atReset with
      pocketCount := 3, slotCount := 2, head := true, lineRate := 2, beaconCode := 2, pullInMs := 120
      holdS := 20, sensorHigh := true, captureRising := true, triggerHigh := true, band := 40
      codeTable := [{ enabled := true, digits := [1, 2, 3, 4], privilege := .both }] }
    line := { Line.atReset with receiver := .waiting, condition := .receiving }
    bank := { Bank.atReset with pockets :=
      [pocket .present (.held 11), pocket .absent .empty, pocket .present .unknown] }
    magazine := [.empty, .loaded 13]
    head := { Head.atReset with seat := .present }
    custody := { Custody.atReset with outs := [some
      { tool := 15, caller := 21, handoff := 4, tries := 1, deadline := 1000 }, none, none, none] }
    records := [held 11 (.stocked 1), held 12 .loose, held 13 (.loaded 2),
      held 14 (.inDoubt { counterpart := 20, handoff := 3 } .missing (some 1000)),
      held 15 (.outbound { counterpart := 21, handoff := 4 } .loose)] }

/-- The node with other records, pockets or slots. -/
def withRecords (l : List ToolRecord) : State := { node with records := l }
/-- The node with one other pocket 1. -/
def withPocket (k : Pocket) : State := { node with bank.pockets := [k, pocket .absent .empty] }
/-- The node in another node state. -/
def inState (n : NodeState) : State := { node with port.nodeState := n }
/-- The node with an open window and no operation on panel A. -/
def withWindow (p : Privilege) : State :=
  { node with panels.a.window := some { privilege := p, entry := 1, expiry := 1000 } }
/-- The node with a run. -/
def withRun (k : RunKind) (n : Nat) : State :=
  { node with
    records := [held 16 .measuring]
    head := { node.head with
      run := some { kind := k, n := n, t := 2000, deadline := 1000 }
      samples := List.replicate 3 { z := 7, x := 3 } } }
/-- The node with an open call for tool 30 with a purpose, at this many tries. -/
def withCall (why : Purpose) (tries : Nat) : State :=
  { node with custody.calls := [some
    { tool := 30, purpose := why, tries := tries, deadline := 1000, busyStation := some 9 },
    none, none, none] }
/-- The node with a received frame in front. -/
def withFrame (kind : BitVec 4) (cls : BitVec 2) (dest : BitVec 6) (payload : List Byte) : State :=
  { node with line.rxQueue :=
    [{ cls := cls, kind := kind, source := 21, destination := dest, payload := payload }] }
/-- The node with queued frames. -/
def withQueue (l : List TxFrame) : State := { node with line.txQueue := l }
/-- The node as it is while command frames wait in the slot, with this command there. -/
def waiting (c : Option Instr) : State :=
  { node with port.commandSlot := c, delay := { later := true, draws := 0 } }
/-- The node with one roster entry put in. -/
def withPeer (n : Nat) (p : Peer) : State :=
  { node with roster.peers := node.roster.peers.set (n - 1) p }
/-- An entry PRESENT since 500, its deadline reached. -/
def present : Peer :=
  { Peer.atReset with state := .present, lastHeard := 500, absence := some 1000, strikes := 2 }
/-- A frame of the run's DEMAND in transmission. -/
def sendingDemand : TxFrame := { newFrame .demand 63 [10] .demandRun with sending := true }

/-- The state that a command leaves. -/
def after (c : Instr) (s : State) : State :=
  match exec c s with
  | .next t => t
  | _ => s
/-- The result and the payload in the response slot. -/
def answer (s : State) : Option (HostResult × List Byte) :=
  s.port.response.map (fun r => (r.result, r.payload))
/-- The kinds of the queued notices. -/
def kinds (s : State) : List NoticeKind := s.notices.entries.map (·.kind)
/-- Whether the port takes a command frame as it completes. -/
def free (s : State) : Bool :=
  !s.port.resetHeld && s.port.response.isNone && s.port.commandSlot.isNone && !s.delay.later

/-- `free` is the hypothesis of the statements. -/
theorem test_free (s : State) (h : free s = true) : s.PortFree := by
  simp only [free, Bool.and_eq_true, Bool.not_eq_true', Option.isNone_iff_eq_none] at h
  exact ⟨h.1.1.1, h.1.1.2, h.1.2, h.2⟩

/-! ### WellFormed refuses -/

theorem test_ill_known_code_unknown : WellFormed (.unknownCommand 1 []) = false := by decide
theorem test_ill_code_zero : WellFormed (.unknownCommand 0 []) = false := by decide
theorem test_ill_configure_length : WellFormed (.configure [1]) = false := by decide
theorem test_ill_restore_image : WellFormed (.restore 5 0 0 0 0 0 [1]) = false := by decide
theorem test_ill_create_image : WellFormed (.create 0 0 (List.replicate 32 0)) = false := by decide
set_option maxRecDepth 4000 in
theorem test_ill_service_list : WellFormed (.serviceOpen 1 (List.replicate 255 1)) = false := by decide
theorem test_ill_set_demand : WellFormed (.setDemand (List.replicate 86 (1, 1))) = false := by decide
theorem test_ill_frame_length : WellFormed (.frameReceived
    { cls := 0, kind := 1, source := 1, destination := 1, length := 1, payload := [], crc := 0 }) = false := by
  decide
theorem test_ill_peer : WellFormed (.peerAbsent 63) = false := by decide
theorem test_ill_call_slot : WellFormed (.callWaitExpiry 5) = false := by decide
theorem test_ill_offer_slot : WellFormed (.offerWaitExpiry 0) = false := by decide
theorem test_ill_check_tool : WellFormed (.checkWaitExpiry 0) = false := by decide
theorem test_ill_pocket : WellFormed (.pocketRemoval 49) = false := by decide
theorem test_ill_first_reading : WellFormed (.pocketFirstReading 0 true) = false := by decide
theorem test_ill_digit : WellFormed (.digitKey .a 10) = false := by decide
theorem test_ill_reservation : WellFormed (.reservationExpiry 1 0) = false := by decide

/-! ### Command frames written out (10.2, 11.3) -/

theorem test_frame_read_status : decodeFrame [1, 0] = some .readStatus := by decide
theorem test_frame_pardon : decodeFrame [9, 1, 7] = some (.pardon 7) := by decide
theorem test_frame_drop : decodeFrame [17, 4, 0, 0, 1, 2] = some (.drop 258) := by decide
theorem test_frame_regrind : decodeFrame [20, 7, 0, 0, 0, 3, 0, 1, 0] =
    some (.regrind 3 (some 256)) := by decide
theorem test_frame_issue : decodeFrame [32, 4, 1, 1, 2, 63] = some (.issue 1 258 63) := by decide
theorem test_frame_return : decodeFrame [33, 1, 2] = some (.returnTool 2 none) := by decide
theorem test_frame_measure : decodeFrame [50, 7, 0, 0, 0, 3, 8, 7, 208] =
    some (.measure 3 8 2000) := by decide
theorem test_frame_charge : decodeFrame [66, 3, 2, 14, 16] = some (.charge 2 3600) := by decide
theorem test_frame_set_demand : decodeFrame [68, 6, 0, 9, 2, 1, 0, 4] =
    some (.setDemand [(9, 2), (256, 4)]) := by decide
theorem test_frame_wrong_length : decodeFrame [17, 1, 0] = some (.unknownCommand 17 [0]) := by decide
theorem test_frame_unfinished : decodeFrame [17, 4, 0, 0] = none := by decide
theorem test_frame_read_transaction : decodeFrame [0, 0] = none := by decide

/-! ### Hypotheses are met: the step, the laws, the local port -/

/-- The node while a response waits. -/
def answering : State := { node with port.response := some { result := .ok, payload := [7] } }
/-- The node before CONFIGURE, with this station number. -/
def bare (station : BitVec 6) : State :=
  { State.reset with port := { Port.atReset with resetHeld := false, station := station } }
/-- A notice. -/
def note : Notice := { kind := .nodeOnline, object := 5, argument := 0, timestamp := 9 }
/-- A CONFIGURE payload: 3 pockets, 2 slots, a head, defaults, code entry 1 with digits 1234 for both. -/
def configBytes : List Byte :=
  [3, 2, 1, 2, 2, 20, 0, 0, 0, 7, 0, 0, 100, 0, 0, 50, 0, 10, 0, 0, 0xA4, 0x12, 0x34, 0, 0]
    ++ List.replicate 35 0 ++ [63]
/-- Base bytes of an image of this tool, class 9, life limit 100. -/
def baseBytes (tool : Byte) : List Byte :=
  [0, 0, 0, tool, 0, 9, 0, 3, 232, 0, 10, 0, 1, 244, 0, 10, 0, 20, 0, 0, 100, 0, 0, 20, 0, 0, 10, 0, 0, 0, 0]

theorem witness_StepRunsFrontCommand :
    ({ node with pending := [.readStatus] } : State).pending = [.readStatus]
      ∧ State.reset.pending = [] ∧ State.reset.port.resetHeld = true
      ∧ node.pending = [] ∧ node.port.resetHeld = false ∧ node.port.commandSlot = none
      ∧ (waiting (some .join)).pending = [] ∧ (waiting (some .join)).delay.later = true
      ∧ ({ waiting (some .join) with delay.later := false } : State).port.commandSlot = some .join
      ∧ ({ waiting (some .join) with delay.later := false } : State).delay.later = false := by decide

theorem witness_CommandFramesRoundTrip : WellFormed (.pardon 62) = true
    ∧ encodeFrame (.pardon 62) = some [9, 1, 62] := by decide

theorem witness_step : ∃ t, step node = .next t := ⟨_, rfl⟩

theorem witness_SizesKept : node.Sized := by constructor <;> decide

theorem witness_LineLawKept : (withQueue []).LineLaw ∧
    ({ withQueue [sendingDemand, newFrame .presence 63 [] .presence] with
      line.condition := .transmitting } : State).LineLaw := by
  constructor <;> constructor <;> first | decide | (unfold Line.Ordered; decide)

theorem witness_DriveLaw : (withPocket { pocket .present (.held 11) with
    lock := .holding { purpose := .issue, panel := .a } 5 }).DriveLaw := by constructor <;> decide

theorem witness_PullInLaw : ({ node with
    bank.pockets := [{ pocket .present (.held 11) with
      lock := .pulling { purpose := .issue, panel := .a } true }]
    bank.pullIns := [some { pocket := 1, deadline := 5 }, none, none, none] } : State).PullInLaw := by
  refine ⟨by decide, fun p k h _ => ⟨{ pocket := 1, deadline := 5 }, by decide, ?_⟩⟩
  rcases p with _ | _ | p
  · exact absurd rfl (State.pocket?_pos h)
  · rfl
  · simp [State.pocket?] at h

theorem witness_RecordLawKept : node.RecordLaw ∧ (withCall .head 1).RecordLaw := by
  constructor <;> constructor <;> decide

theorem witness_PortLaw : node.PortLaw ∧ State.reset.PortLaw ∧ (waiting (some .join)).PortLaw
    ∧ ({ withQueue [sendingDemand] with
        line.lastSent := some (wireFrame 5 sendingDemand) } : State).PortLaw := by
  refine ⟨?_, ?_, ?_, ?_⟩ <;> constructor <;>
    simp [node, waiting, withQueue, sendingDemand, wireFrame, State.driven, Line.sendingFrame, State.reset,
      Port.atReset, Line.atReset, commandCode]

theorem witness_PlaceLaw : node.PlaceLaw := by
  constructor
  · intro p tool
    rcases p with _ | _ | _ | _ | p <;> simp [node, State.pocket?, pocket, held, image, eq_comm]
  · intro n tool
    rcases n with _ | _ | _ | n <;> simp [node, State.slot?, held, image, eq_comm]
  · decide
  · intro tool; simp [node, held, Head.atReset]
  · decide
  · simp [node, Custody.atReset]
  · intro n tool
    rcases n with _ | _ | _ | n <;> simp [node, State.slot?]
  · decide
  · decide

theorem witness_OfferLaw : node.OfferLaw := by
  constructor
  · simp [node, held, image]
  · simp [node, held, image]
  · decide

theorem test_image_in_range (tool : ToolId) (h : tool ≠ 0) : (image tool).InRange := by
  constructor <;> simp_all [image, Config.lengthMax, Config.radiusMax, Config.lifeMax, Config.runoutMax]

theorem witness_node_in_range : node.RangeLaw := by
  intro r hr
  simp only [node, List.mem_cons, List.not_mem_nil, or_false] at hr
  rcases hr with rfl | rfl | rfl | rfl | rfl <;> exact test_image_in_range _ (by decide)

theorem witness_RangeLawKept : node.RangeLaw ∧ node.RecordLaw ∧ node.PortLaw ∧ node.LineLaw ∧ node.RunLaw
    ∧ (withRun (.measurement 16) 4).RunLaw :=
  ⟨witness_node_in_range, witness_RecordLawKept.1, witness_PortLaw.1,
    by constructor <;> first | decide | (unfold Line.Ordered; decide),
    fun r h => by simp [node, Head.atReset] at h,
    fun r h => by
      simp only [withRun, Option.some.injEq] at h
      subst h
      decide⟩

theorem witness_HostCommandsAnswerOnce : (commandCode .readStatus).isSome = true
    ∧ (commandCode (.configure configBytes)).isSome = true ∧ node.PortFree
    ∧ (waiting none).port.resetHeld = false ∧ (waiting none).port.response = none
    ∧ (waiting none).port.commandSlot = none ∧ (waiting none).delay.later = true :=
  ⟨by decide, by decide, test_free _ (by decide), rfl, rfl, rfl, rfl⟩

theorem witness_DiscardedCommandFrames : (commandCode .join).isSome = true
    ∧ answering.port.resetHeld = false ∧ answering.port.response.isSome = true
    ∧ (waiting (some .readStatus)).port.commandSlot.isSome = true := by decide

theorem witness_ReadTransactionEmptiesTheSlot : node.port.resetHeld = false ∧ node.port.response = none
    ∧ answering.port.response = some { result := .ok, payload := [7] } := by decide

theorem witness_NoticeQueueRules : free node = true ∧ node.notices.entries = []
    ∧ ({ node with notices.entries := [note] } : State).notices.entries = note :: []
    ∧ 32 ≤ (List.replicate 32 note).length ∧ (List.replicate 31 note).length < 32 := by decide

theorem witness_ConfigureLoadsTheNode : configBytes.length = 61
    ∧ free (bare 1) = true ∧ (bare 1).port.nodeState = .unconfigured ∧ 1 ≤ (bare 1).port.station.toNat
    ∧ free (bare 62) = true ∧ (bare 62).port.station.toNat ≤ 62
    ∧ (bare 0).port.station = 0 ∧ (bare 63).port.station = 63
    ∧ node.port.nodeState ≠ .unconfigured
    ∧ field configBytes 6 2 = 0 ∧ field configBytes 8 1 = 0 ∧ field configBytes 18 2 = 0
    ∧ { enabled := true, digits := [1, 2, 3, 4], privilege := .both } ∈ (parseConfig configBytes).codeTable := by
  decide

/-- The node with an open call for slot 1. -/
def slotCall : State := withCall (.slot 1) 1

theorem witness_JoinAndRejoin : free (inState .configured) = true ∧ (inState .configured).port.nodeState = .configured
    ∧ (inState .unconfigured).port.nodeState = .unconfigured
    ∧ (inState .listening).port.nodeState ≠ .unconfigured ∧ (inState .listening).port.nodeState ≠ .configured
    ∧ node.port.nodeState = .online
    ∧ some { tool := 15, caller := 21, handoff := 4, tries := 1, deadline := 1000 } ∈ node.custody.outs
    ∧ node.find 15 = some (held 15 (.outbound { counterpart := 21, handoff := 4 } .loose))
    ∧ (slotCall.call? 0).map (·.purpose) = some (.slot 1) ∧ slotCall.slot? 1 = some .empty := by decide

theorem witness_RejoinNotices : node.RecordLaw ∧ node.OfferLaw :=
  ⟨witness_RecordLawKept.1, witness_OfferLaw⟩

theorem witness_PardonForgives : free node = true ∧ 1 ≤ (1 : Byte).toNat ∧ (62 : Byte).toNat ≤ 62
    ∧ (0 : Byte).toNat = 0 ∧ 62 < (63 : Byte).toNat := by decide

/-! ### Hypotheses are met: the record commands -/

/-- A full record table. -/
def fullTable : State := withRecords ((List.range 96).map (fun i => held (BitVec.ofNat 32 (i + 100)) .loose))
/-- A reference run on the empty head. -/
def referenceRun : State :=
  { node with head := { node.head with run := some { kind := .reference, n := 4, t := 2000, deadline := 1000 } } }

theorem witness_CreateMakesARecord :
    (baseBytes 20).length = 31 ∧ toolAt (baseBytes 20) = 20 ∧ field (baseBytes 20) 4 2 ≠ 0
    ∧ (∀ s ∈ [node, referenceRun], free s = true ∧ s.port.nodeState ≠ .unconfigured ∧ s.find 20 = none
      ∧ s.callFor 20 = none ∧ s.freeRows ≠ 0 ∧ s.config.head = true ∧ s.head.seat = .present
      ∧ s.headRecord = none ∧ s.callAt .head = none)
    ∧ node.head.run = none ∧ referenceRun.head.run = some { kind := .reference, n := 4, t := 2000, deadline := 1000 }
    ∧ node.pocket? 3 = some (pocket .present .unknown) ∧ node.callAt (.pocket 3) = none := by decide

theorem witness_CreateRefusals :
    toolAt (baseBytes 0) = 0 ∧ 3 < (4 : Byte).toNat ∧ node.bank.pockets.length < (4 : Byte).toNat
    ∧ ({ node with config.head := false } : State).config.head = false
    ∧ node.find 11 ≠ none ∧ (withCall .head 1).find 30 = none ∧ (withCall .head 1).callFor 30 ≠ none
    ∧ node.pocket? 1 = some (pocket .present (.held 11)) ∧ node.pocket? (3 : Byte).toNat ≠ none
    ∧ (withCall (.pocket 3) 1).callAt (.pocket 3) ≠ none ∧ (withCall .head 1).callAt .head ≠ none
    ∧ ({ node with head.seat := .absent } : State).head.seat ≠ .present
    ∧ (inState .unconfigured).port.nodeState = .unconfigured := by decide

set_option maxRecDepth 4000 in
theorem witness_CreateTableFull : fullTable.find 20 = none ∧ fullTable.callFor 20 = none
    ∧ fullTable.freeRows = 0 := by decide

theorem witness_RestoreMakesARecord :
    free (inState .configured) = true ∧ imageLengthOk (baseBytes 20) = true
    ∧ (parseImage (baseBytes 20)).badIdentifier = false ∧ (parseImage (baseBytes 20)).base.toolId = 20
    ∧ (inState .configured).find 20 = none ∧ (inState .configured).freeRows ≠ 0
    ∧ (inState .configured).pocket? 3 = some (pocket .present .unknown)
    ∧ (inState .configured).slot? 1 = some .empty
    ∧ (inState .configured).config.head = true ∧ (inState .configured).head.seat = .present
    ∧ (inState .configured).headRecord = none
    ∧ 1 ≤ (1 : Byte).toNat ∧ (62 : Byte).toNat ≤ 62 := by decide

/-- A block as it arrives, with this length, runout and verdict code. -/
def block (length runout verdict : Nat) : RawBlock :=
  { length := length, radius := 500, runout := runout, verdictCode := verdict, station := 5
    temperature := 2000, kept := 4, lifeAtMeasure := 20 }

theorem witness_ImagesAndFitness :
    (let i := ({ base := image 20, block := some (block 5000001 5 0) } : RawImage).hostIntake
     i.measured.map (·.verdict) = some .clamped)
    ∧ (image 20).runoutLimit < (block 1000 21 0).runout ∧ (block 1000 20 0).runout ≤ (image 20).runoutLimit
    ∧ (image 20).lengthTol < absDiff (block 1011 5 0).length (image 20).nomLength
    ∧ ¬ ((image 20).lengthTol < absDiff (block 1010 5 0).length (image 20).nomLength)
    ∧ 3 ≤ (block 1000 5 3).verdictCode
    ∧ ({ image 20 with lifeUsed := 100 } : Image).worn = true
    ∧ (image 20).remeasureInterval = 0 ∧ (image 20).fit = true := by decide

/-- The node with pocket 1's lock QUEUED for an issue. -/
def lockedOpen : State :=
  withPocket { pocket .present (.held 11) with lock := .queued { purpose := .issue, panel := .a } }

theorem witness_DropAndResolve : free node = true ∧ node.port.nodeState ≠ .unconfigured
    ∧ node.find 11 = some (held 11 (.stocked 1)) ∧ node.pocket? 1 = some (pocket .present (.held 11))
    ∧ node.find 15 = some (held 15 (.outbound { counterpart := 21, handoff := 4 } .loose))
    ∧ (withRun (.measurement 16) 4).find 16 = some (held 16 .measuring)
    ∧ lockedOpen.find 11 = some (held 11 (.stocked 1)) ∧ (lockedOpen.pocket? 1).map (·.lock) ≠ some .closed
    ∧ node.find 14 = some (held 14 (.inDoubt { counterpart := 20, handoff := 3 } .missing (some 1000)))
    ∧ node.find 12 = some (held 12 .loose) ∧ node.find 99 = none := by decide

theorem witness_DamageAndRegrind : (held 11 (.stocked 1)).image.damaged = false
    ∧ (held 11 (.stocked 1)).image.regrinds < 15
    ∧ (withRecords [{ image := { image 12 with damaged := true, regrinds := 15 }, state := .loose }]).find 12
        = some { image := { image 12 with damaged := true, regrinds := 15 }, state := .loose } := by decide

theorem witness_ReadsChangeNothing : free node = true ∧ (node.find 12).isSome = true
    ∧ node.roster.peers[(1 : Byte).toNat - 1]? = some Peer.atReset
    ∧ node.roster.peers[(62 : Byte).toNat - 1]? = some Peer.atReset
    ∧ (node.pocket? 3).isSome = true ∧ panelOf 1 = some .a ∧ panelOf 2 = some .b ∧ node.config.pocketCount ≠ 0
    ∧ node.config.head = true ∧ node.slot? 2 = some (.loaded 13) ∧ node.config.slotCount ≠ 0
    ∧ (pocket .present .unknown).lock = .closed ∧ Peer.atReset.announced = none ∧ Peer.atReset.absence = none
    ∧ Panel.atReset.operation = none := by decide

/-! ### Hypotheses are met: pockets and locks -/

/-- A pocket with a lock phase. -/
def locked (l : Lock) : Pocket := { pocket .present (.held 11) with lock := l }
/-- A pocket with a latched fault. -/
def faulted : Pocket := { pocket .present (.held 11) with fault := .short }
/-- An opening. -/
def forIssue : Opening := { purpose := .issue, panel := .a }
/-- The node with pocket 1 PULLING, its pull-in over. -/
def pullingNode (seen : Bool) : State :=
  { withPocket (locked (.pulling forIssue seen)) with
    bank.pullIns := [some { pocket := 1, deadline := 1000 }, none, none, none] }
/-- The operation of panel A over pocket 1 alone. -/
def theRun (status : PocketStatus) (kind : OpKind) : Operation :=
  { kind := kind, pockets := [{ pocket := 1, status := status, reachedOpen := status == .opened }] }
/-- The status of a pocket in its operation by its lock: OPEN while HOLDING, WAITING before. -/
def statusOf (l : Lock) : PocketStatus := if l.code = 3 then .opened else .waiting
/-- Pocket 1 under this lock, in an operation that panel A runs. -/
def running (l : Lock) (kind : OpKind) : State :=
  { withPocket (locked l) with panels.a.operation := some (theRun (statusOf l) kind) }
/-- An open call for the tool in pocket 3. -/
def pocketCall : State := withCall (.pocket 3) 1
/-- The operation law of a bank of at most 3 pockets, as a computation. -/
def holdsByRun (s : State) : Bool :=
  s.bank.pockets.length ≤ 3
    && [1, 2, 3].all (fun p => match s.pocket? p with
      | none => true
      | some k => match k.lock.opening with
        | none => true
        | some why => match (s.panel why.panel).operation with
          | none => false
          | some o => decide (o.kind.purpose = why.purpose) && o.pockets.any (fun q => decide (q.pocket = p)
              && decide (q.status = if k.lock.code = 3 then .opened else .waiting)))
    && [PanelId.a, .b].all (fun i => match (s.panel i).operation with
      | none => true
      | some o => decide (o.pockets.length = 1))

/-- `holdsByRun` is the operation law. -/
theorem test_hold_law (s : State) (h : holdsByRun s = true) : s.HoldLaw := by
  simp only [holdsByRun, Bool.and_eq_true, List.all_cons, List.all_nil, Bool.and_true, decide_eq_true_eq] at h
  obtain ⟨⟨hn, h1, h2, h3⟩, ha, hb⟩ := h
  constructor
  · intro p k why hk hw
    have hp : p = 1 ∨ p = 2 ∨ p = 3 := by
      have := State.pocket?_pos hk
      have := State.pocket?_le hk
      omega
    rcases hp with rfl | rfl | rfl
    all_goals
      simp only [hk, hw] at h1 h2 h3
      first
        | (revert h1; cases ho : (s.panel why.panel).operation <;> simp; done)
        | (revert h2; cases ho : (s.panel why.panel).operation <;> simp; done)
        | (revert h3; cases ho : (s.panel why.panel).operation <;> simp)
  · intro i o ho
    have hl : o.pockets.length = 1 := by cases i <;> simp_all
    obtain ⟨q, hq⟩ := List.length_eq_one_iff.mp hl
    exact ⟨by simp [hq], fun _ => ⟨q, hq⟩⟩

theorem witness_OpenRequestsAndStartRule : node.pocket? 1 = some (pocket .present (.held 11))
    ∧ ({ node with bank.supply := .low } : State).bank.supply = .low ∧ node.bank.supply = .normal
    ∧ (withPocket faulted).pocket? 1 = some faulted ∧ faulted.fault ≠ .none
    ∧ lockedOpen.pocket? 1 = some (locked (.queued forIssue)) ∧ (locked (.queued forIssue)).lock ≠ .closed
    ∧ (({ lockedOpen with bank.queue := [1] } : State).startRule.pocket? 1).map (·.lock)
        = some (.pulling forIssue false)
    ∧ node.bank.energised ≤ 8
    ∧ ({ lockedOpen with bank.queue := [1] } : State).bank.queue = 1 :: []
    ∧ lockedOpen.bank.pullIns[0]? = some none ∧ lockedOpen.bank.energised < 8
    ∧ (∀ q ∈ ({ lockedOpen with bank.pullIns := List.replicate 4 (some { pocket := 2, deadline := 5 }) } :
        State).bank.pullIns, q ≠ none) := by decide

theorem witness_LockCourse : ∀ seen, (pullingNode seen).pocket? 1 = some (locked (.pulling forIssue seen))
    ∧ (pullingNode seen).bank.pullInOf 1 = some (1, { pocket := 1, deadline := 1000 })
    ∧ reached (pullingNode seen).now 1000 = true
    ∧ (withPocket (locked (.holding forIssue 1000))).pocket? 1 = some (locked (.holding forIssue 1000))
    ∧ ((running (.pulling forIssue seen) (.issue 9 0)).panel .a).operation = some (theRun .waiting (.issue 9 0))
    ∧ ((running (.holding forIssue 1000) (.issue 9 0)).panel .a).operation
        = some (theRun .opened (.issue 9 0)) := by decide

theorem witness_ClearPocketFault : free node = true ∧ node.bank.pockets.length < (4 : Byte).toNat
    ∧ node.pocket? 3 = some (pocket .present .unknown) ∧ (withPocket faulted).pocket? 1 = some faulted
    ∧ faulted.lock = .closed ∧ faulted.fault ≠ .none ∧ lockedOpen.pocket? 1 = some (locked (.queued forIssue))
    ∧ (inState .unconfigured).port.nodeState = .unconfigured := by decide

theorem witness_SupplyEvents : node.port.nodeState ≠ .unconfigured ∧ node.config.pocketCount ≠ 0
    ∧ node.bank.supply = .normal ∧ ({ node with bank.supply := .low } : State).bank.supply = .low := by decide

theorem witness_ReadingsAndForcedRemovals :
    (withPocket (pocket .unsettled .unknown)).pocket? 1 = some (pocket .unsettled .unknown)
    ∧ (withPocket (pocket .unsettled (.held 11))).pocket? 1 = some (pocket .unsettled (.held 11))
    ∧ (withPocket (pocket .unsettled (.held 11))).find 11 = some (held 11 (.stocked 1))
    ∧ node.config.sensorHigh = true ∧ node.pocket? 1 = some (pocket .present (.held 11))
    ∧ node.find 11 = some (held 11 (.stocked 1))
    ∧ lockedOpen.pocket? 1 = some (locked (.queued forIssue)) ∧ (lockedOpen.panel .a).operation = none
    ∧ (running (.queued forIssue) (.issue 9 0)).pocket? 1 = some (locked (.queued forIssue))
    ∧ ((running (.queued forIssue) (.issue 9 0)).panel .a).operation = some (theRun .waiting (.issue 9 0)) := by
  decide

/-- Pocket 1 HOLDING for an ISSUE that panel A runs. -/
def issuing : State := running (.holding forIssue 5000) (.issue 9 0)
/-- Pocket 1 HOLDING for the ISSUE to station 7, and marked for it. -/
def serving : State :=
  { running (.holding forIssue 5000) (.issue 9 7) with
    bank.pockets := [{ locked (.holding forIssue 5000) with reservedFor := some 7 }, pocket .absent .empty]
    reservations := [{ requester := 7, cls := 9, wanted := 1, expiry := 1000 }] }
/-- A SERVICE lock of panel A. -/
def forService : Opening := { purpose := .service, panel := .a }
/-- Pocket 1 HOLDING for a SERVICE that panel A runs. -/
def servicing : State := running (.holding forService 5000) .service
/-- A RETURN lock of panel A. -/
def forReturn : Opening := { purpose := .ret, panel := .a }
/-- The same pocket, empty, under a lock for a RETURN. -/
def returning (l : Lock) : State :=
  { running l .ret with bank.pockets := [{ locked l with presence := .absent, occupancy := .empty }] }

theorem witness_RemovalsFromOpenAndUnknownPockets :
    issuing.pocket? 1 = some (locked (.holding forIssue 5000)) ∧ issuing.find 11 = some (held 11 (.stocked 1))
    ∧ (locked (.holding forIssue 5000)).lock.energised = true
    ∧ (locked (.holding forIssue 5000)).lock.opening = some forIssue
    ∧ (issuing.panel forIssue.panel).operation = some (theRun .opened (.issue 9 0))
    ∧ (locked (.holding forIssue 5000)).reservedFor ≠ some 0
    ∧ (serving.pocket? 1).map (·.reservedFor) = some (some 7)
    ∧ serving.reservations.find? (fun x => x.requester == 7 && x.cls == (held 11 (.stocked 1)).image.cls)
        = some { requester := 7, cls := 9, wanted := 1, expiry := 1000 }
    ∧ servicing.pocket? 1 = some (locked (.holding forService 5000))
    ∧ (servicing.panel .a).operation = some (theRun .opened .service)
    ∧ (running (.pulling forIssue true) (.issue 9 0)).pocket? 1 = some (locked (.pulling forIssue true))
    ∧ (locked (.pulling forIssue true)).lock.energised = true
    ∧ node.pocket? 3 = some (pocket .present .unknown) ∧ node.callAt (.pocket 3) = none
    ∧ pocketCall.pocket? 3 = some (pocket .present .unknown) ∧ pocketCall.callAt (.pocket 3) = some 0
    ∧ (pocketCall.call? 0).isSome = true := by decide

theorem witness_Insertions : node.pocket? 2 = some (pocket .absent .empty)
    ∧ (pocket .absent .empty).reservedFor = none ∧ (pocket .absent .empty).lock = .closed
    ∧ (Lock.queued forIssue).opening = some forIssue ∧ (Lock.queued forIssue).code ≠ 3
    ∧ (∀ l ∈ [Lock.queued forReturn, .pulling forReturn true, .holding forReturn 5000],
      (returning l).pocket? 1 = some { locked l with presence := .absent, occupancy := .empty }
        ∧ l.opening = some forReturn
        ∧ ((returning l).panel .a).operation = some (theRun (statusOf l) .ret))
    ∧ (Lock.holding forReturn 5000).code = 3 := by decide

/-- The invariant of the lock statements, met by a running operation of each kind in each phase of its lock. -/
theorem witness_LockLaws : node.HoldLaw ∧ issuing.HoldLaw ∧ serving.HoldLaw ∧ servicing.HoldLaw
    ∧ (running (.queued forIssue) (.issue 9 0)).HoldLaw ∧ (running (.pulling forIssue true) (.issue 9 0)).HoldLaw
    ∧ (returning (.queued forReturn)).HoldLaw ∧ (returning (.pulling forReturn true)).HoldLaw
    ∧ (returning (.holding forReturn 5000)).HoldLaw := by
  refine ⟨?_, ?_, ?_, ?_, ?_, ?_, ?_, ?_, ?_⟩ <;> exact test_hold_law _ (by decide)

/-! ### Hypotheses are met: panels and operations -/

/-- Panel A with these keys and mismatches. -/
def typed (keys : List Nat) (mismatches : Nat) : State :=
  { node with panels.a := { Panel.atReset with keys := keys, interKey := some 1000, mismatches := mismatches } }
/-- Panel A locked out. -/
def lockedOut : State := { node with panels.a.lockout := some 1000 }

theorem witness_KeysAndWindows : (typed [1, 2, 3] 0).port.nodeState ≠ .unconfigured
    ∧ (typed [1, 2, 3] 0).config.pocketCount ≠ 0 ∧ ((typed [1, 2, 3] 0).panel .a).lockout = none
    ∧ ((typed (List.replicate 7 1) 0).panel .a).keys.length < 8
    ∧ 8 ≤ ((typed (List.replicate 8 1) 0).panel .a).keys.length
    ∧ ((typed [] 0).panel .a).window = none ∧ ((withWindow .both).panel .a).window ≠ none
    ∧ (lockedOut.panel .a).lockout = some 1000 ∧ reached lockedOut.now 1000 = true
    ∧ ((typed [1] 0).panel .a).interKey = some 1000
    ∧ ((withWindow .both).panel .a).window = some { privilege := .both, entry := 1, expiry := 1000 }
    ∧ (typed [1, 2, 3, 4] 0).config.codeTable[0]? =
        some { enabled := true, digits := [1, 2, 3, 4], privilege := .both }
    ∧ (∀ e ∈ (typed [9, 9, 9, 9] 1).config.codeTable, ¬ (e.enabled = true ∧ e.digits = [9, 9, 9, 9]))
    ∧ ((typed [9, 9, 9, 9] 1).panel .a).mismatches + 1 < 3
    ∧ 3 ≤ ((typed [9, 9, 9, 9] 2).panel .a).mismatches + 1 := by decide

theorem witness_IssueChoosesTheBestPocket : (∀ r ∈ node.records, r.image.lifeLimit ≤ 4194303)
    ∧ node.choosePocket 9 3 = some (pocket .present (.held 11), 1) ∧ node.choosePocket 10 3 = none :=
  ⟨by decide, by decide, by decide⟩

theorem witness_IssueOpensTheChosenPocket : free (withWindow .both) = true
    ∧ (withWindow .both).port.nodeState = .online ∧ panelOf 1 = some .a
    ∧ (withWindow .both).config.pocketCount ≠ 0 ∧ (62 : Byte).toNat ≤ 62
    ∧ ((withWindow .both).panel .a).window = some { privilege := .both, entry := 1, expiry := 1000 }
    ∧ ((withWindow .both).panel .a).operation = none ∧ (withWindow .both).bank.supply = .normal
    ∧ (withWindow .both).choosePocket 9 62 = some (pocket .present (.held 11), 1) := by decide

theorem witness_ReturnAndServiceOpen :
    (withWindow .both).pocket? 2 = some (pocket .absent .empty)
    ∧ (pocket .absent .empty).occupancy = .empty ∧ (pocket .absent .empty).fault = .none
    ∧ (pocket .absent .empty).lock = .closed ∧ (pocket .absent .empty).reservedFor = none
    ∧ ((withWindow .both).pocket? 1).map (·.occupancy) ≠ some .empty
    ∧ ((withWindow .service).panel .a).window = some { privilege := .service, entry := 1, expiry := 1000 }
    ∧ (∀ b ∈ ([1, 2] : List Byte), (withWindow .service).pocket? b.toNat ≠ none)
    ∧ ([1, 2] : List Byte).length ≤ 8 := by decide

theorem witness_CancelEndsTheOperation : free issuing = true ∧ (node.panel .a).operation = none
    ∧ (issuing.panel .a).operation = some { kind := .issue 9 0, pockets := [{
        pocket := 1, status := .opened, reachedOpen := true }] }
    ∧ (issuing.pocket? 1).map (·.lock.opening) = some (some forIssue) ∧ forIssue.panel = .a := by decide

theorem witness_IdentifyPlacesOrCalls : free node = true ∧ node.pocket? 3 = some (pocket .present .unknown)
    ∧ node.find 12 = some (held 12 .loose) ∧ node.callAt (.pocket 3) = none ∧ node.find 30 = none
    ∧ node.config.head = true ∧ node.head.seat = .present ∧ node.headRecord = none
    ∧ node.referenceRun = false ∧ node.callAt .head = none := by decide

/-! ### Hypotheses are met: the measuring unit and the magazine -/

/-- A sample of two counters at 0. -/
def origin : Sample := { z := 0, x := 0 }
/-- The node measuring tool 16, 3 of 4 samples taken. -/
def measuringNode : State := withRun (.measurement 16) 4
/-- A tool on the head, with a valid reference taken at 20.00 degrees. -/
def seatedNode : State :=
  { withRecords [held 16 .seated] with
    head := { node.head with reference := { valid := true, z := 0, x := 0, t := 2000 } } }

theorem witness_ScaleEvents : (inState .unconfigured).port.nodeState = .unconfigured
    ∧ node.port.nodeState ≠ .unconfigured ∧ node.config.head = true ∧ node.head.run = none
    ∧ node.head.reference.valid = false ∧ seatedNode.head.run = none ∧ seatedNode.head.reference.valid = true
    ∧ referenceRun.head.run = some { kind := .reference, n := 4, t := 2000, deadline := 1000 }
    ∧ measuringNode.find 16 = some (held 16 .measuring)
    ∧ measuringNode.head.run = some { kind := .measurement 16, n := 4, t := 2000, deadline := 1000 } := by
  decide

theorem witness_Captures : node.config.captureRising = true ∧ node.head.run = none
    ∧ (withRun .reference 5).head.run = some { kind := .reference, n := 5, t := 2000, deadline := 1000 }
    ∧ ((withRun .reference 5).head.samples ++ [origin]).length < 5
    ∧ ((withRun .reference 4).head.samples ++ [origin]).length = 4 := by decide

theorem witness_MeasurementCompletes : measuringNode.port.nodeState ≠ .unconfigured
    ∧ measuringNode.config.head = true ∧ measuringNode.find 16 = some (held 16 .measuring)
    ∧ (measuringNode.head.samples ++ [origin]).length = 4
    ∧ max 3 ((4 + 1) / 2) ≤ (keptSamples 40 (measuringNode.head.samples ++ [origin])).length
    ∧ (keptSamples 1 (measuringNode.head.samples.take 2 ++ [{ origin with z := 90 }, { origin with z := 70 }])).length
        < max 3 ((4 + 1) / 2) := by decide

set_option maxRecDepth 8000 in
theorem witness_RunsStartAndEnd : free node = true ∧ node.port.nodeState = .online ∧ node.head.seat = .present
    ∧ node.headRecord = none ∧ node.callAt .head = none ∧ node.head.run = none
    ∧ seatedNode.find 16 = some (held 16 .seated) ∧ seatedNode.head.reference.valid = true
    ∧ node.head.reference.valid = false
    ∧ 200 < (max (-1000) (min 5000 (2201#16).toInt) - seatedNode.head.reference.t).natAbs
    ∧ (max (-1000) (min 5000 (2200#16).toInt) - seatedNode.head.reference.t).natAbs ≤ 200
    ∧ referenceRun.head.run = some { kind := .reference, n := 4, t := 2000, deadline := 1000 }
    ∧ reached referenceRun.now 1000 = true
    ∧ measuringNode.head.run = some { kind := .measurement 16, n := 4, t := 2000, deadline := 1000 } := by decide

/-- The node with another seat reading. -/
def seat (r : Reading) : State := { node with head.seat := r }

theorem witness_SeatEvents : (seat .unsettled).head.seat = .unsettled ∧ (seat .absent).head.seat = .absent
    ∧ node.head.seat = .present ∧ node.headRecord = none ∧ node.head.run = none ∧ node.callAt .head = none
    ∧ (withCall .head 1).headRecord = none ∧ (withCall .head 1).callAt .head = some 0
    ∧ ((withCall .head 1).call? 0).isSome = true
    ∧ measuringNode.headRecord = some (held 16 .measuring) ∧ measuringNode.callAt .head = none
    ∧ referenceRun.head.seat = .present ∧ referenceRun.headRecord = none ∧ referenceRun.callAt .head = none
    ∧ referenceRun.head.run = some { kind := .reference, n := 4, t := 2000, deadline := 1000 } := by decide

theorem witness_LoadFillsASlot : free node = true ∧ node.slot? 1 = some .empty
    ∧ node.slot? 2 = some (.loaded 13) ∧ node.find 12 = some (held 12 .loose) ∧ (image 12).fit = true
    ∧ ({ image 12 with measured := none } : Image).unfitReason = some .unmeasured
    ∧ (withRecords [held 12 .missing]).find 12 = some (held 12 .missing)
    ∧ (withRecords [held 12 .seated]).find 12 = some (held 12 .seated) ∧ node.find 30 = none := by decide

theorem witness_UnloadAndCharge : free node = true ∧ node.slot? 1 = some .empty
    ∧ ({ node with magazine := [.refused .noAnswer] } : State).slot? 1 = some (.refused .noAnswer)
    ∧ node.slot? 2 = some (.loaded 13) ∧ node.find 13 = some (held 13 (.loaded 2))
    ∧ ({ slotCall with magazine := [.calling 30] } : State).slot? 1 = some (.calling 30)
    ∧ slotCall.callAt (.slot 1) = some 0 ∧ (slotCall.call? 0).isSome = true
    ∧ ({ image 13 with lifeUsed := 89 } : Image).low = false
    ∧ ({ image 13 with lifeUsed := 90 } : Image).low = true ∧ (image 13).worn = false
    ∧ ({ image 13 with remeasureInterval := 10, lifeUsed := 29 } : Image).remeasureDue = false
    ∧ ({ image 13 with remeasureInterval := 10, lifeUsed := 30 } : Image).remeasureDue = true := by decide

/-! ### Hypotheses are met: demand and reservations -/

/-- The sequencer running, its cycle deadline reached. -/
def demanding (m : DemandMode) : State :=
  { node with demand := { node.demand with running := true, mode := m, deadline := some 1000 } }
/-- A reservation of station 7 for class 9, its expiry reached. -/
def row : Reservation := { requester := 7, cls := 9, wanted := 1, expiry := 1000 }

theorem witness_DemandEntries : ∀ e ∈ [(9#16, 1#8), (0#16, 0#8)], e.2 ≠ 0 → e.1 ≠ 0 := by simp

theorem witness_DemandListAndRuns : free node = true ∧ node.config.slotCount ≠ 0
    ∧ (List.replicate 8 (9#16, 1#8)).length ≤ 8
    ∧ node.demand.running = false
    ∧ (demanding (.interval 60)).demand.running = true ∧ (demanding (.interval 60)).demand.mode = .interval 60
    ∧ (demanding (.interval 60)).demand.deadline = some 1000 ∧ reached (demanding .trigger).now 1000 = true
    ∧ (demanding .trigger).demand.mode = .trigger
    ∧ (withQueue [newFrame .demand 63 [10] .demandRun]).line.queuedFor .demandRun = true
    ∧ node.line.queuedFor .demandRun = false := by decide

/-- The node with one row that marks the pocket 1. -/
def reserving : State := { node with reservations := [row] }

/-- A CLOSED pocket that holds this tool. -/
def stock (tool : ToolId) : Pocket := pocket .present (.held tool)
/-- One row of class 9 over STOCKED tools 11 (80 seconds left) and 12 (30 left), the pockets marked so. -/
def marking (wanted : Nat) (pockets : List Pocket) (mark : Option Nat) : State :=
  { withRecords [held 11 (.stocked 1), { image := { image 12 with lifeUsed := 70 }, state := .stocked 2 }] with
    bank.pockets := pockets.map (fun k => { k with reservedFor := mark })
    reservations := [{ row with wanted := wanted }] }

theorem witness_MarkingPassRules : (reserving.markingPass.bank.pockets[0]?).map (·.reservedFor) = some (some 7)
    ∧ (reserving.reservations.map (fun r => (r.requester, r.cls))).Nodup
    ∧ marked reserving.records row reserving.bank.pockets ≤ row.wanted
    ∧ (marking 2 [locked .closed, pocket .absent .empty] none).markingPass.bank.pockets.map (·.reservedFor)
        = [some 7, none]
    ∧ marked (marking 2 [locked .closed] none).records { row with wanted := 2 }
        (marking 2 [locked .closed] none).markingPass.bank.pockets < 2
    ∧ (marking 1 [stock 12, stock 11, stock 12] none).markingPass.bank.pockets.map (·.reservedFor)
        = [none, some 7, none]
    ∧ (marking 1 [stock 12, stock 12] none).markingPass.bank.pockets.map (·.reservedFor) = [some 7, none]
    ∧ (marking 1 [stock 12, stock 11] (some 7)).markingPass.bank.pockets.map (·.reservedFor) = [none, some 7]
    ∧ (marking 1 [stock 11, stock 11] (some 7)).markingPass.bank.pockets.map (·.reservedFor) = [some 7, none]
    ∧ (marking 1 [stock 12, locked (.queued forIssue)] (some 7)).markingPass.bank.pockets.map (·.reservedFor)
        = [none, some 7]
    ∧ lifeIn (marking 1 [] none).records (stock 11) = 80 ∧ lifeIn (marking 1 [] none).records (stock 12) = 30
    ∧ (∀ r ∈ (marking 1 [] none).records, r.image.lifeLimit ≤ 4194303) := by decide

theorem witness_ReservationLaw : reserving.ReservationLaw := by constructor <;> decide

theorem witness_ReservationRows :
    reserving.reservations.find? (fun r => r.requester == 7 && r.cls == 9) = some row
    ∧ reached reserving.now row.expiry = true ∧ row.requester = 7 ∧ row.cls = 9
    ∧ (List.replicate 15 row).length < 16 ∧ 16 ≤ (List.replicate 16 row).length
    ∧ (List.replicate 16 row).length ≤ 16
    ∧ (∀ s ∈ [node, inState .listenOnly], s.port.nodeState = .online ∨ s.port.nodeState = .listenOnly)
    ∧ node.config.pocketCount ≠ 0 ∧ node.doubtful (21 : BitVec 6).toNat = false
    ∧ (withPeer 21 { present with doubtful := true }).doubtful (21 : BitVec 6).toNat = true
    ∧ ({ node with config.pocketCount := 0 } : State).config.pocketCount = 0
    ∧ (inState .listening).port.nodeState ≠ .online ∧ (inState .listening).port.nodeState ≠ .listenOnly := by decide

/-! ### Hypotheses are met: the hall line -/

/-- A PRESENCE that waits. -/
def waitingFrame : TxFrame := newFrame .presence 63 [] .presence
/-- The node on an idle line. -/
def idleLine : State := { node with line.condition := .idle }

theorem witness_OfferedFramesJoinTheQueue : waitingFrame.sending = false ∧ node.port.nodeState = .online
    ∧ node.line.Ordered ∧ (List.replicate 7 waitingFrame).length < 8 ∧ 8 ≤ (List.replicate 8 waitingFrame).length
    ∧ (withQueue (List.replicate 8 waitingFrame)).line.Ordered
    ∧ FrameKind.accept.cls < waitingFrame.kind.cls
    ∧ idleLine.line.condition = .idle ∧ idleLine.line.driverDisabled = false
    ∧ idleLine.line.attempting = false ∧ node.line.condition ≠ .idle
    ∧ (inState .listening).port.nodeState ≠ .online := by
  unfold Line.Ordered
  decide

theorem witness_LineConditions : node.line.attempting = false ∧ node.line.condition = .receiving
    ∧ node.line.receiver ≠ .stopped ∧ idleLine.line.condition = .idle
    ∧ node.config.lineRate ≤ 3 ∧ 3 * cellNs node.config.lineRate ≤ 2 * 6000 ∧ 8000 ≤ 2 * cellNs node.config.lineRate
    ∧ ({ node with line.receiver := .assembling } : State).line.attempting = false
    ∧ isFramingError (cellNs node.config.lineRate) (.lengthField 57) = true
    ∧ ({ node with line.condition := .held, line.heldSince := some 5 } : State).line.heldSince = some 5 := by
  decide

theorem witness_AttemptEnds : (withQueue [sendingDemand, waitingFrame]).line.txQueue =
      [] ++ sendingDemand :: [waitingFrame]
    ∧ sendingDemand.sending = true ∧ (∀ g ∈ [] ++ [waitingFrame], g.sending = false)
    ∧ sendingDemand.removeAfter = false ∧ sendingDemand.bitErrors + 1 < 8
    ∧ 8 ≤ ({ sendingDemand with bitErrors := 7 } : TxFrame).bitErrors + 1 ∧ sendingDemand.reoffer = false
    ∧ sendingDemand.owner = .demandRun ∧ waitingFrame.owner ≠ .demandRun
    ∧ (demanding .trigger).demand.running = true ∧ (demanding .trigger).demand.target = 0
    ∧ ({ demanding .trigger with demand.target := 1 } : State).demand.cycles + 1 = 1
    ∧ ({ sendingDemand with removeAfter := true } : TxFrame).removeAfter = true
    ∧ ({ sendingDemand with reoffer := true } : TxFrame).reoffer = true
    ∧ ({ waitingFrame with sending := true, reoffer := true } : TxFrame).owner = .presence
    ∧ node.port.nodeState = .online := by decide

/-- A DECLINE of station 21 as it is read from the line: tool 15, handoff 4, reason NOT_FIT. -/
def readFrame (source : BitVec 6) : WireFrame :=
  let f : WireFrame :=
    { cls := 0, kind := 2, source := source, destination := 5, length := 6, payload := [0, 0, 0, 15, 4, 2]
      crc := 0 }
  { f with crc := crc16 (frameBits f) }

set_option maxRecDepth 8000 in
theorem witness_FramesReceived : ({ node with line.receiver := .assembling } : State).line.attempting = false
    ∧ (readFrame 21).length.toNat ≤ 56 ∧ (readFrame 21).payload.length = (readFrame 21).length.toNat
    ∧ (∀ n ∈ ([0, 5, 21, 63] : List (BitVec 6)), crc16 (frameBits (readFrame n)) = (readFrame n).crc)
    ∧ crc16 (frameBits { readFrame 21 with crc := 1 }) ≠ 1
    ∧ (readFrame 21).source ≠ 0 ∧ (readFrame 21).source ≠ 63 ∧ (readFrame 21).source ≠ node.port.station
    ∧ (readFrame 5).source = node.port.station ∧ node.line.rxQueue.length < 4 ∧ node.line.duplicateSeen = false
    ∧ sendingDemand.destination ≤ 63 ∧ sendingDemand.payload.length ≤ 56 := by
  decide

/-! ### Hypotheses are met: the roster and the custody engine -/

/-- A well-formed PRESENCE and a well-formed CALL, and a frame of no kind. -/
def presenceNode (pockets : Byte) : State := withFrame 9 3 63 [pockets, 64, 130]

theorem witness_DeliveriesReachTheirConsumers :
    ((presenceNode 48).line.rxQueue.map (·.form)) = [some .presence]
    ∧ (parsePresence [48, 64, 130]).pockets ≤ 48 ∧ (parsePresence [48, 64, 130]).slots ≤ 64
    ∧ 48 < (parsePresence [49, 64, 130]).pockets
    ∧ ((withFrame 0 2 5 [0, 0, 0, 15, 4, 2]).line.rxQueue.map (·.form)) = [none]
    ∧ ((withFrame 2 0 5 [0, 0, 0, 15, 4, 2]).line.rxQueue.map (·.form)) = [some .decline]
    ∧ ((withFrame 2 0 5 [0, 0, 0, 15, 4, 2]).line.rxQueue.map (fun f => f.fieldsOk .decline)) = [true]
    ∧ ((withFrame 2 0 5 [0, 0, 0, 15, 4, 9]).line.rxQueue.map (fun f => f.fieldsOk .decline)) = [false]
    ∧ (5 : BitVec 6) = node.port.station := by decide

theorem witness_RosterEntries : node.peer? 1 = some Peer.atReset ∧ node.peer? 62 = some Peer.atReset
    ∧ (withPeer 21 present).peer? 21 = some present ∧ present.state = .present
    ∧ (withPeer 21 { present with state := .absent }).peer? 21 = some { present with state := .absent }
    ∧ Peer.atReset.strikes < 2 ∧ 2 ≤ present.strikes ∧ present.doubtful = false
    ∧ present.absence = some 1000 ∧ reached (withPeer 21 present).now 1000 = true := by decide

theorem witness_RosterLaws : (withPeer 21 present).Sized ∧ (withPeer 21 present).RecordLaw
    ∧ (withPeer 21 present).OfferLaw := by
  refine ⟨?_, ?_, ?_⟩ <;> constructor <;> first | decide | simp [withPeer, node, held, image]

theorem witness_BeaconsAndChecks :
    ({ inState .listening with port.listenDeadline := some 1000, port.nodeState := .listening } :
      State).port.listenDeadline = some 1000
    ∧ reached node.now 1000 = true
    ∧ ({ node with roster.beacon := some 1000 } : State).roster.beacon = some 1000
    ∧ node.line.queuedFor .presence = false ∧ (withQueue [waitingFrame]).line.queuedFor .presence = true
    ∧ (node.records.map (·.image.toolId)).Nodup := by decide

/-- The node with a doubtful caller 21 and a call for tool n. -/
def doubter : State := withPeer 21 { present with strikes := 3, doubtful := true }

theorem witness_CallAnswers : node.port.nodeState = .online ∧ node.find 99 = none
    ∧ doubter.doubtful 21 = true ∧ node.doubtful 21 = false
    ∧ node.find 13 = some (held 13 (.loaded 2)) ∧ measuringNode.find 16 = some (held 16 .measuring)
    ∧ node.find 15 = some (held 15 (.outbound { counterpart := 21, handoff := 4 } .loose))
    ∧ node.find 14 = some (held 14 (.inDoubt { counterpart := 20, handoff := 3 } .missing (some 1000)))
    ∧ node.find 12 = some (held 12 .loose)
    ∧ node.custody.outs[1]? = some none ∧ node.custody.outs[0]? ≠ some none
    ∧ (∀ o ∈ ([some { tool := 1, caller := 2, handoff := 3, tries := 1, deadline := 0 }] :
        List (Option OutSlot)), o ≠ none) := by decide

theorem witness_OfferDecisions :
    ({ source := 21, handoff := 4, tool := 30 } : Accepted) ∉ node.custody.accepted
    ∧ ({ source := 21, handoff := 4, tool := 30 } : Accepted)
        ∈ [({ source := 21, handoff := 4, tool := 30 } : Accepted)]
    ∧ doubter.doubtful 21 = true ∧ node.callFor 30 = none ∧ node.find 30 = none ∧ node.find 11 ≠ none
    ∧ slotCall.callFor 30 = some 0 ∧ (slotCall.call? 0).map (·.purpose) = some (.slot 1)
    ∧ slotCall.slot? 1 ≠ none
    ∧ ({ image 30 with damaged := true } : Image).fit = false ∧ (image 30).fit = true
    ∧ pocketCall.callFor 30 = some 0 ∧ pocketCall.pocket? 3 = some (pocket .present .unknown)
    ∧ (withCall .head 1).callFor 30 = some 0 ∧ node.line.txQueue.length < 8
    ∧ (∀ e ∈ node.demand.list, e.cls ≠ (image 30).cls)
    ∧ (inState .listening).port.nodeState ≠ .online ∧ node.port.nodeState = .online
    ∧ ({ slotCall with demand.list := [{ cls := 9, count := 1 }] } : State).demand.list.find?
        (·.cls == (image 30).cls) = some { cls := 9, count := 1 }
    ∧ (({ base := image 30, block := some (block 1011 5 0) } : RawImage).block).map (·.verdictCode) = some 0 := by
  decide

theorem witness_RepliesSettle : node.outFor 15 21 4 = some 0
    ∧ node.find 15 = some (held 15 (.outbound { counterpart := 21, handoff := 4 } .loose))
    ∧ node.outFor 14 20 3 = none
    ∧ node.find 14 = some (held 14 (.inDoubt { counterpart := 20, handoff := 3 } .missing (some 1000)))
    ∧ (withRecords [held 14 (.inDoubt { counterpart := 20, handoff := 3 } .missing none)]).outFor 14 20 3 = none
    ∧ node.doubtful? 99 21 4 = false ∧ node.outFor 99 21 4 = none
    ∧ slotCall.callFor 30 = some 0 ∧ BlockReason.ofHere 1 = some .inPlace ∧ BlockReason.ofHere 5 = some .peerDoubtful
    ∧ node.callFor 11 = none ∧ node.find 11 ≠ none ∧ node.find 30 = none
    ∧ node.port.nodeState = .online := by decide

theorem witness_WaitExpiries :
    slotCall.call? 0 = some
      { tool := 30, purpose := .slot 1, tries := 1, deadline := 1000, busyStation := some 9 }
    ∧ ((withCall (.slot 1) 3).call? 0).map (·.tries) = some 3 ∧ ((withCall .head 2).call? 0).map (·.tries) = some 2
    ∧ reached node.now 1000 = true
    ∧ node.out? 0 = some { tool := 15, caller := 21, handoff := 4, tries := 1, deadline := 1000 }
    ∧ node.find 15 = some (held 15 (.outbound { counterpart := 21, handoff := 4 } .loose))
    ∧ node.find 14 = some (held 14 (.inDoubt { counterpart := 20, handoff := 3 } .missing (some 1000))) := by
  decide

theorem witness_CallsOpen : (inState .listening).port.nodeState ≠ .online ∧ node.port.nodeState = .online
    ∧ slotCall.callFor 30 = some 0
    ∧ (∀ c ∈ slotCall.custody.calls, c.map (·.tool) ≠ some 31) ∧ slotCall.callAt (.slot 1) = some 0
    ∧ node.custody.calls[0]? = some none
    ∧ 96 ≤ (List.replicate 96 (held 12 .loose)).length + node.custody.calls.countP Option.isSome
    ∧ node.records.length + node.custody.calls.countP Option.isSome < 96 := by
  decide

/-! ### Single steps: what the rules and tables of the spec give -/

-- R182, 11.3: station, ONLINE 3, RECEIVING 1, flags, 5 records, no call, 1 outbound, no notice.
theorem test_read_status : answer (after .readStatus node) = some (.ok, [5, 3, 1, 0, 5, 0, 1, 0]) := by decide
-- R176: a frame that waits makes READY low; the next frame is a collision; then the command is taken and answered.
theorem test_frame_waits : (after .join (waiting none)).port.commandSlot = some .join
    ∧ (after .join (waiting none)).ready = false ∧ (after .join (waiting none)).port.nodeState = .online := by decide
theorem test_collision_while_waiting : (after .readStatus (waiting (some .join))).port.collision = true
    ∧ (after .readStatus (waiting (some .join))).port.commandSlot = some .join := by decide
theorem test_waiting_command_is_taken :
    (match step { waiting (some .readStatus) with delay.later := false } with
      | .next t => answer t
      | _ => none) = some (.ok, [5, 3, 1, 0, 5, 0, 1, 0]) := by decide
-- R175: result OK 0, length 1, payload 7, then zeros; the slot is emptied with the last byte.
theorem test_read_transaction : (after (.readTransaction 4) answering).port.dataOut = [0, 1, 7, 0]
    ∧ (after (.readTransaction 3) answering).port.response = none
    ∧ (after (.readTransaction 2) answering).port.response.isSome = true := by decide
theorem test_read_transaction_empty : (after (.readTransaction 3) node).port.dataOut = [255, 0, 0] := by decide
-- R180, 11.4: NODE_ONLINE is kind 120.
theorem test_read_notice : answer (after .readNotice { node with notices.entries := [note, note] })
    = some (.ok, [120, 0, 0, 0, 5, 0, 0, 0, 0, 0, 0, 0, 9, 1]) := by decide
theorem test_notice_overflow :
    (State.post { node with notices.entries := List.replicate 32 note } .nodeOnline 5 0).notices
      = { entries := List.replicate 32 note, overflow := true } := by decide
-- R183, R187: the straps are read when the reset ends, and READY goes high.
theorem test_reset_ends : (after (.resetEnds 9) State.reset).port.station = 9
    ∧ (after (.resetEnds 9) State.reset).ready = true ∧ State.reset.ready = false := by decide
-- R184: defaults 120, 20, 40 do not count as changes.
theorem test_configure : answer (after (.configure configBytes) (bare 5)) = some (.ok, [5, 0])
    ∧ (after (.configure configBytes) (bare 5)).config.pullInMs = 120
    ∧ (after (.configure configBytes) (bare 5)).config.holdS = 20
    ∧ (after (.configure configBytes) (bare 5)).bank.pockets.length = 3 := by decide
theorem test_configure_clamps :
    answer (after (.configure (49 :: configBytes.drop 1)) (bare 5)) = some (.ok, [5, 1])
    ∧ (after (.configure (49 :: configBytes.drop 1)) (bare 5)).config.pocketCount = 48 := by decide
-- R53: twice the beacon interval of code 2, which is 1,000 ms.
theorem test_join : (after .join (inState .configured)).port.listenDeadline = some 3000 := by decide
theorem test_rejoin_in_doubt : ((after .rejoin node).find 15).map (·.state)
    = some (.inDoubt { counterpart := 21, handoff := 4 } .loose none) := by decide
-- R20, 11.3: a LOOSE record: image of 47 bytes, state 5, place 0 0, no custody part, conditions FIT 8.
theorem test_read_record : ((answer (after (.readRecord 12) node)).map (fun a => a.2.drop 47))
    = some [5, 0, 0, 0, 255, 255, 0, 8, 0] := by decide
theorem test_list_records : answer (after (.listRecords 3) node)
    = some (.ok, [5, 3, 0, 0, 0, 14, 0, 0, 0, 15]) := by decide
-- R15: the record is made LOOSE; RECORD_ARRIVED.
theorem test_create : ((after (.create 0 0 (baseBytes 20)) node).find 20).map (·.state) = some .loose
    ∧ kinds (after (.create 0 0 (baseBytes 20)) node) = [.recordArrived] := by decide
theorem test_create_exists : answer (after (.create 0 0 (baseBytes 11)) node) = some (.toolExists, []) := by
  decide
-- R16: the pocket of a dropped STOCKED record is UNKNOWN.
theorem test_drop : (after (.drop 11) node).pocket? 1 = some (pocket .present .unknown)
    ∧ (after (.drop 11) node).find 11 = none ∧ kinds (after (.drop 11) node) = [.recordDeparted] := by decide
theorem test_resolve_keep : ((after (.resolve 14 1) node).find 14).map (·.state) = some .loose := by decide
-- R18: a damaged record is not FIT.
theorem test_mark_damaged : ((after (.markDamaged 12) node).find 12).map (·.image.fit) = some false := by decide
theorem test_regrind : ((after (.regrind 12 (some 777)) node).find 12).map
    (fun r => (r.image.lifeUsed, r.image.nomLength, r.image.regrinds, r.image.measured))
    = some (0, 777, 1, none) := by decide
-- R186: MEASURING is restored SEATED, OUTBOUND as IN_DOUBT.
theorem test_restore_measuring :
    ((after (.restore 4 3 0 0 0 0 (baseBytes 20)) (inState .configured)).find 20).map (·.state)
      = some .seated := by decide
theorem test_restore_outbound :
    ((after (.restore 7 0 0 6 62 3 (baseBytes 20)) (inState .configured)).find 20).map (·.state)
      = some (.inDoubt { counterpart := 62, handoff := 3 } .missing none) := by decide
-- R90, R114: the chosen pocket's pull-in starts at once, with the pull-in time of 120 ms.
theorem test_issue : answer (after (.issue 1 9 0) (withWindow .issue)) = some (.ok, [1, 0])
    ∧ ((after (.issue 1 9 0) (withWindow .issue)).pocket? 1).map (·.lock) = some (.pulling forIssue false)
    ∧ (after (.issue 1 9 0) (withWindow .issue)).bank.pullIns.head?
        = some (some { pocket := 1, deadline := 1120 }) := by decide
theorem test_issue_no_access : answer (after (.issue 1 9 0) (withWindow .ret)) = some (.noAccess, []) := by decide
theorem test_return_chooses : answer (after (.returnTool 1 none) (withWindow .both)) = some (.ok, [2]) := by decide
theorem test_service_open : answer (after (.serviceOpen 1 [2, 2]) (withWindow .service))
    = some (.ok, [2, 0, 2, 2]) := by decide
theorem test_cancel : kinds (after (.cancel 1) issuing) = [.issueDone]
    ∧ ((after (.cancel 1) issuing).pocket? 1).map (·.lock) = some .closed := by decide
theorem test_identify_pocket : ((after (.identifyPocket 3 12) node).find 12).map (·.state)
    = some (.stocked 3) := by decide
theorem test_identify_head_calls : kinds (after (.identifyHead 30) node) = []
    ∧ ((after (.identifyHead 30) node).line.txQueue.map (·.payload)) = [[0, 0, 0, 30, 3, 0]] := by decide
theorem test_clear_pocket_fault : kinds (after (.clearPocketFault 1) (withPocket faulted))
    = [.pocketFaultCleared] := by decide
-- R131: N is clamped to 4.
theorem test_measure_reference : ((after (.measureReference 3 2000) node).head.run).map (·.n) = some 4 := by decide
theorem test_measure_stale : answer (after (.measure 16 4 2201) seatedNode) = some (.referenceStale, []) := by
  decide
theorem test_abort_measure : kinds (after .abortMeasure measuringNode) = [.recordChanged, .measureDone] := by decide
-- R148, 11.3: slot state LOADED 2.
theorem test_load : answer (after (.load 1 12) node) = some (.ok, [2]) := by decide
theorem test_unload : (after (.unload 2) node).slot? 2 = some .empty := by decide
-- R152, R153: 20 + 90 seconds of 100; excess 10.
theorem test_charge : answer (after (.charge 2 90) node) = some (.ok, [0, 0, 100, 0, 0, 10])
    ∧ kinds (after (.charge 2 90) node) = [.recordChanged, .lifeWorn, .lifeOverrun] := by decide
theorem test_charge_low : kinds (after (.charge 2 70) node) = [.recordChanged, .lifeLow] := by decide
-- R160: a count above 4 is stored as 4, a class given twice keeps its first place and its last count.
theorem test_set_demand : (after (.setDemand [(7, 9), (8, 1), (7, 2), (6, 0)]) node).demand.list
    = [{ cls := 7, count := 2 }, { cls := 8, count := 1 }] := by decide
theorem test_start_demand : (after (.startDemand 1 0 3 61) node).line.txQueue.map (·.payload) = [[60]]
    ∧ (after (.startDemand 1 0 3 61) node).demand.deadline = some 2000 := by decide
theorem test_stop_demand : (after .stopDemand (demanding .trigger)).demand.running = false := by decide
-- R29: an idle line and a frame that waits.
theorem test_line_idle : (after .lineIdle (withQueue [waitingFrame])).line.condition = .transmitting
    ∧ (after .lineIdle (withQueue [])).line.condition = .idle := by decide
theorem test_bit_error_eighth : kinds (after (.bitError false)
    (withQueue [{ sendingDemand with bitErrors := 7 }])) = [.txDiscarded] := by decide
theorem test_frame_sent_counts :
    (after .frameSent { demanding .trigger with line.txQueue := [sendingDemand] }).demand.cycles = 1 := by decide
-- R27, R183: class 2, kind 8, source 5 (the station), destination 63, length 1, the payload byte 10.
theorem test_frame_sent_source : (after .frameSent (withQueue [sendingDemand])).line.lastSent.map (fun w =>
      (frameBits w).map Bool.toNat) = some ([1, 0] ++ [1, 0, 0, 0] ++ [0, 0, 0, 1, 0, 1] ++ [1, 1, 1, 1, 1, 1]
        ++ [0, 0, 0, 0, 0, 1] ++ [0, 0, 0, 0, 1, 0, 1, 0])
    ∧ (withQueue [sendingDemand]).driven.map (·.source) = some 5 := by decide
-- R33: an ACCEPT (class 0) joins before a PRESENCE (class 3); R34: it displaces one at a full queue.
theorem test_queue_order : ((withQueue [waitingFrame]).offerFrame (newFrame .accept 9 [] .nobody)).line.txQueue.map
    (·.kind) = [.accept, .presence] := by decide
theorem test_queue_full :
    kinds ((withQueue (List.replicate 8 waitingFrame)).offerFrame (newFrame .accept 9 [] .nobody))
      = [.txDiscarded] := by decide
set_option maxRecDepth 8000 in
theorem test_frame_received :
    (after (.frameReceived (readFrame 21)) { node with line.receiver := .assembling }).line.rxQueue.length = 1 := by
  decide
set_option maxRecDepth 8000 in
theorem test_duplicate_station :
    kinds (after (.frameReceived (readFrame 5)) { node with line.receiver := .assembling })
      = [.duplicateStation] := by decide
-- R189: the CRC of an empty run of bits is the preset; of one 1 bit, FFFF shifted; of one 0 bit, with 1021.
theorem test_crc : crc16 [] = 0xFFFF ∧ crc16 [true] = 0xFFFE ∧ crc16 [false] = 0xEFDF := by decide
-- R47, R49: the frame makes its sender PRESENT; a malformed one is a strike.
theorem test_presence : kinds (after .presence (presenceNode 48)) = [.peerPresent] := by decide
theorem test_malformed : ((after .malformedFrame (withFrame 0 2 5 [1])).peer? 21).map (·.strikes) = some 1 := by
  decide
-- R69, R70: a call for a LOOSE record is answered by an OFFER; for a LOADED one by HERE IN_PLACE 1.
theorem test_call_offers : (after .call (withFrame 5 1 63 [0, 0, 0, 12, 3, 0])).line.txQueue.map (·.kind)
    = [.offer] := by decide
theorem test_call_in_place : (after .call (withFrame 5 1 63 [0, 0, 0, 13, 3, 0])).line.txQueue.map (·.payload)
    = [[0, 0, 0, 13, 1]] := by decide
-- R167: a hold time of 61 is taken as 60; R168: a row for class 9 with 2 wanted.
theorem test_demand_reserves : (State.takeDemand node
    { cls := 3, kind := 10, source := 21, destination := 63, payload := [61, 0, 9, 2] }).reservations
      = [{ requester := 21, cls := 9, wanted := 2, expiry := 61000 }] := by decide
-- R170: the mark that the pass takes from a later row goes to an earlier short row in the same event.
theorem test_pass_follows : ({ node with
    records := [held 11 (.stocked 1), held 12 (.stocked 2)]
    bank.pockets := [{ stock 11 with reservedFor := some 8 }, { stock 12 with reservedFor := some 8 }]
    reservations := [row, { row with requester := 8 }] } : State).markingPass.bank.pockets.map (·.reservedFor)
      = [some 8, some 7] := by decide
-- R128: a reference run ends UNSEATED (7), and the reference stays.
theorem test_unseated_reference : ((after .headUnseated referenceRun).notices.entries.map
      (fun n => (n.kind, n.argument))) = [(.headUnseated, 0), (.referenceDone, 7)]
    ∧ (after .headUnseated referenceRun).head.reference = referenceRun.head.reference := by decide
-- R57, R72: the outbound slot lapses.
theorem test_rejoin_notices : kinds (after .rejoin node) = [.recordChanged, .recordInDoubt] := by decide
-- R79: CHECK(T, h) goes to the counterpart.
theorem test_presence_checks : ((withRecords [held 14 (.inDoubt { counterpart := 20, handoff := 3 } .missing
      none)]).presenceReport 20).line.txQueue.map (fun f => (f.kind, f.destination, f.payload))
    = [(.check, 20, [0, 0, 0, 14, 3])] := by decide
-- R65: BLOCKED (3), the station and the reason IN_PLACE (1).
theorem test_call_blocked : ((slotCall.applyHere 21 30 1).notices.entries.map (fun n => (n.kind, n.argument)))
      = [(.callDone, 0x03150100)]
    ∧ (slotCall.applyHere 21 30 1).slot? 1 = some (.refused (.blocked .inPlace)) := by decide
-- R171: the last wanted pocket of a row is served.
theorem test_issue_serves : kinds (after (.pocketRemoval 1) serving)
      = [.recordChanged, .issueDone, .reservationServed]
    ∧ (after (.pocketRemoval 1) serving).reservations = [] := by decide
-- R52: a beacon that waits behind the one in transmission is offered anew.
theorem test_presence_again : (after .frameSent (withQueue
    [{ waitingFrame with sending := true, reoffer := true }])).line.txQueue.map (·.kind) = [.presence] := by decide
-- R74: the offered record is taken on the head, before the call is done.
theorem test_offer_taken : kinds ((withCall .head 1).takeOffer
    { cls := 1, kind := 6, source := 21, destination := 5, payload := 7 :: baseBytes 30 })
      = [.recordArrived, .callDone] := by decide
theorem test_accept : (after .accept (withFrame 1 0 5 [0, 0, 0, 15, 4])).find 15 = none
    ∧ kinds (after .accept (withFrame 1 0 5 [0, 0, 0, 15, 4])) = [.peerPresent, .recordDeparted] := by
  decide
theorem test_decline : ((after .decline (withFrame 2 0 5 [0, 0, 0, 15, 4, 2])).find 15).map (·.state)
    = some .loose := by decide
theorem test_check_holding : (after .check (withFrame 7 1 5 [0, 0, 0, 12, 9])).line.txQueue.map (·.payload)
    = [[0, 0, 0, 12, 9, 1]] := by decide
theorem test_call_wait_last : kinds (after (.callWaitExpiry 1) (withCall .head 3)) = [.callDone] := by decide
theorem test_offer_wait : ((after (.offerWaitExpiry 1) node).out? 0).map (·.tries) = some 2 := by decide
theorem test_check_wait : ((after (.checkWaitExpiry 14) node).find 14).map (·.state)
    = some (.inDoubt { counterpart := 20, handoff := 3 } .missing none) := by decide
theorem test_peer_absent : (after (.peerAbsent 21) (withPeer 21 present)).custody.outs = List.replicate 4 none
    ∧ NoticeKind.recordInDoubt ∈ kinds (after (.peerAbsent 21) (withPeer 21 present)) := by decide
-- R41, R42: the hold is told in whole milliseconds.
theorem test_line_released : ((after (.lineReleased 7999999)
    { inState .listening with line.condition := .held, line.heldSince := some 5000000 }).notices.entries.map
      (fun n => (n.kind, n.argument))) = [(.lineReleased, 2)] := by decide
theorem test_driver_fault : kinds (after (.lineHeld 0 true) node) = [.lineHeld, .driverFault] := by decide
-- R98, R99, R101: removals and insertions.
theorem test_forced_removal : ((after (.pocketRemoval 1) node).find 11).map (·.state) = some .missing := by decide
theorem test_issue_taken : kinds (after (.pocketRemoval 1) issuing) = [.recordChanged, .issueDone] := by decide
theorem test_insertion : kinds (after (.pocketInsertion 2) node) = [.unexpectedInsert] := by decide
theorem test_pull_in_open_load : ((after (.pullInExpiry 1) (pullingNode false)).pocket? 1).map (·.fault)
    = some .openLoad := by decide
theorem test_pull_in_holds : ((after (.pullInExpiry 1) (pullingNode true)).pocket? 1).map (·.lock)
    = some (.holding forIssue 21000) := by decide
theorem test_hold_expires : ((after (.holdExpiry 1) (withPocket (locked (.holding forIssue 1000)))).pocket? 1).map
    (·.lock) = some .closed := by decide
theorem test_supply_low : kinds (after .supplyLow issuing) = [.supplyLow, .issueDone] := by decide
-- R107 to R111: keys and windows.
theorem test_enter_opens : kinds (after (.enter .a) (typed [1, 2, 3, 4] 0)) = [.accessOpened] := by decide
theorem test_enter_locks : kinds (after (.enter .a) (typed [9] 2)) = [.accessDenied, .keypadLocked] := by decide
theorem test_clear_window : kinds (after (.clear .a) (withWindow .both)) = [.accessClosed] := by decide
-- R125: a step wraps.
theorem test_scale_wraps : (after (.scaleStep .z false) node).head.z = 0xFFFFFFFF := by decide
theorem test_stray_capture : kinds (after (.capture true) node) = [.strayCapture] := by decide
-- R132: the last sample of a reference run.
theorem test_reference_done : (after (.capture true) (withRun .reference 4)).head.reference
    = { valid := true, z := 7, x := 3, t := 2000 } := by decide
theorem test_head_unseated : kinds (after .headUnseated measuringNode)
    = [.recordChanged, .headUnseated, .measureDone] := by decide
-- R162: a cycle point with a frame queued.
theorem test_cycle_overrun : kinds (after .cycleExpiry
    { demanding (.interval 2) with line.txQueue := [newFrame .demand 63 [10] .demandRun] }) = [.cycleOverrun] := by
  decide
theorem test_reservation_expires : (after (.reservationExpiry 7 9) reserving).reservations = [] := by decide
-- R36: at rate code 2 a cell is 4,000 ns; the nominal start mark is 7,000 ns.
theorem test_start_mark : (after (.startMarkRead 7000) node).line.receiver = .assembling
    ∧ (after (.startMarkRead 3000) node).line.receiver = .waiting := by decide

/-! ### Hypotheses are met: refusals and read responses -/

theorem witness_RestoreRefusals : free (inState .configured) = true ∧ free (inState .unconfigured) = true
    ∧ (inState .unconfigured).port.nodeState = .unconfigured ∧ (inState .online).port.nodeState = .online
    ∧ imageLengthOk (1 :: baseBytes 20) = false ∧ (parseImage (baseBytes 0)).base.toolId = 0
    ∧ (parseImage (baseBytes 20)).base.cls ≠ 0 ∧ (parseImage (baseBytes 20)).block = none
    ∧ (inState .configured).pocket? 4 = none ∧ (inState .configured).slot? 3 = none
    ∧ (inState .configured).find 11 ≠ none
    ∧ (inState .configured).pocket? 1 = some (pocket .present (.held 11))
    ∧ (inState .configured).slot? 2 = some (.loaded 13) ∧ seatedNode.headRecord ≠ none := by decide

set_option maxRecDepth 4000 in
theorem witness_RestoreTableFull :
    ({ fullTable with port.nodeState := .configured } : State).find 20 = none
    ∧ ({ fullTable with port.nodeState := .configured } : State).freeRows = 0 := by decide

/-- A record MISSING, and records that DROP, MARK_DAMAGED and REGRIND refuse. -/
def refused : State := withRecords [held 11 .missing, held 13 (.loaded 2),
  held 14 (.inDoubt { counterpart := 20, handoff := 3 } .missing none),
  held 15 (.outbound { counterpart := 21, handoff := 4 } .loose), held 16 .measuring]

theorem witness_RecordRefusals : free refused = true ∧ refused.port.nodeState ≠ .unconfigured
    ∧ refused.find 12 = none ∧ refused.find 11 = some (held 11 .missing)
    ∧ refused.find 13 = some (held 13 (.loaded 2)) ∧ refused.find 16 = some (held 16 .measuring)
    ∧ refused.find 14 = some (held 14 (.inDoubt { counterpart := 20, handoff := 3 } .missing none))
    ∧ refused.find 15 = some (held 15 (.outbound { counterpart := 21, handoff := 4 } .loose))
    ∧ lockedOpen.find 11 = some (held 11 (.stocked 1)) ∧ (lockedOpen.pocket? 1).map (·.lock.isClosed) = some false
    ∧ (inState .unconfigured).port.nodeState = .unconfigured ∧ free (inState .unconfigured) = true := by decide

theorem witness_CribRefusals : free node = true ∧ panelOf 3 = none ∧ panelOf 2 = some .b
    ∧ ({ node with config.pocketCount := 0 } : State).config.pocketCount = 0 ∧ 62 < (63 : Byte).toNat
    ∧ (inState .listening).port.nodeState ≠ .online ∧ (inState .listening).port.nodeState ≠ .listenOnly
    ∧ (node.panel .a).window = none
    ∧ ((withWindow .service).panel .a).window = some { privilege := .service, entry := 1, expiry := 1000 }
    ∧ (({ issuing with panels.a.window := (withWindow .both).panels.a.window } : State).panel .a).operation ≠ none
    ∧ ({ withWindow .both with bank.supply := .low } : State).bank.supply = .low
    ∧ node.pocket? 4 = none ∧ ([1, 2] : List Byte).length ≤ 254
    ∧ (withWindow .both).choosePocket 10 3 = none := by decide

theorem witness_IdentifyRefusals : pocketCall.callAt (.pocket 3) ≠ none
    ∧ pocketCall.pocket? 3 = some (pocket .present .unknown) ∧ pocketCall.find 12 = some (held 12 .loose)
    ∧ (withCall .head 1).callAt .head ≠ none ∧ (withCall .head 1).headRecord = none
    ∧ (withCall .head 1).find 12 = some (held 12 .loose)
    ∧ node.pocket? 1 = some (pocket .present (.held 11)) ∧ node.find 11 = some (held 11 (.stocked 1))
    ∧ node.find 13 = some (held 13 (.loaded 2)) ∧ seatedNode.find 16 = some (held 16 .seated)
    ∧ node.find 15 = some (held 15 (.outbound { counterpart := 21, handoff := 4 } .loose))
    ∧ node.find 14 = some (held 14 (.inDoubt { counterpart := 20, handoff := 3 } .missing (some 1000)))
    ∧ referenceRun.head.run = some { kind := .reference, n := 4, t := 2000, deadline := 1000 }
    ∧ ({ node with config.head := false } : State).config.head = false := by decide

/-- Pocket 2 QUEUED behind pocket 3, pocket 1 PULLING in pull-in slot 2. -/
def driving : State :=
  { pullingNode true with
    bank.queue := [3, 2], bank.pullIns := [none, some { pocket := 1, deadline := 1200 }, none, none] }

theorem witness_ReadPayloads : (0 : Int) ≤ ((1000 : Millis) - 1000).toInt ∧ ((1000 : Millis) - 1200).toInt < 0
    ∧ driving.bank.queue[2 - 1]? = some 2 ∧ 2 ∉ driving.bank.queue.take (2 - 1) ∧ 1 ∉ driving.bank.queue
    ∧ driving.bank.pullIns[2 - 1]? = some (some { pocket := 1, deadline := 1200 })
    ∧ (∀ w ∈ driving.bank.pullIns.filterMap id, w.pocket ≠ 2)
    ∧ driving.bank.pullIns.take (2 - 1) = [none]
    ∧ node.find 13 = some (held 13 (.loaded 2))
    ∧ (slotCall.custody.calls[0]?).map (fun c => c.map (·.tool)) = some (some 30)
    ∧ slotCall.custody.calls.take 0 = [] := by decide

theorem witness_ReservationPayload : row.cls ≠ 0 ∧ [1, 2].Pairwise (· < ·)
    ∧ (∀ p, p ∈ [1, 2] ↔ ∃ k tool r, (marking 2 [stock 11, stock 12] (some 7)).pocket? p = some k
      ∧ k.reservedFor = some row.requester ∧ k.occupancy = .held tool
      ∧ (marking 2 [stock 11, stock 12] (some 7)).find tool = some r ∧ r.image.cls = row.cls) := by
  refine ⟨by decide, by decide, fun p => ?_⟩
  rcases p with _ | _ | _ | p <;>
    simp [marking, withRecords, State.pocket?, State.find, stock, pocket, held, image, row]

/-! ### The bytes of read responses (11.3) and of TX_DISCARDED (11.4) -/

-- R103: PRESENT, HELD 11, PULLING 2, no queue position, pull-in slot 2, 200 ms left, no fault, no mark, ISSUE, A,
-- supply NORMAL, 2 QUEUED, 1 PULLING, 1 energised.
theorem test_read_pocket_pulling : answer (after (.readPocket 1) driving)
    = some (.ok, [1, 1, 0, 0, 0, 11, 2, 0, 2, 0, 0, 0, 200, 0, 0, 1, 1, 0, 2, 1, 1]) := by decide
-- R123: no digits, no mismatch, no lockout, no window, an ISSUE of class 9 for station 0, OPEN, pocket 1 OPEN.
theorem test_read_panel_issue : answer (after (.readPanel 1) issuing)
    = some (.ok, [0, 0, 255, 255, 255, 255, 255, 0, 255, 255, 255, 255, 1, 2, 1, 1, 1, 0, 0, 9, 0]) := by decide
-- R157: LOADED 2, tool 13, its life, FIT 8, no unfit reason, no call, no cause.
theorem test_read_slot_loaded : (answer (after (.readSlot 2) node)).map (fun a => (a.2.take 5, a.2.drop 14))
    = some ([2, 0, 0, 0, 13], [8, 0, 0, 0, 0, 0, 0, 255, 255, 255, 255, 255, 255]) := by decide
-- R34, 11.4: a PRESENCE (kind 9, class 3) to 63, cause QUEUE_FULL 2.
theorem test_discarded_argument : ((node.postDiscarded waitingFrame .queueFull).notices.entries.map
      (fun n => (n.object, n.argument))) = [(63, 0x09000302)] := by decide

end Sys2Proof.Tests
end

section
/-! SUPPORT. O8: without the offer law the place law is not kept. -/

namespace Sys2Proof.Machine

/-! ### A STOCKED record that a busy outbound slot names -/

/-- A record of tool 11, STOCKED in pocket 1. -/
def stockedEleven : ToolRecord where
  image :=
    { toolId := 11, cls := 9, nomLength := 1000, lengthTol := 10, nomRadius := 500, radiusTol := 10
      runoutLimit := 20, lifeLimit := 100, lifeUsed := 20, warnMargin := 10, remeasureInterval := 0
      regrinds := 0, damaged := false, measured := none }
  state := .stocked 1

/-- Pocket 1: it holds tool 11, sensed present behind a CLOSED lock. -/
def pocketOfEleven : Pocket := { Pocket.fresh with presence := .present, occupancy := .held 11 }

/-- ACCEPT(11, 4) from station 21 to station 5, received. -/
def acceptOfEleven : RxFrame where
  cls := 0
  kind := 1
  source := 21
  destination := 5
  payload := [0, 0, 0, 11, 4]

/-- An ONLINE node at station 5 that meets the record and place laws, but not the offer law: an outbound slot is busy
with tool 11, which stands in pocket 1. The ACCEPT of that offer is delivered next. -/
def offeredWhileStocked : State :=
  { State.reset with
    pending := [.accept]
    port := { Port.atReset with resetHeld := false, station := 5, nodeState := .online }
    line := { Line.atReset with rxQueue := [acceptOfEleven] }
    records := [stockedEleven]
    bank := { Bank.atReset with pockets := [pocketOfEleven] }
    custody := { Custody.atReset with outs :=
      [some { tool := 11, caller := 21, handoff := 4, tries := 1, deadline := 60 }, none, none, none] } }

/-- The state that the ACCEPT leaves: R76 has removed the record that the slot named. -/
def acceptedWhileStocked : State :=
  match step offeredWhileStocked with
  | .next t => t
  | _ => offeredWhileStocked

theorem offeredWhileStocked_recordLaw : offeredWhileStocked.RecordLaw := by
  constructor <;> decide

theorem offeredWhileStocked_placeLaw : offeredWhileStocked.PlaceLaw where
  pockets p tool := by
    rcases p with _ | _ | p <;>
      simp [offeredWhileStocked, State.pocket?, pocketOfEleven, stockedEleven]
  slots n tool := by
    rcases n with _ | n <;> simp [offeredWhileStocked, State.slot?, State.reset, stockedEleven]
  head := by decide
  run tool := by simp [offeredWhileStocked, State.reset, Head.atReset, stockedEleven]
  absent := by decide
  calls c := by simp [offeredWhileStocked, State.reset, Custody.atReset]
  calling n tool := by rcases n with _ | n <;> simp [offeredWhileStocked, State.slot?, State.reset]
  purposes := by decide
  bare := by decide

theorem step_offeredWhileStocked : step offeredWhileStocked = .next acceptedWhileStocked := rfl

/-- Pocket 1 is still HELD with tool 11, and no record is held. -/
theorem acceptedWhileStocked_places : acceptedWhileStocked.pocket? 1 = some pocketOfEleven
    ∧ acceptedWhileStocked.records = [] := by decide

end Sys2Proof.Machine

namespace Sys2Proof.Proofs

open Sys2Proof.Machine

/-- Refutes O8 in its second part: `RecordLaw` and `PlaceLaw` do not tie an outbound slot to an OUTBOUND record, and R76
drops the record that a matching slot names whatever its state. In `offeredWhileStocked` that record is STOCKED, so the
ACCEPT leaves its pocket HELD without a record. (The third part has `OfferLaw`, which excludes this, as a premise.) -/
theorem not_recordLawKept : ¬ Obligations.RecordLawKept := by
  unfold Obligations.RecordLawKept
  rintro ⟨-, placeKept, -⟩
  have law : acceptedWhileStocked.PlaceLaw := placeKept _ _ offeredWhileStocked_recordLaw
    offeredWhileStocked_placeLaw step_offeredWhileStocked
  obtain ⟨pocketHeld, noRecord⟩ := acceptedWhileStocked_places
  obtain ⟨r, hr, -⟩ := (law.pockets 1 11).mp ⟨pocketOfEleven, pocketHeld, rfl⟩
  rw [noRecord] at hr
  exact List.not_mem_nil hr

end Sys2Proof.Proofs
end

section
/-! SUPPORT. Images: the ranges that parsing, intake, charging, regrinding and measuring keep (R5 to R7, R19, R136 to
R142, R153). -/

namespace Sys2Proof.Machine

/-! ### Bytes and clamps -/

/-- The number that bytes spell, from any start of the fold. -/
theorem foldl_bytes_lt (bytes : List Byte) (a : Nat) :
    bytes.foldl (fun acc b => acc * 256 + b.toNat) a < (a + 1) * 256 ^ bytes.length := by
  induction bytes generalizing a with
  | nil => simp
  | cons b rest ih =>
    have hb : b.toNat < 256 := b.isLt
    calc
      _ < (a * 256 + b.toNat + 1) * 256 ^ rest.length := ih _
      _ ≤ ((a + 1) * 256) * 256 ^ rest.length := Nat.mul_le_mul_right _ (by omega)
      _ = _ := by rw [List.length_cons, pow_succ]; ring

/-- A field is below what its bytes can hold. -/
theorem field_lt (bytes : List Byte) (offset width : Nat) : field bytes offset width < 256 ^ width :=
  calc
    field bytes offset width < 256 ^ ((bytes.drop offset).take width).length := by
      simpa [field, beNat] using foldl_bytes_lt ((bytes.drop offset).take width) 0
    _ ≤ 256 ^ width := Nat.pow_le_pow_right (by norm_num) (List.length_take_le _ _)

theorem le_clampNat {lo hi n : Nat} : lo ≤ clampNat lo hi n := le_max_left _ _

theorem clampNat_le {lo hi n : Nat} (h : lo ≤ hi) : clampNat lo hi n ≤ hi := max_le h (min_le_left _ _)

theorem clampTemp_mem (t : Int) : -1000 ≤ clampTemp t ∧ clampTemp t ≤ 5000 := by
  unfold clampTemp; omega

/-! ### Measured blocks -/

/-- The ranges of a measured block under an image with this life used (R6). -/
structure Measured.InRange (m : Measured) (lifeUsed : Nat) : Prop where
  length : m.length ≤ Config.lengthMax
  radius : m.radius ≤ Config.radiusMax
  runout : m.runout ≤ Config.runoutMax
  station : 1 ≤ m.station ∧ m.station ≤ 62
  temperature : -1000 ≤ m.temperature ∧ m.temperature ≤ 5000
  kept : 3 ≤ m.kept ∧ m.kept ≤ 32
  life : m.lifeAtMeasure ≤ lifeUsed

/-- Only a block's verdict has no range of its own. -/
theorem Measured.InRange.withVerdict {m : Measured} {life : Nat} (h : m.InRange life) (v : Verdict) :
    ({ m with verdict := v } : Measured).InRange life := { h with }

/-- A block stays in range as life is used. -/
theorem Measured.InRange.mono {m : Measured} {a b : Nat} (h : m.InRange a) (hab : a ≤ b) : m.InRange b :=
  { h with life := h.life.trans hab }

theorem Image.inRange_measured {i : Image} (h : i.InRange) {m : Measured} (hm : i.measured = some m) :
    m.InRange i.lifeUsed := by
  obtain ⟨length, radius, runout, s1, s62, t0, t1, k3, k32, life⟩ := h.measured m hm
  exact ⟨length, radius, runout, ⟨s1, s62⟩, ⟨t0, t1⟩, ⟨k3, k32⟩, life⟩

/-- An image in range takes a block that is in range under its life used, or loses its block. -/
theorem Image.InRange.setMeasured {i : Image} (h : i.InRange) (block : Option Measured)
    (hb : ∀ m, block = some m → m.InRange i.lifeUsed) : ({ i with measured := block } : Image).InRange :=
  { h with
    measured := fun m hm => by
      obtain ⟨length, radius, runout, ⟨s1, s62⟩, ⟨t0, t1⟩, ⟨k3, k32⟩, life⟩ := hb m hm
      exact ⟨length, radius, runout, s1, s62, t0, t1, k3, k32, life⟩ }

/-! ### Intake (R7) -/

/-- What the widths of an image's fields already bound (11.2). -/
structure RawImage.Sized (r : RawImage) : Prop where
  cls : r.base.cls ≤ 65535
  tolerances : r.base.lengthTol ≤ 65535 ∧ r.base.radiusTol ≤ 65535 ∧ r.base.runoutLimit ≤ 65535
  regrinds : r.base.regrinds ≤ 15
  runout : ∀ m, r.block = some m → m.runout ≤ 65535

/-- The base of a parsed image with any block whose runout has 2 bytes. -/
theorem RawImage.sized_of_base (bytes : List Byte) (block : Option RawBlock)
    (h : ∀ m, block = some m → m.runout ≤ 65535) : ({ base := parseBase bytes, block := block } : RawImage).Sized where
  cls := Nat.le_of_lt_succ (field_lt bytes 4 2)
  tolerances := ⟨Nat.le_of_lt_succ (field_lt bytes 9 2), Nat.le_of_lt_succ (field_lt bytes 14 2),
    Nat.le_of_lt_succ (field_lt bytes 16 2)⟩
  regrinds := Nat.le_of_lt_succ (Nat.mod_lt _ (by norm_num))
  runout := h

theorem parseImage_sized (bytes : List Byte) : (parseImage bytes).Sized :=
  RawImage.sized_of_base bytes _ fun m hm => by
    obtain ⟨-, hm⟩ := Option.ite_none_right_eq_some.mp hm
    obtain rfl := Option.some.inj hm
    exact Nat.le_of_lt_succ (field_lt bytes 37 2)

/-- An image names identifiers in range when its tool id, its class and its measuring station are (R7). -/
theorem RawImage.badIdentifier_eq_false {r : RawImage} : r.badIdentifier = false ↔
    r.base.toolId ≠ 0 ∧ r.base.cls ≠ 0 ∧ ∀ m, r.block = some m → 1 ≤ m.station ∧ m.station ≤ 62 := by
  unfold RawImage.badIdentifier
  cases r.block with
  | none => simp
  | some m => simp [Nat.one_le_iff_ne_zero, and_assoc]

/-- The clamped base of a host image is in range before any block is stored (R7). -/
theorem clampBase_inRange {r : RawImage} (hs : r.Sized) (hid : r.base.toolId ≠ 0) (hcls : r.base.cls ≠ 0) :
    ({ clampBase r.base with measured := none } : Image).InRange where
  toolId := hid
  cls := ⟨Nat.one_le_iff_ne_zero.mpr hcls, hs.cls⟩
  nomLength := min_le_right _ _
  nomRadius := min_le_right _ _
  lifeLimit := ⟨le_clampNat, clampNat_le (by decide)⟩
  lifeUsed := min_le_right _ _
  warnMargin := min_le_right _ _
  remeasureInterval := min_le_right _ _
  regrinds := hs.regrinds
  tolerances := hs.tolerances
  measured := fun _ h => nomatch h

/-- A clamped host block is in range (R7). -/
theorem clampBlock_inRange {b : RawBlock} (hrun : b.runout ≤ 65535) (hst : 1 ≤ b.station ∧ b.station ≤ 62)
    (life : Nat) : (clampBlock life b).InRange life where
  length := min_le_right _ _
  radius := min_le_right _ _
  runout := hrun
  station := hst
  temperature := clampTemp_mem _
  kept := ⟨le_clampNat, clampNat_le (by decide)⟩
  life := min_le_right _ _

/-- What the host sends is in range once it is taken in (R7). -/
theorem RawImage.hostIntake_inRange {r : RawImage} (hs : r.Sized) (hid : r.badIdentifier = false) :
    r.hostIntake.InRange := by
  obtain ⟨htool, hcls, hstation⟩ := RawImage.badIdentifier_eq_false.mp hid
  have base := clampBase_inRange hs htool hcls
  unfold RawImage.hostIntake
  cases hb : r.block with
  | none => exact base
  | some b =>
    refine base.setMeasured (some _) fun m hm => ?_
    obtain rfl := Option.some.inj hm
    exact (clampBlock_inRange (hs.runout b hb) (hstation b hb) _).withVerdict _

theorem RawImage.hostIntake_toolId (r : RawImage) : r.hostIntake.toolId = r.base.toolId := by
  unfold RawImage.hostIntake
  cases r.block <;> rfl

/-- The range check of a line image, field by field (R5, R6, R190). -/
theorem RawImage.inRange_base {r : RawImage} (hs : r.Sized) (h : r.inRange = true) :
    ({ r.base with measured := none } : Image).InRange := by
  simp only [RawImage.inRange, Bool.and_eq_true, bne_iff_ne, decide_eq_true_eq] at h
  obtain ⟨⟨⟨⟨⟨⟨⟨⟨⟨htool, hcls⟩, hlen⟩, hrad⟩, hlim⟩, hmax⟩, hused⟩, hwarn⟩, hint⟩, -⟩ := h
  exact ⟨htool, ⟨Nat.one_le_iff_ne_zero.mpr hcls, hs.cls⟩, hlen, hrad, ⟨hlim, hmax⟩, hused, hwarn, hint,
    hs.regrinds, hs.tolerances, fun _ h => nomatch h⟩

theorem RawImage.inRange_block {r : RawImage} (hs : r.Sized) (h : r.inRange = true) {b : RawBlock}
    (hb : r.block = some b) : b.toMeasured.InRange r.base.lifeUsed := by
  simp only [RawImage.inRange, hb, Bool.and_eq_true, decide_eq_true_eq] at h
  obtain ⟨-, ⟨⟨⟨⟨⟨⟨⟨⟨hlen, hrad⟩, -⟩, hs1⟩, hs62⟩, ht0⟩, ht1⟩, hk3⟩, hk32⟩, hlife⟩ := h
  exact ⟨hlen, hrad, hs.runout b hb, ⟨hs1, hs62⟩, ⟨ht0, ht1⟩, ⟨hk3, hk32⟩, hlife⟩

/-- What a peer sends in range is in range once it is taken in (R7). -/
theorem RawImage.lineIntake_inRange {r : RawImage} (hs : r.Sized) (h : r.inRange = true) :
    r.lineIntake.InRange := by
  have base := RawImage.inRange_base hs h
  unfold RawImage.lineIntake
  cases hb : r.block with
  | none => exact base
  | some b =>
    refine base.setMeasured (some _) fun m hm => ?_
    obtain rfl := Option.some.inj hm
    exact (RawImage.inRange_block hs h hb).withVerdict _

/-! ### Changes of content (R18, R19, R153) -/

theorem Image.InRange.damage {i : Image} (h : i.InRange) : ({ i with damaged := true } : Image).InRange := { h with }

/-- A charge stops at the life limit and never lowers life used (R153). -/
theorem Image.InRange.charged {i : Image} (h : i.InRange) (seconds : Nat) : (i.charged seconds).InRange := by
  have hused := h.lifeUsed
  have grown : i.lifeUsed ≤ (i.charged seconds).lifeUsed := by simp only [Image.charged]; omega
  exact
    { h with
      lifeUsed := min_le_right _ _
      measured := fun m hm => by
        obtain ⟨length, radius, runout, ⟨s1, s62⟩, ⟨t0, t1⟩, ⟨k3, k32⟩, life⟩ :=
          (Image.inRange_measured h hm).mono grown
        exact ⟨length, radius, runout, s1, s62, t0, t1, k3, k32, life⟩ }

/-- A regrind below the limit of 15 (R19). -/
theorem Image.InRange.reground {i : Image} (h : i.InRange) (hr : i.regrinds < 15) (len : Option (BitVec 24)) :
    (i.reground len).InRange :=
  { h with
    nomLength := by
      cases len with
      | none => exact h.nomLength
      | some n => exact min_le_right _ _
    lifeUsed := Nat.zero_le _
    regrinds := hr
    measured := fun _ hm => nomatch hm }

/-! ### Measurement results (R136 to R142) -/

theorem keptSamples_length_le (band : Nat) (l : List Sample) : (keptSamples band l).length ≤ l.length :=
  List.length_filter_le _ _

theorem clampResult_le (hi : Nat) (v : Int) : clampResult hi v ≤ hi := min_le_left _ _

/-- The block that a measurement run of at most 32 samples writes is in range (R138 to R142). -/
theorem measureResult_inRange {c : NodeConfig} {ref : Reference} {station : Nat} {i : Image} {t : Int}
    {samples : List Sample} {kept : Nat} {m : Measured} (hst : 1 ≤ station ∧ station ≤ 62)
    (ht : -1000 ≤ t ∧ t ≤ 5000) (hn : samples.length ≤ 32)
    (h : measureResult c ref station i t samples = (kept, some m)) : m.InRange i.lifeUsed := by
  have few := keptSamples_length_le c.band samples
  unfold measureResult at h
  simp only at h
  split at h
  · cases h
  · next enough =>
    cases hk : keptSamples c.band samples with
    | nil => rw [hk] at h; cases h
    | cons first rest =>
      rw [hk] at h enough few
      cases h
      have three : 3 ≤ keepThreshold samples.length := le_max_left _ _
      rw [List.length_cons] at enough few
      have kept : 3 ≤ rest.length + 1 ∧ rest.length + 1 ≤ 32 := by omega
      exact ⟨clampResult_le _ _, clampResult_le _ _, min_le_left _ _, hst, ht, kept, le_rfl⟩

/-- N as a run takes it (R131, R133). -/
theorem clampN_mem (n : Byte) : 4 ≤ clampN n ∧ clampN n ≤ 32 := ⟨le_clampNat, clampNat_le (by decide)⟩

end Sys2Proof.Machine
end

section
/-! SUPPORT. What the range and run laws see of a state, and what the shared operations leave of it: most leave it as it
is, some take records away or end a run. -/

namespace Sys2Proof.Machine

/-! ### The view -/

/-- What the range law and the run law speak of: the images held, the active run with its samples, and whether the node
is past CONFIGURE. -/
structure RangeView where
  images : List Image
  run : Option Run
  samples : List Sample
  configured : Bool

/-- The view of a state. -/
def State.rangeView (s : State) : RangeView where
  images := s.records.map (·.image)
  run := s.head.run
  samples := s.head.samples
  configured := s.configured

/-- The run goes on as it was, at a node that is still past CONFIGURE, or it has ended. -/
def RangeView.RunWithin (g h : RangeView) : Prop :=
  g.run = none ∨ (g.run = h.run ∧ g.samples = h.samples ∧ (h.configured = true → g.configured = true))

/-- No image is new, and the run goes on as it was or has ended. -/
structure RangeView.Within (g h : RangeView) : Prop where
  images : g.images ⊆ h.images
  run : g.RunWithin h

theorem RangeView.RunWithin.trans {g h i : RangeView} (hgh : g.RunWithin h) (hhi : h.RunWithin i) : g.RunWithin i := by
  obtain idle | ⟨run, samples, past⟩ := hgh
  · exact .inl idle
  · obtain idle | ⟨run', samples', past'⟩ := hhi
    · exact .inl (run.trans idle)
    · exact .inr ⟨run.trans run', samples.trans samples', fun h => past (past' h)⟩

theorem RangeView.Within.refl (g : RangeView) : g.Within g :=
  ⟨List.Subset.refl _, .inr ⟨rfl, rfl, id⟩⟩

theorem RangeView.Within.of_eq {g h : RangeView} (e : g = h) : g.Within h := e ▸ .refl g

theorem RangeView.Within.trans {g h i : RangeView} (hgh : g.Within h) (hhi : h.Within i) : g.Within i where
  images := List.Subset.trans hgh.images hhi.images
  run := hgh.run.trans hhi.run

theorem State.configured_iff (s : State) : s.configured = true ↔ s.port.nodeState ≠ .unconfigured := bne_iff_ne

theorem State.rangeLaw_iff {s : State} : s.RangeLaw ↔ ∀ i ∈ s.rangeView.images, i.InRange :=
  List.forall_mem_map.symm

/-- The range law follows from where the images come from. -/
theorem State.RangeLaw.of_within {s t : State} (h : s.RangeLaw) (w : t.rangeView.Within s.rangeView) : t.RangeLaw :=
  State.rangeLaw_iff.mpr fun i hi => State.rangeLaw_iff.mp h i (w.images hi)

/-- The run law follows from where the run comes from. -/
theorem State.RunLaw.of_run {s t : State} (h : s.RunLaw) (w : t.rangeView.RunWithin s.rangeView) :
    t.RunLaw := fun r hr => by
  obtain idle | ⟨run, samples, past⟩ := w
  · exact absurd (idle.symm.trans hr) (by simp)
  · obtain ⟨n4, n32, t0, t1, short, conf⟩ := h r (run.symm.trans hr)
    exact ⟨n4, n32, t0, t1, (congrArg List.length samples).trans_lt short,
      (State.configured_iff t).mp (past ((State.configured_iff s).mpr conf))⟩

theorem State.rangeView_congr {s t : State} (records : t.records = s.records) (head : t.head = s.head)
    (port : t.port = s.port) : t.rangeView = s.rangeView := by
  simp only [State.rangeView, State.configured, records, head, port]

/-! ### Operations of all blocks that leave the view -/

section
variable (s : State)

@[simp] theorem State.post_rangeView (k : NoticeKind) (o a : BitVec 32) :
    (s.post k o a).rangeView = s.rangeView := rangeView_congr (by simp) (by simp) (by simp)
@[simp] theorem State.postChanged_rangeView (tool : ToolId) :
    (s.postChanged tool).rangeView = s.rangeView := rangeView_congr (by simp) (by simp) (by simp)
@[simp] theorem State.setPocket_rangeView (p : Nat) (f : Pocket → Pocket) :
    (s.setPocket p f).rangeView = s.rangeView := rangeView_congr (by simp) (by simp) (by simp)
@[simp] theorem State.setSlot_rangeView (n : Nat) (m : MagSlot) :
    (s.setSlot n m).rangeView = s.rangeView := rangeView_congr (by simp) (by simp) (by simp)
@[simp] theorem State.setPanel_rangeView (i : PanelId) (f : Panel → Panel) :
    (s.setPanel i f).rangeView = s.rangeView := rangeView_congr (by simp) (by simp) (by simp)
@[simp] theorem State.setPeer_rangeView (n : Nat) (f : Peer → Peer) : (s.setPeer n f).rangeView = s.rangeView := by
  unfold State.setPeer; split <;> rfl
@[simp] theorem State.unmark_rangeView (p : Nat) :
    (s.unmark p).rangeView = s.rangeView := rangeView_congr (by simp) (by simp) (by simp)
@[simp] theorem State.markingPass_rangeView :
    s.markingPass.rangeView = s.rangeView := rangeView_congr (by simp) (by simp) (by simp)
@[simp] theorem State.deleteRows_rangeView (gone : Reservation → Bool) :
    (s.deleteRows gone).rangeView = s.rangeView := rangeView_congr (by simp) (by simp) (by simp)
@[simp] theorem State.startAttempt_rangeView :
    s.startAttempt.rangeView = s.rangeView := rangeView_congr (by simp) (by simp) (by simp)
@[simp] theorem State.offerFrame_rangeView (f : TxFrame) :
    (s.offerFrame f).rangeView = s.rangeView := rangeView_congr (by simp) (by simp) (by simp)
@[simp] theorem State.removeFrames_rangeView (o : FrameOwner) :
    (s.removeFrames o).rangeView = s.rangeView := rangeView_congr (by simp) (by simp) (by simp)
@[simp] theorem State.refreshDemand_rangeView (again : Bool) :
    (s.refreshDemand again).rangeView = s.rangeView := rangeView_congr (by simp) (by simp) (by simp)
@[simp] theorem State.offerPresence_rangeView :
    s.offerPresence.rangeView = s.rangeView := rangeView_congr (by simp) (by simp) (by simp)
@[simp] theorem State.offerDemand_rangeView :
    s.offerDemand.rangeView = s.rangeView := rangeView_congr (by simp) (by simp) (by simp)
@[simp] theorem State.closeCall_rangeView (i : Nat) (o : CallOutcome) (n : Nat) :
    (s.closeCall i o n).rangeView = s.rangeView := rangeView_congr (by simp) (by simp) (by simp)
@[simp] theorem State.withdrawCall_rangeView (why : Purpose) :
    (s.withdrawCall why).rangeView = s.rangeView := rangeView_congr (by simp) (by simp) (by simp)
@[simp] theorem State.freeOut_rangeView (i : Nat) :
    (s.freeOut i).rangeView = s.rangeView := rangeView_congr (by simp) (by simp) (by simp)
@[simp] theorem State.closeLock_rangeView (p : Nat) :
    (s.closeLock p).rangeView = s.rangeView := rangeView_congr (by simp) (by simp) (by simp)
@[simp] theorem State.endOperation_rangeView (i : PanelId) (o : OpOutcome) :
    (s.endOperation i o).rangeView = s.rangeView := rangeView_congr (by simp) (by simp) (by simp)
@[simp] theorem State.report_rangeView (why : Opening) (p : Nat) (r : Report) :
    (s.report why p r).rangeView = s.rangeView := rangeView_congr (by simp) (by simp) (by simp)
@[simp] theorem State.postReferenceDone_rangeView (o : RunOutcome) :
    (s.postReferenceDone o).rangeView = s.rangeView := rangeView_congr (by simp) (by simp) (by simp)
@[simp] theorem State.postMeasureDone_rangeView (tool : ToolId) (o : RunOutcome) (n : Nat) :
    (s.postMeasureDone tool o n).rangeView = s.rangeView := rangeView_congr (by simp) (by simp) (by simp)
@[simp] theorem State.postDiscarded_rangeView (f : TxFrame) (c : DiscardCause) :
    (s.postDiscarded f c).rangeView = s.rangeView := rangeView_congr (by simp) (by simp) (by simp)

/-- A fold of steps that leave the view leaves it. -/
theorem foldl_rangeView {α : Type} (f : State → α → State) (h : ∀ u a, (f u a).rangeView = u.rangeView) (l : List α) :
    (l.foldl f s).rangeView = s.rangeView := by
  induction l generalizing s with
  | nil => rfl
  | cons a l ih => exact (ih _).trans (h s a)

/-! ### Changes of state -/

/-- A change of records that keeps their images. -/
theorem State.updateRecord_rangeView (tool : ToolId) {f : ToolRecord → ToolRecord} (h : ∀ r, (f r).image = r.image) :
    (s.updateRecord tool f).rangeView = s.rangeView := by
  have images : (s.updateRecord tool f).records.map (·.image) = s.records.map (·.image) := by
    simp only [State.updateRecord, List.map_map]
    refine List.map_congr_left fun r _ => ?_
    simp only [Function.comp_apply]
    split
    · exact h r
    · rfl
  simp only [State.rangeView, images]
  rfl

@[simp] theorem State.setState_rangeView (tool : ToolId) (st : RecordState) :
    (s.setState tool st).rangeView = s.rangeView := s.updateRecord_rangeView tool fun _ => rfl

@[simp] theorem State.reseat_rangeView (tool : ToolId) : (s.reseat tool).rangeView = s.rangeView := by
  simp [State.reseat]

@[simp] theorem State.returnToPrior_rangeView (tool : ToolId) (p : Prior) :
    (s.returnToPrior tool p).rangeView = s.rangeView := by simp [State.returnToPrior]

@[simp] theorem State.stock_rangeView (tool : ToolId) (p : Nat) : (s.stock tool p).rangeView = s.rangeView := by
  simp [State.stock]

@[simp] theorem State.unstock_rangeView (tool : ToolId) (p : Nat) (st : RecordState) :
    (s.unstock tool p st).rangeView = s.rangeView := by simp [State.unstock]

@[simp] theorem State.lapse_rangeView (i : Nat) (c : DoubtCause) : (s.lapse i c).rangeView = s.rangeView := by
  unfold State.lapse
  split
  · rfl
  · simp only [post_rangeView, postChanged_rangeView, freeOut_rangeView]
    exact s.updateRecord_rangeView _ fun _ => rfl

@[simp] theorem State.lapseAll_rangeView (test : OutSlot → Bool) (c : DoubtCause) :
    (s.lapseAll test c).rangeView = s.rangeView :=
  foldl_rangeView s _ (fun u i => by split <;> [split <;> simp; rfl]) _

/-- A departing record takes its image with it. -/
theorem State.depart_within (tool : ToolId) (n : Nat) : (s.depart tool n).rangeView.Within s.rangeView where
  images i hi := by
    simp only [State.depart, State.rangeView, post_records, removeFrames_records, State.dropRecord] at hi
    exact (List.filter_sublist.map _).subset hi
  run := .inr ⟨by simp [State.rangeView], by simp [State.rangeView], by simp [State.rangeView, State.configured]⟩

/-! ### Runs -/

/-- A run that has ended leaves the images. -/
theorem State.idleRun_within : s.idleRun.rangeView.Within s.rangeView := ⟨List.Subset.refl _, .inl rfl⟩

theorem State.endRun_within (o : RunOutcome) : (s.endRun o).rangeView.Within s.rangeView := by
  unfold State.endRun
  split
  · exact .refl _
  · split <;> simpa using s.idleRun_within

theorem State.enterListenOnly_within : s.enterListenOnly.rangeView.Within s.rangeView :=
  ⟨List.Subset.refl _, .inr ⟨rfl, rfl, fun _ => rfl⟩⟩

end

end Sys2Proof.Machine
end

section
/-! SUPPORT. What the operations of each unit leave of the view of the range and run laws. -/

namespace Sys2Proof.Machine

section
variable (s : State)

/-! ### Roster and reservations -/

@[simp] theorem State.hear_rangeView (n : Nat) (a : Option Announced) : (s.hear n a).rangeView = s.rangeView := by
  unfold State.hear
  split
  · rfl
  · simp only []
    split <;> simp

@[simp] theorem State.strike_rangeView (n kind : Nat) : (s.strike n kind).rangeView = s.rangeView := by
  unfold State.strike
  split
  · rfl
  · simp only []
    split <;> simp

@[simp] theorem State.rosterTakes_rangeView (f : RxFrame) (k : FrameKind) (ok : Bool) :
    (s.rosterTakes f k ok).rangeView = s.rangeView := by
  unfold State.rosterTakes State.clean
  cases ok <;> simp

@[simp] theorem postEnded_rangeView (cause : EndCause) (rows : List Reservation) :
    (postEnded cause rows s).rangeView = s.rangeView := foldl_rangeView s _ (fun _ _ => by simp) _

@[simp] theorem State.goAbsent_rangeView (n : Nat) (p : Peer) : (s.goAbsent n p).rangeView = s.rangeView := by
  simp [State.goAbsent, State.dropReservationsOf]

theorem State.startCheck_rangeView (n : Nat) (r : ToolRecord) : (s.startCheck n r).rangeView = s.rangeView := by
  unfold State.startCheck
  split
  · rfl
  · refine (State.updateRecord_rangeView _ _ ?_).trans (State.offerFrame_rangeView _ _)
    exact fun _ => rfl

@[simp] theorem State.presenceReport_rangeView (n : Nat) : (s.presenceReport n).rangeView = s.rangeView := by
  unfold State.presenceReport
  split
  · exact foldl_rangeView s _ (fun u r => u.startCheck_rangeView n r) _
  · rfl

@[simp] theorem State.postFate_rangeView (n : Nat) (e : DemandEntry × EntryFate) :
    (s.postFate n e).rangeView = s.rangeView := by
  unfold State.postFate
  split <;> simp

theorem State.applyDemand_rangeView (n hold : Nat) (list : List DemandEntry) :
    (s.applyDemand n hold list).rangeView = s.rangeView := by
  unfold State.applyDemand
  rw [foldl_rangeView _ _ (fun u e => u.postFate_rangeView n e), postEnded_rangeView, markingPass_rangeView]
  rfl

@[simp] theorem State.takeDemand_rangeView (f : RxFrame) : (s.takeDemand f).rangeView = s.rangeView := by
  unfold State.takeDemand
  simp only []
  split
  · rfl
  · exact s.applyDemand_rangeView _ _ _

/-! ### Custody frames -/

@[simp] theorem State.reply_rangeView (k : FrameKind) (n : Nat) (payload : List Byte) :
    (s.reply k n payload).rangeView = s.rangeView := s.offerFrame_rangeView _

@[simp] theorem State.postDuplicate_rangeView (tool : ToolId) (n : Nat) (k : FrameKind) :
    (s.postDuplicate tool n k).rangeView = s.rangeView := s.post_rangeView _ _ _

@[simp] theorem State.here_rangeView (n : Nat) (tool : ToolId) (why : BlockReason) :
    (s.here n tool why).rangeView = s.rangeView := s.reply_rangeView _ _ _

@[simp] theorem State.decline_rangeView (n : Nat) (tool : ToolId) (h : Byte) (why : DeclineReason) :
    (s.decline n tool h why).rangeView = s.rangeView := s.reply_rangeView _ _ _

@[simp] theorem State.offerOrBusy_rangeView (n : Nat) (r : ToolRecord) (p : Prior) :
    (s.offerOrBusy n r p).rangeView = s.rangeView := by
  unfold State.offerOrBusy
  split
  · simp
  · simp only [State.beginOffer, offerFrame_rangeView, postChanged_rangeView, setState_rangeView]
    rfl

@[simp] theorem State.answerByState_rangeView (n : Nat) (r : ToolRecord) :
    (s.answerByState n r).rangeView = s.rangeView := by
  unfold State.answerByState
  simp only []
  cases r.state with
  | outbound c p => dsimp only; split <;> simp
  | _ => simp

@[simp] theorem State.takeCall_rangeView (f : RxFrame) : (s.takeCall f).rangeView = s.rangeView := by
  unfold State.takeCall
  simp only []
  split
  · rfl
  · split
    · rfl
    · split <;> simp

theorem State.applyAccept_within (n : Nat) (tool : ToolId) (h : Byte) :
    (s.applyAccept n tool h).rangeView.Within s.rangeView := by
  unfold State.applyAccept
  split
  · exact (State.depart_within _ tool n).trans (.of_eq (by simp))
  · split
    · exact s.depart_within tool n
    · exact .of_eq (by simp)

@[simp] theorem State.declined_rangeView (n : Nat) (tool : ToolId) (reason : Nat) :
    (s.declined n tool reason).rangeView = s.rangeView := by
  unfold State.declined
  cases (s.find tool).bind (·.state.prior) <;> dsimp only <;> split <;> simp

@[simp] theorem State.takeDecline_rangeView (f : RxFrame) : (s.takeDecline f).rangeView = s.rangeView := by
  unfold State.takeDecline State.applyDecline
  split
  · simp
  · split <;> simp

@[simp] theorem State.takeHere_rangeView (f : RxFrame) : (s.takeHere f).rangeView = s.rangeView := by
  unfold State.takeHere State.applyHere
  split
  · split
    · simp
    · rfl
  · split <;> simp

@[simp] theorem State.takeCheck_rangeView (f : RxFrame) : (s.takeCheck f).rangeView = s.rangeView := by
  unfold State.takeCheck
  simp only []
  split <;> simp

theorem State.takeCheckReply_within (f : RxFrame) : (s.takeCheckReply f).rangeView.Within s.rangeView := by
  unfold State.takeCheckReply State.applyCheckReply
  split
  · exact .refl _
  · rw [post_rangeView]
    split
    · exact .of_eq (by simp)
    · exact s.depart_within _ _

@[simp] theorem State.retryCall_rangeView (i : Nat) (c : CallSlot) : (s.retryCall i c).rangeView = s.rangeView := by
  unfold State.retryCall
  simp only []
  split
  · rfl
  · exact State.offerFrame_rangeView _ _

@[simp] theorem State.retryOffer_rangeView (i : Nat) (o : OutSlot) : (s.retryOffer i o).rangeView = s.rangeView := by
  unfold State.retryOffer
  simp only []
  split
  · rfl
  · split
    · exact State.offerFrame_rangeView _ _
    · rfl

theorem State.openCall_rangeView {s t : State} {tool : ToolId} {why : Purpose} (h : s.openCall tool why = .ok t) :
    t.rangeView = s.rangeView := by
  unfold State.openCall at h
  split at h
  · cases h
  split at h
  · cases h
  split at h
  · cases h
  split at h
  · cases h
  split at h
  · cases h
  · cases h
    exact State.offerFrame_rangeView _ _

/-! ### Pockets and locks -/

theorem State.startOne_rangeView {s t : State} (h : s.startOne = some t) : t.rangeView = s.rangeView := by
  unfold State.startOne at h
  split at h
  · split at h
    · cases h
      exact State.setPocket_rangeView _ _ _
    · cases h
  · cases h

theorem startUpTo_rangeView (n : Nat) : (startUpTo n s).rangeView = s.rangeView := by
  induction n generalizing s with
  | zero => rfl
  | succ n ih =>
    unfold startUpTo
    split
    · rfl
    · next t h => exact (ih t).trans (State.startOne_rangeView h)

@[simp] theorem State.startRule_rangeView : s.startRule.rangeView = s.rangeView := startUpTo_rangeView s _

theorem State.openRequest_rangeView {s t : State} {p : Nat} {why : Opening} {station : Option Nat}
    (h : s.openRequest p why station = .ok t) : t.rangeView = s.rangeView := by
  unfold State.openRequest at h
  split at h
  · cases h
  split at h
  · cases h
  split at h
  · cases h
  split at h
  · cases h
  · cases h
    simp only [State.startRule_rangeView, setPocket_rangeView]
    rfl

@[simp] theorem State.closeRequest_rangeView (p : Nat) : (s.closeRequest p).rangeView = s.rangeView := by
  unfold State.closeRequest
  split <;> simp

@[simp] theorem State.latchFault_rangeView (p : Nat) (why : Opening) (f : LockFault) :
    (s.latchFault p why f).rangeView = s.rangeView := by simp [State.latchFault]

@[simp] theorem State.endCourse_rangeView (p : Nat) (why : Opening) (r : Report) :
    (s.endCourse p why r).rangeView = s.rangeView := by simp [State.endCourse]

@[simp] theorem State.forcedRemoval_rangeView (p : Nat) (tool : ToolId) (lock : Lock) :
    (s.forcedRemoval p tool lock).rangeView = s.rangeView := by
  unfold State.forcedRemoval
  cases lock <;> simp

@[simp] theorem State.serveReservation_rangeView (station cls : Nat) :
    (s.serveReservation station cls).rangeView = s.rangeView := by
  unfold State.serveReservation
  split
  · rfl
  · rw [post_rangeView]
    split
    · simp
    · rfl

@[simp] theorem State.completeIssue_rangeView (p : Nat) (k : Pocket) (tool : ToolId) (why : Opening) :
    (s.completeIssue p k tool why).rangeView = s.rangeView := by
  unfold State.completeIssue
  simp only [markingPass_rangeView, startRule_rangeView]
  split
  · split <;> simp
  · simp

@[simp] theorem State.heldRemoval_rangeView (p : Nat) (k : Pocket) (tool : ToolId) :
    (s.heldRemoval p k tool).rangeView = s.rangeView := by
  unfold State.heldRemoval
  split
  · simp
  · simp
  all_goals split <;> simp [State.serviceRemoval]

@[simp] theorem State.removal_rangeView (p : Nat) (k : Pocket) : (s.removal p k).rangeView = s.rangeView := by
  unfold State.removal
  cases k.occupancy <;> simp [State.setOccupancy]

@[simp] theorem State.insertion_rangeView (p : Nat) (lock : Lock) : (s.insertion p lock).rangeView = s.rangeView := by
  unfold State.insertion
  cases lock with
  | holding why d => dsimp only; split <;> simp
  | _ => simp [State.postInsert]

@[simp] theorem State.hold_rangeView (p : Nat) (why : Opening) : (s.hold p why).rangeView = s.rangeView := by
  simp only [State.hold, startRule_rangeView, report_rangeView]
  exact s.setPocket_rangeView _ _

@[simp] theorem State.supplyLow_rangeView : s.supplyLow.rangeView = s.rangeView := by
  simp only [State.supplyLow, markingPass_rangeView, endOperation_rangeView, post_rangeView]
  rfl

@[simp] theorem State.clearFault_rangeView (p : Nat) (k : Pocket) : (s.clearFault p k).rangeView = s.rangeView := by
  simp [State.clearFault]

/-! ### Panels -/

@[simp] theorem State.closeWindow_rangeView (i : PanelId) (c : CloseCause) :
    (s.closeWindow i c).rangeView = s.rangeView := by
  unfold State.closeWindow State.postClosed
  split <;> simp

@[simp] theorem State.openWindow_rangeView (i : PanelId) (e : CodeEntry) (n : Nat) :
    (s.openWindow i e n).rangeView = s.rangeView := by simp [State.openWindow]

@[simp] theorem State.mismatch_rangeView (i : PanelId) : (s.mismatch i).rangeView = s.rangeView := by
  unfold State.mismatch
  simp only []
  split <;> simp

@[simp] theorem State.startOperation_rangeView (i : PanelId) (kind : OpKind) (l : List Nat) :
    (s.startOperation i kind l).rangeView = s.rangeView := by simp [State.startOperation]

@[simp] theorem openEach_rangeView (i : PanelId) (list : List Byte) :
    (openEach s i list).1.rangeView = s.rangeView := by
  induction list generalizing s with
  | nil => rfl
  | cons b rest ih =>
    unfold openEach
    split
    · exact ih s
    · next t h => exact (ih t).trans (State.openRequest_rangeView h)

/-! ### The line and the demand sequencer -/

@[simp] theorem State.cyclePoint_rangeView : s.cyclePoint.rangeView = s.rangeView := by
  unfold State.cyclePoint
  split <;> simp

@[simp] theorem State.stopCycles_rangeView : s.stopCycles.rangeView = s.rangeView := by
  simp only [State.stopCycles, offerFrame_rangeView]
  rfl

@[simp] theorem State.notQueued_rangeView (f : TxFrame) : (s.notQueued f).rangeView = s.rangeView := by
  unfold State.notQueued
  split
  · split
    · split <;> simp
    · split <;> simp
    · rfl
  · rfl

@[simp] theorem State.abortAttempt_rangeView (f : TxFrame) : (s.abortAttempt f).rangeView = s.rangeView := by
  unfold State.abortAttempt
  split
  · rfl
  · split
    · rfl
    · simp only [notQueued_rangeView, postDiscarded_rangeView]
      rfl

@[simp] theorem State.reportSent_rangeView (f : TxFrame) : (s.reportSent f).rangeView = s.rangeView := by
  unfold State.reportSent State.demandSent
  split
  · split
    · rfl
    · simp only []
      split
      · exact State.post_rangeView _ _ _ _
      · rfl
  · rfl

theorem State.takeValid_within (f : WireFrame) : (s.takeValid f).rangeView.Within s.rangeView := by
  unfold State.takeValid
  split
  · exact .refl _
  split
  · unfold State.duplicateStation
    split
    · exact .refl _
    · exact (State.enterListenOnly_within _).trans (.of_eq (State.post_rangeView _ _ _ _))
  split
  · exact .refl _
  · unfold State.queueReceived
    split <;> exact .of_eq rfl

/-! ### Slots and charges -/

@[simp] theorem State.loadHere_rangeView (n : Nat) (tool : ToolId) (i : Image) :
    (s.loadHere n tool i).rangeView = s.rangeView := by
  unfold State.loadHere
  split <;> simp

@[simp] theorem State.unloadSlot_rangeView (n : Nat) (m : MagSlot) : (s.unloadSlot n m).rangeView = s.rangeView := by
  unfold State.unloadSlot
  cases m <;> simp

@[simp] theorem State.postIf_rangeView (c : Bool) (k : NoticeKind) (o a : BitVec 32) :
    (s.postIf c k o a).rangeView = s.rangeView := by
  unfold State.postIf
  split <;> simp

@[simp] theorem State.postCharge_rangeView (tool : ToolId) (n : Nat) (i j : Image) (e : Nat) :
    (s.postCharge tool n i j e).rangeView = s.rangeView := by
  simp only [State.postCharge, postIf_rangeView]
  split <;> simp

/-! ### Records and runs -/

@[simp] theorem State.loseFitness_rangeView (r : ToolRecord) : (s.loseFitness r).rangeView = s.rangeView := by
  unfold State.loseFitness
  split <;> simp

@[simp] theorem State.vacate_rangeView (r : ToolRecord) : (s.vacate r).rangeView = s.rangeView := by
  unfold State.vacate
  split <;> simp

@[simp] theorem State.reseatRun_rangeView (r : Run) : (s.reseatRun r).rangeView = s.rangeView := by
  unfold State.reseatRun
  split <;> simp

@[simp] theorem State.postOutcome_rangeView (r : Run) (o : RunOutcome) :
    (s.postOutcome r o).rangeView = s.rangeView := by
  unfold State.postOutcome
  split <;> simp

theorem State.scaleError_within (scale : Scale) : (s.scaleError scale).rangeView.Within s.rangeView := by
  unfold State.scaleError
  simp only []
  split
  · split
    · exact .of_eq (State.post_rangeView _ _ _ _)
    · exact .of_eq rfl
  · simp only [postOutcome_rangeView, post_rangeView, reseatRun_rangeView]
    exact State.idleRun_within _

@[simp] theorem State.liftOff_rangeView (r : Option ToolRecord) : (s.liftOff r).rangeView = s.rangeView := by
  unfold State.liftOff
  split <;> simp

theorem State.unseat_within : s.unseat.rangeView.Within s.rangeView := by
  have lifted : ∀ u : State, u.unseatRun.rangeView.Within u.rangeView := fun u => by
    unfold State.unseatRun
    split
    · exact .refl _
    · rw [postOutcome_rangeView]
      exact u.idleRun_within
  unfold State.unseat
  simp only [withdrawCall_rangeView]
  refine (lifted _).trans (.of_eq ?_)
  simp only [post_rangeView, liftOff_rangeView]
  rfl

theorem State.displaceRun_within (place : Place) : (s.displaceRun place).rangeView.Within s.rangeView := by
  unfold State.displaceRun
  split
  · split
    · exact s.endRun_within _
    · exact .refl _
  · exact .refl _

/-! ### REJOIN -/

theorem State.restartCustody_rangeView : s.restartCustody.rangeView = s.rangeView := by
  have calls : ∀ u : State, u.abandonCalls.rangeView = u.rangeView := fun u =>
    foldl_rangeView u _ (fun _ _ => by simp) _
  have unchecked : ∀ u : State,
      ({ u with records := u.records.map (fun r => { r with state := r.state.uncheck }) } : State).rangeView
        = u.rangeView := fun u => by
    simp [State.rangeView, State.configured, Function.comp_def]
  simp only [State.restartCustody, unchecked, calls, lapseAll_rangeView]

theorem State.restartDemand_rangeView : s.restartDemand.rangeView = s.rangeView := rfl

theorem State.rejoin_within : s.rejoin.rangeView.Within s.rangeView := by
  unfold State.rejoin
  rw [restartDemand_rangeView, restartCustody_rangeView]
  exact ⟨List.Subset.refl _, .inr ⟨rfl, rfl, fun _ => rfl⟩⟩

end

end Sys2Proof.Machine
end

section
/-! SUPPORT. What each command and event leaves of the view of the range and run laws. -/

namespace Sys2Proof.Machine

/-! ### Outcomes -/

/-- A predicate of the next state that an outcome answers. -/
def Yields (P : State → Prop) : StepOutcome → Prop
  | .next t => P t
  | _ => True

/-- A predicate of the next state that a host command's own rule gives. -/
def Answers (P : State → Prop) : CommandResult → Prop
  | .ok (t, _) => P t
  | .error _ => True

/-- A next state in which no image is new and the run goes on or has ended. -/
def Stays (s t : State) : Prop := t.rangeView.Within s.rangeView

theorem Stays.refl (s : State) : Stays s s := RangeView.Within.refl _

theorem Stays.of_eq {s t : State} (h : t.rangeView = s.rangeView) : Stays s t := RangeView.Within.of_eq h

/-- A refusal keeps everything. -/
theorem Answers.unless {P : State → Prop} {c : Prop} [Decidable c] {r : HostResult} {x : CommandResult}
    (h : ¬ c → Answers P x) : Answers P (if c then .error r else x) := by
  split
  · exact trivial
  · next hc => exact h hc

/-- An event that may find nothing to do. -/
theorem Yields.onlyIf {s t : State} {c : Prop} [Decidable c] (h : Stays s t) :
    Yields (Stays s) (if c then .next t else .next s) := by
  split
  · exact h
  · exact Stays.refl s

theorem Yields.next {P : State → Prop} {o : StepOutcome} (h : Yields P o) {t : State} (ho : o = .next t) : P t := by
  subst ho; exact h

/-- A host command keeps what its own rule keeps, where the port's slots do not matter (R176, R177). -/
theorem yields_hostCommand {P : State → Prop} {c : Instr} {body : State → CommandResult} {s : State} (same : P s)
    (port : ∀ (u : State) (q : Port), P u → q.nodeState = u.port.nodeState → P { u with port := q })
    (ok : Answers P (body s)) : Yields P (hostCommand c body s) := by
  cases h : hostCommand c body s with
  | next t => exact hostCommand_elim P h same port fun u p hb => by rw [hb] at ok; exact ok
  | _ => exact trivial

theorem rangeView_port {u : State} {q : Port} (h : q.nodeState = u.port.nodeState) :
    ({ u with port := q } : State).rangeView = u.rangeView := by
  simp [State.rangeView, State.configured, h]

theorem stays_hostCommand {c : Instr} {body : State → CommandResult} {s : State} (ok : Answers (Stays s) (body s)) :
    Yields (Stays s) (hostCommand c body s) :=
  yields_hostCommand (.refl s) (fun _ _ h hq => (RangeView.Within.of_eq (rangeView_port hq)).trans h) ok

/-- A delivery keeps what holds as it stands and what the consumer keeps on a frame whose fields are in range (R39). -/
theorem yields_deliver {P : State → Prop} {kind : FrameKind} {act : State → RxFrame → State} {s : State} (same : P s)
    (heard : ∀ u : State, u.rangeView = s.rangeView → P u)
    (taken : ∀ (u : State) (f : RxFrame), u.rangeView = s.rangeView → f.fieldsOk kind = true → P (act u f)) :
    Yields P (deliver kind act s) := by
  unfold deliver
  split
  · exact same
  · next f rest _ =>
    split
    · dsimp only
      have view : (({ s with line.rxQueue := rest } : State).rosterTakes f kind
          (!s.addressed f || f.fieldsOk kind)).rangeView = s.rangeView := State.rosterTakes_rangeView _ _ _ _
      cases hm : s.addressed f <;> cases hf : f.fieldsOk kind <;> simp only [hm, hf] at view
      · exact heard _ view
      · exact heard _ view
      · exact heard _ view
      · exact taken _ f view hf
    · exact same

theorem stays_deliver {kind : FrameKind} {act : State → RxFrame → State} {s : State}
    (taken : ∀ (u : State) (f : RxFrame), Stays u (act u f)) : Yields (Stays s) (deliver kind act s) :=
  yields_deliver (.refl s) (fun _ hu => .of_eq hu) fun u f hu _ => (taken u f).trans (.of_eq hu)

section
variable (s : State)

/-! ### Local port -/

theorem execReset_stays : Yields (Stays s) (execReset s) := ⟨List.nil_subset _, .inl rfl⟩

theorem execResetEnds_stays (straps : BitVec 6) : Yields (Stays s) (execResetEnds straps s) :=
  .onlyIf (.of_eq rfl)

theorem execReadTransaction_stays (n : Nat) : Yields (Stays s) (execReadTransaction n s) := by
  unfold execReadTransaction
  split
  · exact Stays.refl s
  · split <;> exact Stays.of_eq rfl

theorem execCommandCollision_stays : Yields (Stays s) (execCommandCollision s) := .onlyIf (.of_eq rfl)

theorem execUnknownCommand_stays (code : Byte) (payload : List Byte) :
    Yields (Stays s) (execUnknownCommand code payload s) := stays_hostCommand trivial

theorem execReadStatus_stays : Yields (Stays s) (execReadStatus s) := stays_hostCommand (Stays.of_eq rfl)

theorem execReadNotice_stays : Yields (Stays s) (execReadNotice s) := by
  refine stays_hostCommand ?_
  unfold readNoticeBody
  split <;> exact Stays.of_eq rfl

theorem execConfigure_stays (payload : List Byte) : Yields (Stays s) (execConfigure payload s) :=
  stays_hostCommand (.unless fun _ => .unless fun _ => .unless fun _ =>
    ⟨List.Subset.refl _, .inr ⟨rfl, rfl, fun _ => rfl⟩⟩)

theorem execJoin_stays : Yields (Stays s) (execJoin s) :=
  stays_hostCommand (.unless fun _ => .unless fun _ => ⟨List.Subset.refl _, .inr ⟨rfl, rfl, fun _ => rfl⟩⟩)

theorem execRejoin_stays : Yields (Stays s) (execRejoin s) :=
  stays_hostCommand (.unless fun _ => .unless fun _ => s.rejoin_within)

/-! ### Roster -/

theorem execReadPeer_stays (b : Byte) : Yields (Stays s) (execReadPeer b s) := by
  refine stays_hostCommand (.unless fun _ => .unless fun _ => ?_)
  split
  · exact trivial
  · exact Stays.refl s

theorem execPardon_stays (b : Byte) : Yields (Stays s) (execPardon b s) :=
  stays_hostCommand (.unless fun _ => .unless fun _ => .of_eq (s.setPeer_rangeView _ _))

theorem execNodeOnline_stays : Yields (Stays s) (execNodeOnline s) := by
  have online : Stays s { s with port := { s.port with nodeState := .online, listenDeadline := none } } :=
    ⟨List.Subset.refl _, .inr ⟨rfl, rfl, fun _ => rfl⟩⟩
  exact .onlyIf (RangeView.Within.trans (.of_eq (by simp)) online)

theorem execBeaconExpiry_stays : Yields (Stays s) (execBeaconExpiry s) := .onlyIf (.of_eq (by simp))

theorem execPeerAbsent_stays (n : Nat) : Yields (Stays s) (execPeerAbsent n s) := by
  unfold execPeerAbsent
  split
  · exact Stays.refl s
  · exact .onlyIf (.of_eq (by simp))

theorem execMalformedFrame_stays : Yields (Stays s) (execMalformedFrame s) := by
  unfold execMalformedFrame
  split
  · exact Stays.refl s
  · refine .onlyIf (.of_eq ?_)
    rw [State.strike_rangeView, State.hear_rangeView]
    rfl

theorem execPresence_stays : Yields (Stays s) (execPresence s) := stays_deliver fun _ _ => .of_eq (by simp)

/-! ### Custody -/

theorem execCall_stays : Yields (Stays s) (execCall s) := stays_deliver fun _ _ => .of_eq (by simp)

theorem execAccept_stays : Yields (Stays s) (execAccept s) := stays_deliver fun u _ => u.applyAccept_within _ _ _

theorem execDecline_stays : Yields (Stays s) (execDecline s) := stays_deliver fun _ _ => .of_eq (by simp)

theorem execHere_stays : Yields (Stays s) (execHere s) := stays_deliver fun _ _ => .of_eq (by simp)

theorem execCheck_stays : Yields (Stays s) (execCheck s) := stays_deliver fun _ _ => .of_eq (by simp)

theorem execCheckReply_stays : Yields (Stays s) (execCheckReply s) :=
  stays_deliver fun u f => u.takeCheckReply_within f

theorem execCallWaitExpiry_stays (slot : Nat) : Yields (Stays s) (execCallWaitExpiry slot s) := by
  unfold execCallWaitExpiry
  split
  · exact Stays.refl s
  split
  · exact Stays.refl s
  split
  · exact Stays.refl s
  · split <;> exact Stays.of_eq (by simp)

theorem execOfferWaitExpiry_stays (slot : Nat) : Yields (Stays s) (execOfferWaitExpiry slot s) := by
  unfold execOfferWaitExpiry
  split
  · exact Stays.refl s
  split
  · exact Stays.refl s
  split
  · exact Stays.refl s
  · split <;> exact Stays.of_eq (by simp)

theorem execCheckWaitExpiry_stays (tool : ToolId) : Yields (Stays s) (execCheckWaitExpiry tool s) := by
  unfold execCheckWaitExpiry
  split
  · exact Stays.refl s
  split
  · exact .onlyIf (.of_eq (by simp))
  · exact Stays.refl s

/-! ### Record commands without a new image -/

theorem execDrop_stays (tool : ToolId) : Yields (Stays s) (execDrop tool s) := by
  refine stays_hostCommand (.unless fun _ => .unless fun _ => ?_)
  split
  · exact trivial
  · next r _ =>
    refine .unless fun _ => ?_
    have departed := State.depart_within (s.vacate r) tool 0
    rw [State.vacate_rangeView, ← State.markingPass_rangeView] at departed
    exact departed

theorem execResolve_stays (tool : ToolId) (choice : Byte) : Yields (Stays s) (execResolve tool choice s) := by
  refine stays_hostCommand (.unless fun _ => .unless fun _ => ?_)
  split
  · exact trivial
  split
  · split
    · exact Stays.of_eq (by simp)
    · exact s.depart_within tool 0
  · exact trivial

theorem execReadRecord_stays (tool : ToolId) : Yields (Stays s) (execReadRecord tool s) := by
  refine stays_hostCommand (.unless fun _ => .unless fun _ => ?_)
  split
  · exact trivial
  · exact Stays.refl s

theorem execListRecords_stays (start : Byte) : Yields (Stays s) (execListRecords start s) :=
  stays_hostCommand (.unless fun _ => .refl s)

/-! ### Calls that a command opens -/

theorem callCommand_stays (tool : ToolId) (why : Purpose) : Answers (Stays s) (callCommand s tool why) := by
  unfold callCommand
  split
  · exact trivial
  · next t h => exact Stays.of_eq (State.openCall_rangeView h)

/-! ### Pocket bank -/

theorem execPocketRemoval_stays (p : Nat) : Yields (Stays s) (execPocketRemoval p s) := by
  unfold execPocketRemoval
  split
  · exact Stays.refl s
  · exact .onlyIf (.of_eq (by simp [State.setReading]))

theorem execPocketFirstReading_stays (p : Nat) (high : Bool) :
    Yields (Stays s) (execPocketFirstReading p high s) := by
  unfold execPocketFirstReading
  split
  · exact Stays.refl s
  split
  · exact Stays.refl s
  dsimp only
  split
  · exact Stays.of_eq (by simp [State.setReading])
  · split <;> exact Stays.of_eq (by simp [State.setReading, State.setOccupancy])

theorem execPocketInsertion_stays (p : Nat) : Yields (Stays s) (execPocketInsertion p s) := by
  unfold execPocketInsertion
  split
  · exact Stays.refl s
  · exact .onlyIf (.of_eq (by simp [State.setReading, State.setOccupancy]))

theorem execCurrentSeen_stays (p : Nat) : Yields (Stays s) (execCurrentSeen p s) := by
  unfold execCurrentSeen
  split
  · exact Stays.refl s
  split
  · exact Stays.of_eq (by simp)
  · exact Stays.refl s

theorem execPullInExpiry_stays (p : Nat) : Yields (Stays s) (execPullInExpiry p s) := by
  unfold execPullInExpiry
  split
  · split
    · split
      · exact Stays.refl s
      · split <;> exact Stays.of_eq (by simp)
    · exact Stays.refl s
  · exact Stays.refl s

theorem execShortCurrent_stays (p : Nat) : Yields (Stays s) (execShortCurrent p s) := by
  unfold execShortCurrent
  split
  · exact Stays.refl s
  split
  · exact Stays.of_eq (by simp)
  · exact Stays.of_eq (by simp)
  · exact Stays.refl s

theorem execHoldExpiry_stays (p : Nat) : Yields (Stays s) (execHoldExpiry p s) := by
  unfold execHoldExpiry
  split
  · exact Stays.refl s
  split
  · exact .onlyIf (.of_eq (by simp))
  · exact Stays.refl s

theorem execSupplyLow_stays : Yields (Stays s) (execSupplyLow s) := .onlyIf (.of_eq (by simp))

theorem execSupplyNormal_stays : Yields (Stays s) (execSupplyNormal s) :=
  .onlyIf (.of_eq (State.post_rangeView _ _ _ _))

theorem execClearPocketFault_stays (b : Byte) : Yields (Stays s) (execClearPocketFault b s) := by
  refine stays_hostCommand (.unless fun _ => ?_)
  split
  · exact trivial
  · refine .unless fun _ => ?_
    split
    · exact Stays.refl s
    · exact Stays.of_eq (by simp)

theorem execReadPocket_stays (b : Byte) : Yields (Stays s) (execReadPocket b s) := by
  refine stays_hostCommand (.unless fun _ => ?_)
  split
  · exact trivial
  · exact Stays.refl s

theorem execIdentifyPocket_stays (b : Byte) (tool : ToolId) : Yields (Stays s) (execIdentifyPocket b tool s) := by
  refine stays_hostCommand (.unless fun _ => ?_)
  split
  · exact trivial
  refine .unless fun _ => .unless fun _ => ?_
  split
  · exact callCommand_stays s _ _
  split
  · exact .unless fun _ => .of_eq (by simp)
  · exact .unless fun _ => .of_eq (by simp)
  all_goals exact trivial

/-! ### Panels -/

theorem execDigitKey_stays (i : PanelId) (d : Nat) : Yields (Stays s) (execDigitKey i d s) :=
  .onlyIf (.of_eq (by simp))

theorem execEnter_stays (i : PanelId) : Yields (Stays s) (execEnter i s) := by
  unfold execEnter
  split
  · dsimp only
    split
    · exact Stays.of_eq (by simp)
    · split <;> exact Stays.of_eq (by simp)
  · exact Stays.refl s

theorem execClear_stays (i : PanelId) : Yields (Stays s) (execClear i s) := .onlyIf (.of_eq (by simp))

theorem execInterKeyExpiry_stays (i : PanelId) : Yields (Stays s) (execInterKeyExpiry i s) :=
  .onlyIf (.of_eq (by simp))

theorem execLockoutExpiry_stays (i : PanelId) : Yields (Stays s) (execLockoutExpiry i s) :=
  .onlyIf (.of_eq (by simp))

theorem execWindowExpiry_stays (i : PanelId) : Yields (Stays s) (execWindowExpiry i s) :=
  .onlyIf (.of_eq (by simp))

theorem execIssue_stays (b : Byte) (cls : BitVec 16) (n : Byte) : Yields (Stays s) (execIssue b cls n s) := by
  refine stays_hostCommand ?_
  unfold issueBody
  dsimp only
  split
  · exact trivial
  split
  · exact trivial
  split
  · exact trivial
  · next t h => exact Stays.of_eq ((State.startOperation_rangeView _ _ _ _).trans (State.openRequest_rangeView h))

theorem execReturn_stays (b : Byte) (p : Option Byte) : Yields (Stays s) (execReturn b p s) := by
  refine stays_hostCommand ?_
  unfold returnBody
  split
  · exact trivial
  split
  · exact trivial
  split
  · exact trivial
  · next t h =>
    refine Stays.of_eq ?_
    rw [State.markingPass_rangeView, State.startOperation_rangeView, State.openRequest_rangeView h]

theorem execServiceOpen_stays (b : Byte) (list : List Byte) : Yields (Stays s) (execServiceOpen b list s) := by
  refine stays_hostCommand (.unless fun _ => ?_)
  split
  · exact trivial
  · next i _ =>
    have opened := openEach_rangeView s i list
    split
    · exact trivial
    · next t pockets answer _ e =>
      rw [e] at opened
      refine Stays.of_eq ?_
      rw [State.markingPass_rangeView, State.startOperation_rangeView, ← opened]

theorem execCancel_stays (b : Byte) : Yields (Stays s) (execCancel b s) := by
  refine stays_hostCommand (.unless fun _ => ?_)
  split
  · exact trivial
  refine .unless fun _ => ?_
  split
  · exact trivial
  · refine Stays.of_eq ?_
    rw [State.markingPass_rangeView, State.endOperation_rangeView]
    exact foldl_rangeView s _ (fun u p => u.closeRequest_rangeView p) _

theorem execReadPanel_stays (b : Byte) : Yields (Stays s) (execReadPanel b s) := by
  refine stays_hostCommand (.unless fun _ => ?_)
  split
  · exact trivial
  · exact .unless fun _ => .refl s

/-! ### Demand and reservations -/

theorem execSetDemand_stays (entries : List (BitVec 16 × Byte)) : Yields (Stays s) (execSetDemand entries s) :=
  stays_hostCommand (.unless fun _ => .unless fun _ => .unless fun _ => .of_eq (State.refreshDemand_rangeView _ _))

theorem execStartDemand_stays (m i t h : Byte) : Yields (Stays s) (execStartDemand m i t h s) := by
  refine stays_hostCommand (.unless fun _ => ?_)
  split
  · exact trivial
  · exact .unless fun _ => .unless fun _ => .unless fun _ => .of_eq (State.cyclePoint_rangeView _)

theorem execStopDemand_stays : Yields (Stays s) (execStopDemand s) :=
  stays_hostCommand (.unless fun _ => .unless fun _ => .unless fun _ => .of_eq (by simp))

theorem execReadDemand_stays : Yields (Stays s) (execReadDemand s) :=
  stays_hostCommand (.unless fun _ => .unless fun _ => .refl s)

theorem execReadReservations_stays : Yields (Stays s) (execReadReservations s) :=
  stays_hostCommand (.unless fun _ => .refl s)

theorem execDemand_stays : Yields (Stays s) (execDemand s) := stays_deliver fun _ _ => .of_eq (by simp)

theorem execCycleExpiry_stays : Yields (Stays s) (execCycleExpiry s) :=
  .onlyIf (.of_eq (State.cyclePoint_rangeView _))

theorem execTriggerEdge_stays (high : Bool) : Yields (Stays s) (execTriggerEdge high s) :=
  .onlyIf (.of_eq (State.cyclePoint_rangeView _))

theorem execReservationExpiry_stays (n cls : Nat) : Yields (Stays s) (execReservationExpiry n cls s) := by
  unfold execReservationExpiry
  split
  · exact Stays.refl s
  · exact .onlyIf (.of_eq (by simp))

/-! ### Hall line -/

theorem execLineIdle_stays : Yields (Stays s) (execLineIdle s) := .onlyIf (.of_eq (State.startAttempt_rangeView _))

theorem execDominantEdge_stays : Yields (Stays s) (execDominantEdge s) := .onlyIf (.of_eq rfl)

theorem execArbitrationLost_stays : Yields (Stays s) (execArbitrationLost s) := .onlyIf (.of_eq rfl)

theorem execBitError_stays (mark : Bool) : Yields (Stays s) (execBitError mark s) := by
  unfold execBitError
  split
  · exact Stays.refl s
  · exact Stays.of_eq (State.abortAttempt_rangeView _ _)

theorem execFrameSent_stays : Yields (Stays s) (execFrameSent s) := by
  unfold execFrameSent
  split
  · exact Stays.refl s
  · refine Stays.of_eq ?_
    rw [State.notQueued_rangeView, State.reportSent_rangeView]
    rfl

theorem execStartMarkRead_stays (w : Nat) : Yields (Stays s) (execStartMarkRead w s) := .onlyIf (.of_eq rfl)

theorem execFramingError_stays (c : FramingCause) : Yields (Stays s) (execFramingError c s) := .onlyIf (.of_eq rfl)

theorem execFrameReceived_stays (f : WireFrame) : Yields (Stays s) (execFrameReceived f s) := by
  refine .onlyIf ?_
  split
  · exact State.takeValid_within _ f
  · exact .of_eq rfl

theorem execLineHeld_stays (ns : Nat) (asserting : Bool) : Yields (Stays s) (execLineHeld ns asserting s) := by
  refine .onlyIf ?_
  split
  · refine (State.enterListenOnly_within _).trans (.of_eq ?_)
    rw [State.post_rangeView]
    exact State.post_rangeView _ _ _ _
  · exact .of_eq (State.post_rangeView _ _ _ _)

theorem execLineReleased_stays (ns : Nat) : Yields (Stays s) (execLineReleased ns s) := by
  refine .onlyIf ?_
  split
  · refine .of_eq ?_
    rw [State.startAttempt_rangeView, State.offerPresence_rangeView]
    exact State.post_rangeView _ _ _ _
  · exact .of_eq (State.post_rangeView _ _ _ _)

/-! ### Magazine -/

theorem execLoad_stays (b : Byte) (tool : ToolId) : Yields (Stays s) (execLoad b tool s) := by
  refine stays_hostCommand (.unless fun _ => ?_)
  split
  · exact trivial
  refine .unless fun _ => .unless fun _ => .unless fun _ => ?_
  split
  · split
    · exact trivial
    · next t h => exact Stays.of_eq ((State.setSlot_rangeView _ _ _).trans (State.openCall_rangeView h))
  split
  · exact Stays.of_eq (by simp)
  all_goals exact trivial

theorem execUnload_stays (b : Byte) : Yields (Stays s) (execUnload b s) := by
  refine stays_hostCommand (.unless fun _ => ?_)
  split
  · exact trivial
  · exact Stays.of_eq (by simp)

theorem execReadSlot_stays (b : Byte) : Yields (Stays s) (execReadSlot b s) := by
  refine stays_hostCommand (.unless fun _ => ?_)
  split
  · exact trivial
  · exact Stays.refl s

/-! ### Measuring head without a new run or block -/

theorem execScaleStep_stays (scale : Scale) (up : Bool) : Yields (Stays s) (execScaleStep scale up s) := by
  unfold execScaleStep
  split
  · exact Stays.refl s
  · cases scale <;> exact Stays.of_eq rfl

theorem execScaleError_stays (scale : Scale) : Yields (Stays s) (execScaleError scale s) :=
  .onlyIf (s.scaleError_within scale)

theorem execCaptureTimeout_stays : Yields (Stays s) (execCaptureTimeout s) := .onlyIf (s.endRun_within _)

theorem execSeatFirstReading_stays (high : Bool) : Yields (Stays s) (execSeatFirstReading high s) :=
  .onlyIf (.of_eq rfl)

theorem execHeadSeated_stays : Yields (Stays s) (execHeadSeated s) := .onlyIf (.of_eq (State.post_rangeView _ _ _ _))

theorem execHeadUnseated_stays : Yields (Stays s) (execHeadUnseated s) := .onlyIf s.unseat_within

theorem execIdentifyHead_stays (tool : ToolId) : Yields (Stays s) (execIdentifyHead tool s) := by
  refine stays_hostCommand (.unless fun _ => .unless fun _ => .unless fun _ => ?_)
  split
  · exact callCommand_stays s _ _
  split
  · exact .unless fun _ => .of_eq (by simp)
  · exact .unless fun _ => .of_eq (by simp)
  all_goals exact trivial

theorem execAbortMeasure_stays : Yields (Stays s) (execAbortMeasure s) :=
  stays_hostCommand (.unless fun _ => .unless fun _ => .unless fun _ => s.endRun_within _)

theorem execReadHead_stays : Yields (Stays s) (execReadHead s) :=
  stays_hostCommand (.unless fun _ => .unless fun _ => .refl s)

end

end Sys2Proof.Machine
end

section
/-! SUPPORT. The commands that bring a new image or a new run, and the two laws over every command. -/

namespace Sys2Proof.Machine

/-- The run part of the view goes on. -/
def RunStays (s t : State) : Prop := t.rangeView.RunWithin s.rangeView

theorem RunStays.of_images {s t : State} {l : List Image} (h : t.rangeView = { s.rangeView with images := l }) :
    RunStays s t := by
  unfold RunStays
  rw [h]
  exact .inr ⟨rfl, rfl, id⟩

theorem rangeLaw_hostCommand {c : Instr} {body : State → CommandResult} {s : State} (h : s.RangeLaw)
    (ok : Answers State.RangeLaw (body s)) : Yields State.RangeLaw (hostCommand c body s) :=
  yields_hostCommand h (fun _ _ hu _ => hu) ok

theorem runStays_hostCommand {c : Instr} {body : State → CommandResult} {s : State}
    (ok : Answers (RunStays s) (body s)) : Yields (RunStays s) (hostCommand c body s) :=
  yields_hostCommand (RangeView.Within.refl _).run
    (fun _ _ hu hq => RangeView.RunWithin.trans (RangeView.Within.of_eq (rangeView_port hq)).run hu) ok

section
variable (s : State)

/-! ### New records -/

theorem State.arrive_rangeView (r : ToolRecord) (n : Nat) :
    (s.arrive r n).rangeView = { s.rangeView with images := s.rangeView.images ++ [r.image] } := by
  unfold State.arrive
  rw [post_rangeView]
  simp [State.rangeView, State.addRecord, State.configured]

theorem State.putAt_rangeView (i : Image) (place : Place) :
    (s.putAt i place).rangeView = { s.rangeView with images := s.rangeView.images ++ [i] } := by
  cases place <;> simp [State.putAt, State.arrive_rangeView]

theorem State.restoreAt_rangeView (i : Image) (st : RecordState) (place : Place) :
    (s.restoreAt i st place).rangeView = { s.rangeView with images := s.rangeView.images ++ [i] } := by
  cases place with
  | nowhere => exact s.arrive_rangeView _ _
  | _ => exact s.putAt_rangeView i _

theorem State.takeRecord_rangeView (i : Nat) (c : CallSlot) (n : Nat) (h : Byte) (image : Image) :
    (s.takeRecord i c n h image).rangeView = { s.rangeView with images := s.rangeView.images ++ [image] } := by
  have effects : ∀ u : State, (u.arrivalEffects c.purpose image).rangeView = u.rangeView := fun u => by
    unfold State.arrivalEffects
    split
    · simp
    · unfold State.lowerDemand
      split
      · rfl
      · simp only [post_rangeView, refreshDemand_rangeView]
        rfl
    · rfl
  have filled : ∀ u : State, (u.fillPlace c.purpose image.toolId).rangeView = u.rangeView := fun u => by
    unfold State.fillPlace
    split <;> simp
  have accepted : ∀ (u : State) (a : Accepted), (u.appendAccepted a).rangeView = u.rangeView := fun _ _ => rfl
  simp only [State.takeRecord, effects, closeCall_rangeView, post_rangeView, reply_rangeView, accepted, filled]
  simp [State.rangeView, State.addRecord, State.configured]

/-- A taken OFFER leaves the view, or adds its image (R73). -/
theorem State.decideOffer_rangeView (n : Nat) (h : Byte) (image : Image) :
    (s.decideOffer n h image).rangeView = s.rangeView
    ∨ (s.decideOffer n h image).rangeView = { s.rangeView with images := s.rangeView.images ++ [image] } := by
  unfold State.decideOffer
  dsimp only
  split
  · exact .inl (by simp)
  split
  · exact .inl (by split <;> simp)
  split
  · split
    · exact .inl rfl
    · split
      · exact .inl (by simp)
      · exact .inr (s.takeRecord_rangeView _ _ _ _ _)
  · exact .inl (by split <;> simp)

theorem State.takeOffer_rangeView (f : RxFrame) :
    (s.takeOffer f).rangeView = s.rangeView
    ∨ (s.takeOffer f).rangeView = { s.rangeView with images :=
      s.rangeView.images ++ [(parseImage (f.payload.drop 1)).lineIntake] } := by
  unfold State.takeOffer
  split
  · exact .inl rfl
  · exact s.decideOffer_rangeView _ _ _

end

/-- A held record more, in range. -/
theorem State.RangeLaw.add {s t : State} (h : s.RangeLaw) {i : Image} (hi : i.InRange)
    (e : t.rangeView.images = s.rangeView.images ++ [i]) : t.RangeLaw :=
  State.rangeLaw_iff.mpr fun j hj => by
    rw [e] at hj
    rcases List.mem_append.mp hj with old | new
    · exact State.rangeLaw_iff.mp h j old
    · exact List.mem_singleton.mp new ▸ hi

theorem createBody_answers {P : State → Prop} {s : State} {kind number : Byte} {bytes : List Byte}
    (created : ∀ place, ({ base := parseBase bytes, block := none } : RawImage).badIdentifier = false →
      P ((s.putAt ({ base := parseBase bytes, block := none } : RawImage).hostIntake place).displaceRun place)) :
    Answers P (createBody kind number bytes s) := by
  refine .unless fun _ => .unless fun _ => .unless fun hid => ?_
  split
  · exact trivial
  · exact .unless fun _ => .unless fun _ => .unless fun _ => .unless fun _ => created _ (eq_false_of_ne_true hid)

theorem execCreate_rangeLaw {s : State} (h : s.RangeLaw) (kind number : Byte) (bytes : List Byte) :
    Yields State.RangeLaw (execCreate kind number bytes s) :=
  rangeLaw_hostCommand h <| createBody_answers fun place hid =>
    State.RangeLaw.of_within
      (h.add (RawImage.hostIntake_inRange (RawImage.sized_of_base bytes none fun _ hm => nomatch hm) hid)
        (congrArg RangeView.images (s.putAt_rangeView _ place)))
      (State.displaceRun_within _ place)

theorem execCreate_runStays (s : State) (kind number : Byte) (bytes : List Byte) :
    Yields (RunStays s) (execCreate kind number bytes s) :=
  runStays_hostCommand <| createBody_answers fun place _ =>
    RangeView.RunWithin.trans (State.displaceRun_within _ place).run (RunStays.of_images (s.putAt_rangeView _ place))

theorem restoreBody_answers {P : State → Prop} {s : State} {state kind number prior counterpart handoff : Byte}
    {bytes : List Byte} (restored : ∀ st place, (parseImage bytes).badIdentifier = false →
      P (s.restoreAt (parseImage bytes).hostIntake st place)) :
    Answers P (restoreBody state kind number prior counterpart handoff bytes s) := by
  refine .unless fun _ => .unless fun _ => .unless fun _ => .unless fun hid => ?_
  split
  · exact trivial
  · exact .unless fun _ => .unless fun _ => .unless fun _ => restored _ _ (eq_false_of_ne_true hid)

theorem execRestore_rangeLaw {s : State} (h : s.RangeLaw) (state kind number prior counterpart handoff : Byte)
    (bytes : List Byte) :
    Yields State.RangeLaw (execRestore state kind number prior counterpart handoff bytes s) :=
  rangeLaw_hostCommand h <| restoreBody_answers fun st place hid =>
    h.add (RawImage.hostIntake_inRange (parseImage_sized bytes) hid)
      (congrArg RangeView.images (s.restoreAt_rangeView _ st place))

theorem execRestore_runStays (s : State) (state kind number prior counterpart handoff : Byte) (bytes : List Byte) :
    Yields (RunStays s) (execRestore state kind number prior counterpart handoff bytes s) :=
  runStays_hostCommand <| restoreBody_answers fun st place _ => RunStays.of_images (s.restoreAt_rangeView _ st place)

theorem execOffer_rangeLaw {s : State} (h : s.RangeLaw) : Yields State.RangeLaw (execOffer s) := by
  refine yields_deliver h (fun u hu => h.of_within (.of_eq hu)) fun u f hu hf => ?_
  have hu' : u.RangeLaw := h.of_within (.of_eq hu)
  simp only [RxFrame.fieldsOk, Bool.and_eq_true] at hf
  obtain same | added := u.takeOffer_rangeView f
  · exact hu'.of_within (.of_eq same)
  · exact hu'.add (RawImage.lineIntake_inRange (parseImage_sized _) hf.2) (congrArg RangeView.images added)

theorem execOffer_runStays (s : State) : Yields (RunStays s) (execOffer s) := by
  refine yields_deliver (RangeView.Within.refl _).run (fun u hu => (Stays.of_eq hu).run) fun u f hu _ => ?_
  refine RangeView.RunWithin.trans ?_ (Stays.of_eq hu).run
  obtain same | added := u.takeOffer_rangeView f
  · exact (Stays.of_eq same).run
  · exact RunStays.of_images added

/-! ### Changes of content -/

theorem State.setImage_rangeView (s : State) (tool : ToolId) (f : Image → Image) :
    (s.setImage tool f).rangeView =
      { s.rangeView with images := s.rangeView.images.map (fun i => if i.toolId = tool then f i else i) } := by
  have images : (s.setImage tool f).records.map (·.image)
      = (s.records.map (·.image)).map (fun i => if i.toolId = tool then f i else i) := by
    simp only [State.setImage, State.updateRecord, List.map_map]
    refine List.map_congr_left fun r _ => ?_
    simp only [Function.comp_apply]
    split <;> rfl
  simp only [State.rangeView, images]
  rfl

theorem State.RangeLaw.setImage {s t : State} (h : s.RangeLaw) {tool : ToolId} {f : Image → Image}
    (hf : ∀ r ∈ s.records, r.image.toolId = tool → (f r.image).InRange)
    (e : t.rangeView = (s.setImage tool f).rangeView) : t.RangeLaw :=
  State.rangeLaw_iff.mpr fun i hi => by
    rw [e, s.setImage_rangeView] at hi
    obtain ⟨j, hj, rfl⟩ := List.mem_map.mp hi
    obtain ⟨r, hr, rfl⟩ := List.mem_map.mp hj
    split
    · next e => exact hf r hr e
    · exact h r hr

theorem chargeBody_answers {P : State → Prop} {s : State} {b : Byte} {seconds : BitVec 16} (hs : ∀ k o a, P (s.post k o a))
    (same : P s) (charged : ∀ tool i n, P (s.charge tool b.toNat i n)) : Answers P (chargeBody b seconds s) := by
  refine .unless fun _ => ?_
  split
  · exact trivial
  refine .unless fun _ => ?_
  split
  · split
    · exact charged _ _ _
    · exact same
  · exact hs _ _ _

theorem State.charge_rangeView (s : State) (tool : ToolId) (n : Nat) (i : Image) (seconds : Nat) :
    (s.charge tool n i seconds).rangeView = (s.setImage tool (fun i => i.charged seconds)).rangeView := by
  simp [State.charge]

theorem execCharge_rangeLaw {s : State} (h : s.RangeLaw) (b : Byte) (seconds : BitVec 16) :
    Yields State.RangeLaw (execCharge b seconds s) :=
  rangeLaw_hostCommand h <| chargeBody_answers (fun k o a => h.of_within (.of_eq (s.post_rangeView k o a))) h
    fun tool i n => h.setImage (fun r hr _ => (h r hr).charged n) (s.charge_rangeView tool _ i n)

theorem execCharge_runStays (s : State) (b : Byte) (seconds : BitVec 16) :
    Yields (RunStays s) (execCharge b seconds s) :=
  runStays_hostCommand <| chargeBody_answers (fun k o a => (Stays.of_eq (s.post_rangeView k o a)).run) (Stays.refl s).run
    fun tool i n => RunStays.of_images ((s.charge_rangeView tool _ i n).trans (s.setImage_rangeView _ _))

theorem markDamagedBody_answers {P : State → Prop} {s : State} {tool : ToolId} (same : P s)
    (marked : ∀ r, P (((s.setImage tool (fun i => { i with damaged := true })).loseFitness r).postChanged tool)) :
    Answers P (markDamagedBody tool s) := by
  refine .unless fun _ => .unless fun _ => ?_
  split
  · exact trivial
  · refine .unless fun _ => ?_
    split
    · exact same
    · exact marked _

theorem execMarkDamaged_rangeLaw {s : State} (h : s.RangeLaw) (tool : ToolId) :
    Yields State.RangeLaw (execMarkDamaged tool s) :=
  rangeLaw_hostCommand h <| markDamagedBody_answers h fun _ =>
    h.setImage (fun r hr _ => (h r hr).damage) ((State.postChanged_rangeView _ _).trans (State.loseFitness_rangeView _ _))

theorem execMarkDamaged_runStays (s : State) (tool : ToolId) : Yields (RunStays s) (execMarkDamaged tool s) :=
  runStays_hostCommand <| markDamagedBody_answers (Stays.refl s).run fun _ =>
    RunStays.of_images (((State.postChanged_rangeView _ _).trans (State.loseFitness_rangeView _ _)).trans
      (s.setImage_rangeView _ _))

/-- With distinct tool ids the record found is the only one of its tool (R3). -/
theorem State.eq_of_find {s : State} (ids : s.heldIds.Nodup) {tool : ToolId} {r q : ToolRecord}
    (h : s.find tool = some r) (hq : q ∈ s.records) (e : q.image.toolId = tool) : q = r :=
  List.inj_on_of_nodup_map ids hq (State.find_mem h) (e.trans (State.find_toolId h).symm)

theorem regrindBody_answers {P : State → Prop} {s : State} {tool : ToolId} {len : Option (BitVec 24)}
    (ground : ∀ r, s.find tool = some r → r.image.regrinds < 15 →
      P (((s.setImage tool (fun i => i.reground len)).loseFitness r).postChanged tool)) :
    Answers P (regrindBody tool len s) := by
  refine .unless fun _ => .unless fun _ => ?_
  split
  · exact trivial
  · next r hr => exact .unless fun _ => .unless fun count => ground r hr (Nat.lt_of_not_le count)

theorem execRegrind_rangeLaw {s : State} (ids : s.heldIds.Nodup) (h : s.RangeLaw) (tool : ToolId)
    (len : Option (BitVec 24)) : Yields State.RangeLaw (execRegrind tool len s) :=
  rangeLaw_hostCommand h <| regrindBody_answers fun _ hr count =>
    h.setImage (fun q hq e => (h q hq).reground (State.eq_of_find ids hr hq e ▸ count) len)
      ((State.postChanged_rangeView _ _).trans (State.loseFitness_rangeView _ _))

theorem execRegrind_runStays (s : State) (tool : ToolId) (len : Option (BitVec 24)) :
    Yields (RunStays s) (execRegrind tool len s) :=
  runStays_hostCommand <| regrindBody_answers fun _ _ _ =>
    RunStays.of_images (((State.postChanged_rangeView _ _).trans (State.loseFitness_rangeView _ _)).trans
      (s.setImage_rangeView _ _))

/-! ### Samples and runs -/

/-- A completed measurement writes a block in range (R136 to R142). -/
theorem State.completeMeasurement_rangeLaw {s : State} (ids : s.heldIds.Nodup) (h : s.RangeLaw) (tool : ToolId) {t : Int}
    {samples : List Sample} (station : 1 ≤ s.station ∧ s.station ≤ 62) (ht : -1000 ≤ t ∧ t ≤ 5000)
    (few : samples.length ≤ 32) : (s.completeMeasurement tool t samples).RangeLaw := by
  have idle : s.idleRun.RangeLaw := h.of_within s.idleRun_within
  unfold State.completeMeasurement
  split
  · exact idle
  · next r hr =>
    split
    · exact idle.of_within (.of_eq (by simp))
    · next m block result =>
      have written : block.InRange r.image.lifeUsed := measureResult_inRange station ht few result
      refine idle.setImage (tool := tool) (f := fun i => { i with measured := some block }) (fun q hq e => ?_) (by simp)
      obtain rfl := State.eq_of_find ids hr hq e
      exact (h q hq).setMeasured _ fun _ hm => Option.some.inj hm ▸ written

theorem execCapture_rangeLaw {s : State} (ids : s.heldIds.Nodup)
    (station : s.port.nodeState ≠ .unconfigured → 1 ≤ s.station ∧ s.station ≤ 62) (run : s.RunLaw) (h : s.RangeLaw)
    (rising : Bool) : Yields State.RangeLaw (execCapture rising s) := by
  unfold execCapture
  split
  · exact h
  split
  · exact h.of_within (.of_eq (s.post_rangeView _ _ _))
  · next r hr =>
    obtain ⟨-, n32, t0, t1, short, past⟩ := run r hr
    unfold State.takeSample
    dsimp only
    split
    · exact h
    · split
      · have done : ∀ u : State, u.RangeLaw → (u.idleRun.postReferenceDone .done).RangeLaw := fun u hu =>
          (hu.of_within u.idleRun_within).of_within (.of_eq (by simp))
        exact done _ h
      · have few : (s.head.samples ++ [({ z := s.head.z, x := s.head.x } : Sample)]).length ≤ 32 := by
          simp only [List.length_append, List.length_singleton]
          omega
        exact State.completeMeasurement_rangeLaw ids h _ (station past) ⟨t0, t1⟩ few

theorem State.completeMeasurement_run (s : State) (tool : ToolId) (t : Int) (samples : List Sample) :
    (s.completeMeasurement tool t samples).rangeView.run = none := by
  unfold State.completeMeasurement
  split
  · rfl
  · split
    · simp only [postMeasureDone_rangeView, reseat_rangeView]
      rfl
    · simp only [postMeasureDone_rangeView, reseat_rangeView]
      rfl

/-- A state without a run meets the run law. -/
theorem State.runLaw_of_idle {s : State} (h : s.rangeView.run = none) : s.RunLaw := fun r hr => by
  rw [show s.head.run = none from h] at hr
  cases hr

theorem execCapture_runLaw {s : State} (run : s.RunLaw) (rising : Bool) :
    Yields State.RunLaw (execCapture rising s) := by
  unfold execCapture
  split
  · exact run
  split
  · exact run.of_run (Stays.of_eq (s.post_rangeView _ _ _)).run
  · next r hr =>
    obtain ⟨n4, n32, t0, t1, -, past⟩ := run r hr
    unfold State.takeSample
    dsimp only
    split
    · next short =>
      intro q hq
      obtain rfl := Option.some.inj hq
      exact ⟨n4, n32, t0, t1, short, past⟩
    · split
      · exact State.runLaw_of_idle (by rw [State.postReferenceDone_rangeView]; rfl)
      · exact State.runLaw_of_idle (State.completeMeasurement_run _ _ _ _)

theorem State.startRun_runLaw {s : State} (past : s.port.nodeState ≠ .unconfigured) (kind : RunKind) (n : Byte)
    (t : BitVec 16) : (s.startRun kind (clampN n) (sentTemp t)).RunLaw := fun r hr => by
  obtain rfl := Option.some.inj hr
  obtain ⟨n4, n32⟩ := clampN_mem n
  obtain ⟨t0, t1⟩ := clampTemp_mem t.toInt
  exact ⟨n4, n32, t0, t1, Nat.lt_of_lt_of_le (Nat.zero_lt_succ 3) n4, past⟩

theorem State.configured_of_not {s : State} (h : ¬ (!s.configured) = true) : s.port.nodeState ≠ .unconfigured :=
  s.configured_iff.mp (by simpa using h)

theorem measureReferenceBody_answers {P : State → Prop} {s : State} {n : Byte} {t : BitVec 16}
    (started : s.port.nodeState ≠ .unconfigured → P (s.startRun .reference (clampN n) (sentTemp t))) :
    Answers P (measureReferenceBody n t s) :=
  .unless fun past => .unless fun _ => .unless fun _ => .unless fun _ => started (State.configured_of_not past)

theorem measureBody_answers {P : State → Prop} {s : State} {tool : ToolId} {n : Byte} {t : BitVec 16}
    (started : s.port.nodeState ≠ .unconfigured → P (s.startMeasurement tool (clampN n) (sentTemp t))) :
    Answers P (measureBody tool n t s) := by
  refine .unless fun past => .unless fun _ => .unless fun _ => ?_
  split
  · exact trivial
  · exact .unless fun _ => .unless fun _ => .unless fun _ => started (State.configured_of_not past)

theorem runLaw_hostCommand {c : Instr} {body : State → CommandResult} {s : State} (h : s.RunLaw)
    (ok : Answers State.RunLaw (body s)) : Yields State.RunLaw (hostCommand c body s) :=
  yields_hostCommand h (fun _ _ hu hq => hu.of_run (RangeView.Within.of_eq (rangeView_port hq)).run) ok

theorem execMeasureReference_runLaw {s : State} (h : s.RunLaw) (n : Byte) (t : BitVec 16) :
    Yields State.RunLaw (execMeasureReference n t s) :=
  runLaw_hostCommand h <| measureReferenceBody_answers fun past => State.startRun_runLaw past _ n t

theorem execMeasure_runLaw {s : State} (h : s.RunLaw) (tool : ToolId) (n : Byte) (t : BitVec 16) :
    Yields State.RunLaw (execMeasure tool n t s) :=
  runLaw_hostCommand h <| measureBody_answers fun past =>
    State.RunLaw.of_run (s := (s.setState tool .measuring).startRun _ (clampN n) (sentTemp t))
      (State.startRun_runLaw past _ n t) (Stays.of_eq (State.postChanged_rangeView _ _)).run

theorem execMeasureReference_rangeLaw {s : State} (h : s.RangeLaw) (n : Byte) (t : BitVec 16) :
    Yields State.RangeLaw (execMeasureReference n t s) :=
  rangeLaw_hostCommand h <| measureReferenceBody_answers fun _ => h

theorem execMeasure_rangeLaw {s : State} (h : s.RangeLaw) (tool : ToolId) (n : Byte) (t : BitVec 16) :
    Yields State.RangeLaw (execMeasure tool n t s) :=
  rangeLaw_hostCommand h <| measureBody_answers fun _ => by
    have measuring : (s.setState tool .measuring).RangeLaw := h.of_within (.of_eq (by simp))
    have started : ((s.setState tool .measuring).startRun (.measurement tool) (clampN n) (sentTemp t)).RangeLaw := measuring
    exact started.of_within (.of_eq (State.postChanged_rangeView _ _))

/-! ### Every command -/

/-- Whether a command can bring a new image or a new run. -/
def bringsNew : Instr → Bool
  | .create .. | .restore .. | .offer | .charge .. | .markDamaged _ | .regrind .. | .capture _ | .measure ..
  | .measureReference .. => true
  | _ => false

/-- Every other command brings neither a new image nor a new run. -/
theorem exec_stays (s : State) (c : Instr) (h : bringsNew c = false) : Yields (Stays s) (exec c s) := by
  cases c with
  | create | restore | offer | charge | markDamaged | regrind | capture | measure | measureReference => cases h
  | reset => exact execReset_stays s
  | readTransaction bytesOut => exact execReadTransaction_stays s bytesOut
  | commandCollision => exact execCommandCollision_stays s
  | unknownCommand code payload => exact execUnknownCommand_stays s code payload
  | readStatus => exact execReadStatus_stays s
  | readNotice => exact execReadNotice_stays s
  | configure payload => exact execConfigure_stays s payload
  | join => exact execJoin_stays s
  | rejoin => exact execRejoin_stays s
  | readPeer station => exact execReadPeer_stays s station
  | pardon station => exact execPardon_stays s station
  | drop tool => exact execDrop_stays s tool
  | resolve tool choice => exact execResolve_stays s tool choice
  | readRecord tool => exact execReadRecord_stays s tool
  | listRecords start => exact execListRecords_stays s start
  | issue panel cls forStation => exact execIssue_stays s panel cls forStation
  | returnTool panel pocket => exact execReturn_stays s panel pocket
  | serviceOpen panel list => exact execServiceOpen_stays s panel list
  | cancel panel => exact execCancel_stays s panel
  | identifyPocket pocket tool => exact execIdentifyPocket_stays s pocket tool
  | clearPocketFault pocket => exact execClearPocketFault_stays s pocket
  | readPocket pocket => exact execReadPocket_stays s pocket
  | readPanel panel => exact execReadPanel_stays s panel
  | readReservations => exact execReadReservations_stays s
  | identifyHead tool => exact execIdentifyHead_stays s tool
  | abortMeasure => exact execAbortMeasure_stays s
  | readHead => exact execReadHead_stays s
  | load slot tool => exact execLoad_stays s slot tool
  | unload slot => exact execUnload_stays s slot
  | readSlot slot => exact execReadSlot_stays s slot
  | setDemand entries => exact execSetDemand_stays s entries
  | startDemand mode interval target hold => exact execStartDemand_stays s mode interval target hold
  | stopDemand => exact execStopDemand_stays s
  | readDemand => exact execReadDemand_stays s
  | lineIdle => exact execLineIdle_stays s
  | arbitrationLost => exact execArbitrationLost_stays s
  | bitError startMark => exact execBitError_stays s startMark
  | frameSent => exact execFrameSent_stays s
  | frameReceived frame => exact execFrameReceived_stays s frame
  | malformedFrame => exact execMalformedFrame_stays s
  | presence => exact execPresence_stays s
  | call => exact execCall_stays s
  | accept => exact execAccept_stays s
  | decline => exact execDecline_stays s
  | here => exact execHere_stays s
  | check => exact execCheck_stays s
  | checkReply => exact execCheckReply_stays s
  | demand => exact execDemand_stays s
  | lineHeld startNs driverAsserting => exact execLineHeld_stays s startNs driverAsserting
  | lineReleased endNs => exact execLineReleased_stays s endNs
  | nodeOnline => exact execNodeOnline_stays s
  | beaconExpiry => exact execBeaconExpiry_stays s
  | peerAbsent station => exact execPeerAbsent_stays s station
  | callWaitExpiry slot => exact execCallWaitExpiry_stays s slot
  | offerWaitExpiry slot => exact execOfferWaitExpiry_stays s slot
  | checkWaitExpiry tool => exact execCheckWaitExpiry_stays s tool
  | pocketFirstReading pocket levelHigh => exact execPocketFirstReading_stays s pocket levelHigh
  | pocketRemoval pocket => exact execPocketRemoval_stays s pocket
  | pocketInsertion pocket => exact execPocketInsertion_stays s pocket
  | currentSeen pocket => exact execCurrentSeen_stays s pocket
  | pullInExpiry pocket => exact execPullInExpiry_stays s pocket
  | shortCurrent pocket => exact execShortCurrent_stays s pocket
  | holdExpiry pocket => exact execHoldExpiry_stays s pocket
  | supplyLow => exact execSupplyLow_stays s
  | supplyNormal => exact execSupplyNormal_stays s
  | digitKey panel digit => exact execDigitKey_stays s panel digit
  | enter panel => exact execEnter_stays s panel
  | clear panel => exact execClear_stays s panel
  | interKeyExpiry panel => exact execInterKeyExpiry_stays s panel
  | lockoutExpiry panel => exact execLockoutExpiry_stays s panel
  | windowExpiry panel => exact execWindowExpiry_stays s panel
  | scaleStep scale up => exact execScaleStep_stays s scale up
  | scaleError scale => exact execScaleError_stays s scale
  | captureTimeout => exact execCaptureTimeout_stays s
  | seatFirstReading levelHigh => exact execSeatFirstReading_stays s levelHigh
  | headSeated => exact execHeadSeated_stays s
  | headUnseated => exact execHeadUnseated_stays s
  | cycleExpiry => exact execCycleExpiry_stays s
  | triggerEdge levelHigh => exact execTriggerEdge_stays s levelHigh
  | reservationExpiry requester cls => exact execReservationExpiry_stays s requester cls
  | dominantEdge => exact execDominantEdge_stays s
  | startMarkRead widthNs => exact execStartMarkRead_stays s widthNs
  | framingError cause => exact execFramingError_stays s cause
  | resetEnds straps => exact execResetEnds_stays s straps

theorem Yields.mono {P Q : State → Prop} {o : StepOutcome} (h : ∀ t, P t → Q t) (ho : Yields P o) : Yields Q o := by
  cases o with
  | next t => exact h t ho
  | _ => exact trivial

theorem exec_rangeLaw {s : State} (ids : s.heldIds.Nodup)
    (station : s.port.nodeState ≠ .unconfigured → 1 ≤ s.station ∧ s.station ≤ 62) (run : s.RunLaw) (h : s.RangeLaw)
    (c : Instr) : Yields State.RangeLaw (exec c s) := by
  cases c with
  | create kind number bytes => exact execCreate_rangeLaw h kind number bytes
  | restore st kind number prior counterpart handoff bytes =>
    exact execRestore_rangeLaw h st kind number prior counterpart handoff bytes
  | offer => exact execOffer_rangeLaw h
  | charge b seconds => exact execCharge_rangeLaw h b seconds
  | markDamaged tool => exact execMarkDamaged_rangeLaw h tool
  | regrind tool len => exact execRegrind_rangeLaw ids h tool len
  | capture rising => exact execCapture_rangeLaw ids station run h rising
  | measure tool n t => exact execMeasure_rangeLaw h tool n t
  | measureReference n t => exact execMeasureReference_rangeLaw h n t
  | _ => exact (exec_stays s _ rfl).mono fun _ w => h.of_within w

theorem exec_runLaw {s : State} (h : s.RunLaw) (c : Instr) : Yields State.RunLaw (exec c s) := by
  have keeps : ∀ t, RunStays s t → t.RunLaw := fun _ w => h.of_run w
  cases c with
  | create kind number bytes => exact (execCreate_runStays s kind number bytes).mono keeps
  | restore st kind number prior counterpart handoff bytes =>
    exact (execRestore_runStays s st kind number prior counterpart handoff bytes).mono keeps
  | offer => exact (execOffer_runStays s).mono keeps
  | charge b seconds => exact (execCharge_runStays s b seconds).mono keeps
  | markDamaged tool => exact (execMarkDamaged_runStays s tool).mono keeps
  | regrind tool len => exact (execRegrind_runStays s tool len).mono keeps
  | capture rising => exact execCapture_runLaw h rising
  | measure tool n t => exact execMeasure_runLaw h tool n t
  | measureReference n t => exact execMeasureReference_runLaw h n t
  | _ => exact (exec_stays s _ rfl).mono fun _ w => h.of_run w.run

/-- What a step is: nothing, a tick, or a command on the state without it (R176). -/
theorem step_cases {s t : State} (h : step s = .next t) : t = s ∨ t = s.tick
    ∨ (∃ c rest, exec c { s with pending := rest } = .next t)
    ∨ ∃ c, exec c { s with port := { s.port with commandSlot := none } } = .next t := by
  unfold step at h
  split at h
  · obtain ⟨-, e⟩ | ⟨-, e⟩ | ⟨c, -, -, -, e⟩ := s.idle_cases <;> rw [e] at h
    · exact .inl (by cases h; rfl)
    · exact .inr (.inl (by cases h; rfl))
    · exact .inr (.inr (.inr ⟨c, h⟩))
  · exact .inr (.inr (.inl ⟨_, _, h⟩))

end Sys2Proof.Machine

namespace Sys2Proof.Proofs

open Sys2Proof.Machine

/-- Settles O9: a new image comes from an intake in range (R7), a charge, a regrind or a measurement; every other
command keeps or removes images and keeps or ends the run. -/
theorem rangeLawKept : Obligations.RangeLawKept := by
  unfold Obligations.RangeLawKept
  refine ⟨fun s t records port run range h => ?_, fun s t _ _ run h => ?_⟩
  · have ids : s.heldIds.Nodup := records.distinct.of_append_left
    obtain rfl | rfl | ⟨c, rest, h⟩ | ⟨c, h⟩ := step_cases h
    · exact range
    · exact range
    · exact (exec_rangeLaw (s := { s with pending := rest }) ids port.station run range c).next h
    · exact (exec_rangeLaw (s := { s with port := { s.port with commandSlot := none } }) ids port.station run range c).next h
  · obtain rfl | rfl | ⟨c, rest, h⟩ | ⟨c, h⟩ := step_cases h
    · exact run
    · exact run
    · exact (exec_runLaw (s := { s with pending := rest }) run c).next h
    · exact (exec_runLaw (s := { s with port := { s.port with commandSlot := none } }) run c).next h

end Sys2Proof.Proofs
end

section
/-! SUPPORT. O21: the intake of a host image and the derived conditions (R7, R10, R11). -/

namespace Sys2Proof.Machine

/-! ### The agreed verdict (R7) -/

/-- A host image with a block is stored with its clamped block, the verdict agreed. -/
theorem RawImage.hostIntake_block {r : RawImage} {b : RawBlock} (h : r.block = some b) :
    r.hostIntake = withBlock (clampBase r.base) (Config.lengthMax < b.length || Config.radiusMax < b.radius)
      (clampBlock (clampBase r.base).lifeUsed b) := by
  unfold RawImage.hostIntake
  rw [h]

theorem agreedVerdict_changed (i : Image) (m : Measured) : agreedVerdict i true m = .clamped := rfl

/-- A verdict that did not arrive WITHIN stays. -/
theorem agreedVerdict_kept {m : Measured} (h : m.verdict ≠ .within) (i : Image) :
    agreedVerdict i false m = m.verdict := by
  simp [agreedVerdict, h]

theorem agreedVerdict_runout {i : Image} {m : Measured} (h : m.verdict = .within) (high : i.runoutLimit < m.runout) :
    agreedVerdict i false m = .runoutHigh := by
  simp [agreedVerdict, h, high]

/-- A verdict that arrived WITHIN, at a runout within the limit, is judged by the tolerances. -/
theorem agreedVerdict_band {i : Image} {m : Measured} (h : m.verdict = .within) (low : m.runout ≤ i.runoutLimit) :
    agreedVerdict i false m =
      if i.lengthTol < absDiff m.length i.nomLength ∨ i.radiusTol < absDiff m.radius i.nomRadius then .outOfBand
      else .within := by
  simp [agreedVerdict, h, Nat.not_lt.mpr low]

theorem Verdict.ofCode_of_three_le {n : Nat} (h : 3 ≤ n) : Verdict.ofCode n = .clamped := by
  match n, h with
  | n + 3, _ => rfl

/-! ### Fitness (R10, R11) -/

/-- FIT is the absence of an unfit reason. -/
theorem Image.fit_iff (i : Image) : i.fit = true ↔ i.unfitReason = none := by
  unfold Image.fit Image.unfitReason
  cases i.damaged with
  | true => simp
  | false =>
    cases i.measured with
    | none => simp
    | some m =>
      cases hv : m.verdict with
      | within => cases i.worn <;> cases i.remeasureDue <;> simp [hv]
      | _ => simp [hv]

/-- A record that is WORN has no life left to be LOW on. -/
theorem Image.low_of_worn {i : Image} (h : i.worn = true) : i.low = false := by
  have used : i.lifeUsed = i.lifeLimit := by simpa [Image.worn] using h
  simp [Image.low, Image.remaining, used]

theorem Image.low_of_no_margin {i : Image} (h : i.warnMargin = 0) : i.low = false := by
  simp only [Image.low, h, Bool.and_eq_false_iff, decide_eq_false_iff_not]
  omega

end Sys2Proof.Machine

namespace Sys2Proof.Proofs

open Sys2Proof.Machine

/-- Settles O21: the clamps hold by definition of the intake, the verdict by the case that `agreedVerdict` reaches. -/
theorem imagesAndFitness : Obligations.ImagesAndFitness := by
  unfold Obligations.ImagesAndFitness
  refine ⟨fun r b hb => ?_, fun i => ⟨i.fit_iff, fun h => ?_, fun h => ?_, fun hd hm => ?_, Image.low_of_worn,
    Image.low_of_no_margin, fun m hm hi => ?_⟩⟩
  · dsimp only
    rw [RawImage.hostIntake_block hb]
    have unchanged : ¬ (5000000 < b.length ∨ 1000000 < b.radius) →
        (decide (Config.lengthMax < b.length) || decide (Config.radiusMax < b.radius)) = false := fun h => by
      rw [Bool.or_eq_false_iff, decide_eq_false_iff_not, decide_eq_false_iff_not]
      exact not_or.mp h
    have arrived : ∀ {n}, b.verdictCode = n →
        (clampBlock (clampBase r.base).lifeUsed b).verdict = Verdict.ofCode n := fun h => h ▸ rfl
    refine ⟨_, rfl, rfl, rfl, rfl, rfl, rfl, rfl, rfl, rfl, rfl, rfl, rfl, rfl, rfl, fun long => ?_,
      fun short code high => ?_, fun short code low far => ?_, fun short code low near => ?_, fun short code => ?_,
      fun short code => ?_, fun short code => ?_⟩ <;> dsimp only
    · have changed : (decide (Config.lengthMax < b.length) || decide (Config.radiusMax < b.radius)) = true := by
        rw [Bool.or_eq_true, decide_eq_true_iff, decide_eq_true_iff]
        exact long
      rw [changed, agreedVerdict_changed]
    · rw [unchanged short]
      exact agreedVerdict_runout (arrived code) high
    · rw [unchanged short]
      exact (agreedVerdict_band (arrived code) low).trans (if_pos far)
    · rw [unchanged short]
      exact (agreedVerdict_band (arrived code) low).trans (if_neg near)
    · rw [unchanged short]
      exact (agreedVerdict_kept (by rw [arrived code]; decide) _).trans (arrived code)
    · rw [unchanged short]
      exact (agreedVerdict_kept (by rw [arrived code]; decide) _).trans (arrived code)
    · have late := (arrived rfl).trans (Verdict.ofCode_of_three_le code)
      rw [unchanged short]
      exact (agreedVerdict_kept (by rw [late]; decide) _).trans late
  · simp [Image.unfitReason, h]
  · simp [Image.remeasureDue, Image.fit, h]
  · simp [Image.unfitReason, hd, hm]
  · simp [Image.remeasureDue, hm, hi]

end Sys2Proof.Proofs
end

section
/-! SUPPORT. A host command on a free port, and where the record commands refuse a record's state (R16, R18, R19). -/

namespace Sys2Proof.Machine

/-- A command that is taken answers OK with what its rule gives. -/
theorem hostCommand_ok {s t : State} {payload : List Byte} {c : Instr} {body : State → CommandResult} (h : s.PortFree)
    (hb : body s = .ok (t, payload)) : hostCommand c body s = .next (t.answered .ok payload) := by
  rw [hostCommand_free h, hb]

/-- A command that is refused answers its reason and changes nothing. -/
theorem hostCommand_error {s : State} {r : HostResult} {c : Instr} {body : State → CommandResult} (h : s.PortFree)
    (hb : body s = .error r) : hostCommand c body s = .next (s.answered r []) := by
  rw [hostCommand_free h, hb]

theorem State.configured_eq_true {s : State} (h : s.port.nodeState ≠ .unconfigured) : s.configured = true :=
  bne_iff_ne.mpr h

theorem State.configured_eq_false {s : State} (h : s.port.nodeState = .unconfigured) : s.configured = false := by
  simp [State.configured, h]

theorem Lock.isClosed_eq_false {l : Lock} : l.isClosed = false ↔ l ≠ .closed := by
  cases l <;> simp [Lock.isClosed]

/-- A record stands in a pocket whose lock is not CLOSED. -/
def State.InOpenPocket (s : State) (r : ToolRecord) : Prop :=
  ∃ p k, r.state = .stocked p ∧ s.pocket? p = some k ∧ k.lock ≠ .closed

theorem State.inMovingPocket_iff {s : State} {r : ToolRecord} : s.inMovingPocket r = true ↔ s.InOpenPocket r := by
  unfold State.inMovingPocket State.InOpenPocket
  cases hr : r.state with
  | stocked p => cases hk : s.pocket? p <;> simp [hk, Lock.isClosed_eq_false]
  | _ => simp

theorem State.not_inOpenPocket {s : State} {r : ToolRecord}
    (h : ∀ p k, r.state = .stocked p → s.pocket? p = some k → k.lock = .closed) : ¬ s.InOpenPocket r :=
  fun ⟨p, k, hr, hk, hl⟩ => hl (h p k hr hk)

/-- Where DROP refuses a record (R16). -/
theorem State.dropRefuses_iff {s : State} {r : ToolRecord} : s.dropRefuses r = true ↔
    (∃ c p, r.state = .outbound c p) ∨ r.state = .measuring ∨ s.InOpenPocket r := by
  unfold State.dropRefuses
  cases hr : r.state <;> simp [State.inMovingPocket_iff, State.InOpenPocket, hr]

/-- Where MARK_DAMAGED refuses a record (R18). -/
theorem State.markRefuses_iff {s : State} {r : ToolRecord} : s.markRefuses r = true ↔
    (∃ c p, r.state = .outbound c p) ∨ (∃ c p d, r.state = .inDoubt c p d) ∨ s.InOpenPocket r := by
  unfold State.markRefuses
  cases hr : r.state <;> simp [State.inMovingPocket_iff, State.InOpenPocket, hr]

/-- Where REGRIND refuses a record: it takes a STOCKED, a LOOSE and a SEATED one (R19). -/
theorem State.regrindRefuses_iff {s : State} {r : ToolRecord} : s.regrindRefuses r = true ↔
    ¬ (r.state = .loose ∨ r.state = .seated ∨ ∃ p, r.state = .stocked p) ∨ s.InOpenPocket r := by
  unfold State.regrindRefuses
  cases hr : r.state <;> simp [State.inMovingPocket_iff, State.InOpenPocket, hr]

/-- RECORD_CHANGED after a change that keeps the record's state. -/
theorem State.postChanged_setImage {s u : State} {tool : ToolId} {r : ToolRecord} {f : Image → Image}
    (h : s.find tool = some r) (hf : ∀ i, (f i).toolId = i.toolId) (hu : u.records = (s.setImage tool f).records) :
    u.postChanged tool = u.post .recordChanged tool
      (parts (byte r.state.code ++ byte r.state.placeCode.1 ++ byte r.state.placeCode.2)) :=
  State.postChanged_eq (r := { r with image := f r.image }) ((State.find_congr hu tool).trans (State.find_setImage h f hf))

end Sys2Proof.Machine
end

section
/-! SUPPORT. O22 and O23: DROP, RESOLVE, MARK_DAMAGED and REGRIND (R16 to R19). -/

namespace Sys2Proof.Machine

section
variable {s : State} {tool : ToolId} {r : ToolRecord}

/-! ### DROP and RESOLVE -/

/-- DROP on a held record. -/
theorem dropBody_held (hc : s.configured = true) (ht : tool ≠ 0) (hf : s.find tool = some r) :
    dropBody tool s =
      if s.dropRefuses r then .error .badState else done (((s.vacate r).depart tool 0).markingPass) := by
  simp only [dropBody, hc, ht, hf]
  rfl

/-- RESOLVE on a record that is not IN_DOUBT. -/
theorem resolveBody_settled {choice : Byte} (hc : s.configured = true) (ht : tool ≠ 0)
    (hchoice : choice = 1 ∨ choice = 2) (hf : s.find tool = some r) (hr : ∀ c p d, r.state ≠ .inDoubt c p d) :
    resolveBody tool choice s = .error .badState := by
  have offered : ¬ (tool = 0 ∨ (choice ≠ 1 ∧ choice ≠ 2)) := by tauto
  simp only [resolveBody, hc, offered, hf]
  cases hs : r.state with
  | inDoubt c p d => exact absurd hs (hr c p d)
  | _ => rfl

/-- RESOLVE KEEP on an IN_DOUBT record: it becomes LOOSE whatever its prior state. -/
theorem resolveBody_keep {c : CustodyPart} {p : Prior} {d : Option Millis} (hc : s.configured = true) (ht : tool ≠ 0)
    (hf : s.find tool = some r) (hr : r.state = .inDoubt c p d) :
    resolveBody tool 1 s = done (((s.setState tool .loose).removeFrames (.check tool)).post .recordChanged tool
      (parts (byte 5 ++ byte 0 ++ byte 0))) := by
  have found : ((s.setState tool .loose).removeFrames (.check tool)).find tool = some { r with state := .loose } :=
    (State.find_congr rfl tool).trans (State.find_setState hf .loose)
  simp only [resolveBody, hc, ht, hf, hr, State.postChanged_eq found]
  rfl

theorem resolveBody_drop {c : CustodyPart} {p : Prior} {d : Option Millis} (hc : s.configured = true) (ht : tool ≠ 0)
    (hf : s.find tool = some r) (hr : r.state = .inDoubt c p d) :
    resolveBody tool 2 s = done (s.depart tool 0) := by
  simp only [resolveBody, hc, ht, hf, hr]
  rfl

/-! ### MARK_DAMAGED and REGRIND -/

/-- MARK_DAMAGED on a held record. -/
theorem markDamagedBody_held (hc : s.configured = true) (ht : tool ≠ 0) (hf : s.find tool = some r) :
    markDamagedBody tool s =
      if s.markRefuses r then .error .badState
      else if r.image.damaged then done s
      else
        done (((s.setImage tool (fun i => { i with damaged := true })).loseFitness r).postChanged tool) := by
  simp only [markDamagedBody, hc, ht, hf]
  rfl

/-- REGRIND on a held record. -/
theorem regrindBody_held (len : Option (BitVec 24)) (hc : s.configured = true) (ht : tool ≠ 0)
    (hf : s.find tool = some r) :
    regrindBody tool len s =
      if s.regrindRefuses r then .error .badState
      else if 15 ≤ r.image.regrinds then .error .regrindLimit
      else
        done (((s.setImage tool (fun i => i.reground len)).loseFitness r).postChanged tool) := by
  simp only [regrindBody, hc, ht, hf]
  rfl

/-- A loss of fitness leaves the records. -/
@[simp] theorem State.loseFitness_records (u : State) (r : ToolRecord) : (u.loseFitness r).records = u.records := by
  unfold State.loseFitness
  split <;> simp

end

end Sys2Proof.Machine

namespace Sys2Proof.Proofs

open Sys2Proof.Machine

/-- Settles O22, each clause by the body of its command on a free port. -/
theorem dropAndResolve : Obligations.DropAndResolve := by
  unfold Obligations.DropAndResolve
  refine ⟨fun tool r s hp hn ht hf => ?_, fun tool s hp => ⟨fun hn => ⟨?_, ?_⟩, fun hn => ⟨?_, fun choice => ?_⟩⟩,
    fun tool s hp hn => ⟨fun r c p d ht hf hr => ⟨?_, ?_⟩, fun choice hch => ⟨?_, ?_, ?_⟩⟩⟩
  · have body := dropBody_held (State.configured_eq_true hn) ht hf
    constructor
    · intro notOutbound notMeasuring closed
      have taken : s.dropRefuses r ≠ true := fun h => by
        obtain ⟨c, p, e⟩ | e | e := State.dropRefuses_iff.mp h
        · exact notOutbound c p e
        · exact notMeasuring e
        · exact State.not_inOpenPocket closed e
      rw [if_neg taken] at body
      refine (hostCommand_ok hp body).trans ?_
      unfold State.vacate
      cases r.state with
      | stocked p => simp [State.depart, State.dropRecord, num]
      | loaded n => simp [State.depart, State.dropRecord, num]
      | _ => rfl
    · intro refused
      rw [if_pos (State.dropRefuses_iff.mpr refused)] at body
      exact hostCommand_error hp body
  · rintro rfl
    exact hostCommand_error hp (by simp [dropBody, State.configured_eq_true hn])
  · intro ht hf
    exact hostCommand_error hp (by simp only [dropBody, State.configured_eq_true hn, ht, hf]; rfl)
  · exact hostCommand_error hp (by simp [dropBody, State.configured_eq_false hn])
  · exact hostCommand_error hp (by simp [resolveBody, State.configured_eq_false hn])
  · exact hostCommand_ok hp (resolveBody_keep (State.configured_eq_true hn) ht hf hr)
  · exact hostCommand_ok hp (resolveBody_drop (State.configured_eq_true hn) ht hf hr)
  · intro r ht hf hr
    exact hostCommand_error hp (resolveBody_settled (State.configured_eq_true hn) ht hch hf hr)
  · intro ht hf
    have offered : ¬ (tool = 0 ∨ (choice ≠ 1 ∧ choice ≠ 2)) := by tauto
    exact hostCommand_error hp (by simp only [resolveBody, State.configured_eq_true hn, offered, hf]; rfl)
  · rintro rfl
    exact hostCommand_error hp (by simp [resolveBody, State.configured_eq_true hn])

/-- Settles O23, each clause by the body of its command on a free port. -/
theorem damageAndRegrind : Obligations.DamageAndRegrind := by
  unfold Obligations.DamageAndRegrind
  refine ⟨fun tool r s hp hn ht hf notOutbound notInDoubt closed => ?_,
    fun tool len r s hp hn ht hf state closed => ?_,
    fun tool len s hp => ⟨fun hn => ?_, fun hn => ⟨?_, fun ht hf => ?_, fun r ht hf => ⟨fun refused => ?_, fun other => ?_⟩⟩⟩⟩
  · have taken : s.markRefuses r ≠ true := fun h => by
      obtain ⟨c, p, e⟩ | ⟨c, p, d, e⟩ | e := State.markRefuses_iff.mp h
      · exact notOutbound c p e
      · exact notInDoubt c p d e
      · exact State.not_inOpenPocket closed e
    have body := markDamagedBody_held (State.configured_eq_true hn) ht hf
    rw [if_neg taken] at body
    constructor
    · intro damaged
      exact hostCommand_ok hp (body.trans (if_pos damaged))
    · intro sound
      rw [if_neg (by simp [sound]), State.postChanged_setImage (f := fun i => { i with damaged := true }) hf (fun _ => rfl) (by simp)] at body
      refine (hostCommand_ok hp body).trans ?_
      cases hr : r.state <;> simp only [State.loseFitness, hr] <;> rfl
  · have taken : s.regrindRefuses r ≠ true := fun h => by
      obtain e | e := State.regrindRefuses_iff.mp h
      · exact e state
      · exact State.not_inOpenPocket closed e
    have body := regrindBody_held len (State.configured_eq_true hn) ht hf
    rw [if_neg taken] at body
    constructor
    · intro limit
      exact hostCommand_error hp (body.trans (if_pos limit))
    · intro below
      rw [if_neg (Nat.not_le.mpr below), State.postChanged_setImage (f := fun i => i.reground len) hf (fun _ => rfl) (by simp)] at body
      refine (hostCommand_ok hp body).trans ?_
      cases hr : r.state <;> simp only [State.loseFitness, hr] <;> rfl
  · have hc := State.configured_eq_false hn
    exact ⟨hostCommand_error hp (by simp [markDamagedBody, hc]), hostCommand_error hp (by simp [regrindBody, hc])⟩
  · rintro rfl
    have hc := State.configured_eq_true hn
    exact ⟨hostCommand_error hp (by simp [markDamagedBody, hc]), hostCommand_error hp (by simp [regrindBody, hc])⟩
  · have hc := State.configured_eq_true hn
    exact ⟨hostCommand_error hp (by simp only [markDamagedBody, hc, ht, hf]; rfl),
      hostCommand_error hp (by simp only [regrindBody, hc, ht, hf]; rfl)⟩
  · have hc := State.configured_eq_true hn
    have ground : s.regrindRefuses r = true := State.regrindRefuses_iff.mpr <| by
      obtain ⟨c, p, e⟩ | ⟨c, p, d, e⟩ | e := refused
      · exact .inl (by simp [e])
      · exact .inl (by simp [e])
      · exact .inr e
    exact ⟨hostCommand_error hp ((markDamagedBody_held hc ht hf).trans (if_pos (State.markRefuses_iff.mpr refused))),
      hostCommand_error hp ((regrindBody_held len hc ht hf).trans (if_pos ground))⟩
  · have ground : s.regrindRefuses r = true := State.regrindRefuses_iff.mpr <| .inl <| by
      obtain e | e | ⟨n, e⟩ := other <;> simp [e]
    exact hostCommand_error hp ((regrindBody_held len (State.configured_eq_true hn) ht hf).trans (if_pos ground))

end Sys2Proof.Proofs
end

section
/-! SUPPORT. O19: CREATE (R15, R129). -/

namespace Sys2Proof.Machine

/-- The image that CREATE takes in: the measured-block bit is ignored (R190). -/
def createRaw (bytes : List Byte) : RawImage := { base := parseBase bytes, block := none }

section
variable {s : State} {kind number : Byte} {bytes : List Byte}

/-! ### Images -/

theorem createRaw_badIdentifier : (createRaw bytes).badIdentifier = false ↔ toolAt bytes ≠ 0 ∧ field bytes 4 2 ≠ 0 :=
  RawImage.badIdentifier_eq_false.trans
    ⟨fun ⟨htool, hcls, _⟩ => ⟨htool, hcls⟩, fun ⟨htool, hcls⟩ => ⟨htool, hcls, fun _ hm => nomatch hm⟩⟩

theorem createRaw_badIdentifier_true (h : toolAt bytes = 0 ∨ field bytes 4 2 = 0) :
    (createRaw bytes).badIdentifier = true :=
  eq_true_of_ne_false fun ok => by
    obtain ⟨htool, hcls⟩ := createRaw_badIdentifier.mp ok
    exact h.elim htool hcls

/-- A created record has no measured block, so it is not FIT (R15, R10). -/
theorem createRaw_not_fit : (createRaw bytes).hostIntake.fit = false := rfl

/-! ### The place -/

theorem createPlace_nowhere : s.createPlace 0 number = some .nowhere := rfl

theorem createPlace_pocket {k : Pocket} (h : s.pocket? number.toNat = some k) :
    s.createPlace 1 number = some (.pocket number.toNat) := by
  simp [State.createPlace, parsePlace, State.hasPlace, h]

theorem createPlace_head (h : s.config.head = true) : s.createPlace 3 number = some .head := by
  simp [State.createPlace, parsePlace, State.hasPlace, h]

theorem createPlace_no_pocket (h : s.pocket? number.toNat = none) : s.createPlace 1 number = none := by
  simp [State.createPlace, parsePlace, State.hasPlace, h]

theorem createPlace_no_head (h : s.config.head = false) : s.createPlace 3 number = none := by
  simp [State.createPlace, parsePlace, State.hasPlace, h]

/-- A slot is no place of a CREATE, and a kind above 3 is none at all (R15, 11.3). -/
theorem createPlace_out_of_range (h : kind = 2 ∨ 3 < kind.toNat) : s.createPlace kind number = none := by
  obtain rfl | high := h
  · rfl
  · have unknown : parsePlace kind.toNat number.toNat = none := by
      unfold parsePlace
      rw [if_neg (by omega), if_neg (by omega), if_neg (by omega), if_neg (by omega)]
    simp [State.createPlace, unknown]

theorem State.pocket?_eq_none (h : number = 0 ∨ s.bank.pockets.length < number.toNat) :
    s.pocket? number.toNat = none := by
  obtain rfl | high := h
  · rfl
  · unfold State.pocket?
    split
    · rfl
    · exact List.getElem?_eq_none (by omega)

/-- The place of a CREATE is unsuitable (R15, PLACE_CONFLICT). -/
def State.CreateConflict (s : State) (kind number : Byte) : Prop :=
  (kind = 1 ∧ ((∃ k, s.pocket? number.toNat = some k ∧ (k.occupancy ≠ .unknown ∨ k.lock ≠ .closed))
    ∨ s.callAt (.pocket number.toNat) ≠ none))
  ∨ (kind = 3 ∧ (s.head.seat ≠ .present ∨ s.headRecord ≠ none ∨ s.callAt .head ≠ none))

/-- A kind in range has a place at this node, and the model finds it unsuitable where the rule does. -/
theorem createPlace_suits (h : kind = 0 ∨ (kind = 1 ∧ s.pocket? number.toNat ≠ none) ∨ (kind = 3 ∧ s.config.head = true)) :
    ∃ place, s.createPlace kind number = some place
      ∧ (s.createConflict place = true ↔ s.CreateConflict kind number) := by
  obtain rfl | ⟨rfl, hp⟩ | ⟨rfl, hh⟩ := h
  · exact ⟨_, createPlace_nowhere, by simp [State.createConflict, State.CreateConflict]⟩
  · obtain ⟨k, hk⟩ := Option.ne_none_iff_exists'.mp hp
    refine ⟨_, createPlace_pocket hk, ?_⟩
    simp [State.createConflict, State.CreateConflict, hk, Lock.isClosed_eq_false, Option.isSome_iff_ne_none]
  · refine ⟨_, createPlace_head hh, ?_⟩
    simp [State.createConflict, State.CreateConflict, Option.isSome_iff_ne_none, or_assoc]

/-! ### The command -/

theorem createBody_unconfigured (hl : bytes.length = 31) (h : s.configured = false) :
    createBody kind number bytes s = .error .notConfigured := by
  simp [createBody, hl, h]

theorem createBody_bad_identifier (hl : bytes.length = 31) (hc : s.configured = true)
    (h : (createRaw bytes).badIdentifier = true) : createBody kind number bytes s = .error .outOfRange := by
  simp only [createRaw] at h
  simp [createBody, hl, hc, h]

theorem createBody_no_place (hl : bytes.length = 31) (hc : s.configured = true)
    (h : s.createPlace kind number = none) : createBody kind number bytes s = .error .outOfRange := by
  simp [createBody, hl, hc, h]

/-- CREATE with its identifiers and its place in range. -/
theorem createBody_at {place : Place} (hl : bytes.length = 31) (hc : s.configured = true)
    (hid : (createRaw bytes).badIdentifier = false) (hp : s.createPlace kind number = some place) :
    createBody kind number bytes s =
      if (s.find (toolAt bytes)).isSome then .error .toolExists
      else if (s.callFor (toolAt bytes)).isSome then .error .callPending
      else if s.createConflict place then .error .placeConflict
      else if s.freeRows = 0 then .error .tableFull
      else done ((s.putAt (createRaw bytes).hostIntake place).displaceRun place) := by
  simp only [createRaw] at hid
  simp only [createBody, hl, hc, hid, hp]
  rfl

/-- CREATE where nothing stands against it. -/
theorem createBody_taken {place : Place} (hl : bytes.length = 31) (hc : s.configured = true)
    (hid : (createRaw bytes).badIdentifier = false) (hp : s.createPlace kind number = some place)
    (hf : s.find (toolAt bytes) = none) (hcall : s.callFor (toolAt bytes) = none)
    (suits : s.createConflict place = false) (rows : s.freeRows ≠ 0) :
    createBody kind number bytes s = done ((s.putAt (createRaw bytes).hostIntake place).displaceRun place) := by
  rw [createBody_at hl hc hid hp, hf, hcall, suits, if_neg rows]
  rfl

end

end Sys2Proof.Machine

namespace Sys2Proof.Proofs

open Sys2Proof.Machine

/-- Settles O19, each clause by the body of CREATE on a free port. -/
theorem createMakesARecord : Obligations.CreateMakesARecord := by
  unfold Obligations.CreateMakesARecord
  refine ⟨fun kind number bytes s => ?_, fun bytes _ htool hcls => ?_, fun kind number bytes s hp hl => ?_⟩
  · intro tool image held hp hn hl htool hcls hf hcall rows
    have hc := State.configured_eq_true hn
    have hid := createRaw_badIdentifier.mpr ⟨htool, hcls⟩
    refine ⟨?_, fun k hkind hk unknown closed noCall => ?_, fun hkind hhead seat empty noCall => ?_⟩
    · rintro rfl
      exact hostCommand_ok hp (createBody_taken hl hc hid createPlace_nowhere hf hcall rfl rows)
    · subst hkind
      have suits : s.createConflict (.pocket number.toNat) = false := by
        simp [State.createConflict, hk, unknown, closed, Lock.isClosed, noCall]
      exact hostCommand_ok hp (createBody_taken hl hc hid (createPlace_pocket hk) hf hcall suits rows)
    · subst hkind
      have suits : s.createConflict .head = false := by
        simp [State.createConflict, seat, empty, noCall]
      have taken := createBody_taken hl hc hid (createPlace_head (number := number) hhead) hf hcall suits rows
      have placed : s.putAt (createRaw bytes).hostIntake .head = held .seated := rfl
      rw [placed] at taken
      have run : (held .seated).head = s.head := State.post_head _ _ _ _
      refine ⟨fun idle => hostCommand_ok hp (taken.trans ?_), fun n t d active => hostCommand_ok hp (taken.trans ?_)⟩
      · simp only [State.displaceRun, run, idle]
        rfl
      · simp only [State.displaceRun, State.endRun, State.idleRun, run, active]
        rfl
  · have hid := createRaw_badIdentifier.mpr ⟨htool, hcls⟩
    refine ⟨createRaw_not_fit, RawImage.hostIntake_inRange (RawImage.sized_of_base bytes none fun _ hm => nomatch hm) hid,
      rfl, fun limit => ?_⟩
    show clampNat 1 Config.lifeMax (field bytes 18 3) = 1
    rw [limit]
    rfl
  · refine ⟨fun hn => hostCommand_error hp (createBody_unconfigured hl (State.configured_eq_false hn)), fun hn => ?_⟩
    have hc := State.configured_eq_true hn
    refine ⟨fun bad => hostCommand_error hp (createBody_bad_identifier hl hc (createRaw_badIdentifier_true bad)),
      fun bad => hostCommand_error hp (createBody_no_place hl hc (createPlace_out_of_range bad)), ?_, ?_, ?_⟩
    · rintro rfl bad
      exact hostCommand_error hp (createBody_no_place hl hc (createPlace_no_pocket (State.pocket?_eq_none bad)))
    · rintro rfl bad
      exact hostCommand_error hp (createBody_no_place hl hc (createPlace_no_head bad))
    · intro htool hcls suits
      obtain ⟨place, hplace, conflict⟩ := createPlace_suits suits
      have body := createBody_at hl hc (createRaw_badIdentifier.mpr ⟨htool, hcls⟩) hplace
      refine ⟨fun hf => ?_, fun hf hcall => ?_, fun hf hcall bad => ?_, fun hf hcall good full => ?_⟩
      · exact hostCommand_error hp (body.trans (if_pos (Option.isSome_iff_ne_none.mpr hf)))
      · rw [hf] at body
        exact hostCommand_error hp (body.trans (if_pos (Option.isSome_iff_ne_none.mpr hcall)))
      · rw [hf, hcall] at body
        exact hostCommand_error hp (body.trans (if_pos (conflict.mpr bad)))
      · rw [hf, hcall, eq_false_of_ne_true (mt conflict.mp good), if_pos full] at body
        exact hostCommand_error hp body

end Sys2Proof.Proofs
end

section
/-! SUPPORT. The items of read responses: their widths and none forms (11.3, R188), and the searches behind the place in
the drive queue, the pull-in slot, the call of a slot and the pockets marked for a row (R103, R157, R174). -/

namespace Sys2Proof.Machine

/-! ### Items -/

@[simp] theorem beBytes_length (w n : Nat) : (beBytes w n).length = w := by
  induction w with
  | zero => rfl
  | succ w ih => rw [beBytes, List.length_cons, ih]

/-- One byte is sent as it stands. -/
theorem byte_toNat (b : Byte) : byte b.toNat = [b] := by
  simp [byte, beBytes]

@[simp] theorem byte_length (n : Nat) : (byte n).length = 1 := rfl
@[simp] theorem flagByte_length (b : Bool) : (flagByte b).length = 1 := rfl
@[simp] theorem wordBytes_length (w : BitVec 32) : (wordBytes w).length = 4 := rfl
@[simp] theorem tempBytes_length (t : Int) : (tempBytes t).length = 2 := rfl
@[simp] theorem noneBytes_length (w : Nat) : (noneBytes w).length = w := List.length_replicate
@[simp] theorem orZero_length (w : Nat) (v : Option Nat) : (orZero w v).length = w := beBytes_length _ _

@[simp] theorem orNone_length (w : Nat) (v : Option Nat) : (orNone w v).length = w := by
  cases v <;> simp [orNone]

@[simp] theorem orNoneTemp_length (t : Option Int) : (orNoneTemp t).length = 2 := by
  cases t <;> simp [orNoneTemp]

@[simp] theorem msLeftBytes_length (now : Millis) (d : Option Millis) : (msLeftBytes now d).length = 4 :=
  orNone_length _ _

@[simp] theorem functionsBytes_length (a : Option Announced) : (functionsBytes a).length = 3 := by
  cases a <;> rfl

@[simp] theorem lockLeft_length (b : Bank) (now : Millis) (p : Nat) (k : Pocket) : (b.lockLeft now p k).length = 4 := by
  unfold Bank.lockLeft
  split <;> simp

@[simp] theorem causeBytes_length (m : MagSlot) : m.causeBytes.length = 2 := by
  cases m with
  | refused c => cases c <;> rfl
  | _ => rfl

theorem imageBytes_length (i : Image) : (imageBytes i).length = if i.measured.isSome then 47 else 31 := by
  unfold imageBytes
  cases i.measured <;> simp

/-- Three bytes for each entry of a demand list. -/
theorem demandEntries_length (l : List DemandEntry) :
    (l.flatMap (fun e => beBytes 2 e.cls ++ byte e.count)).length = 3 * l.length := by
  induction l with
  | nil => rfl
  | cons e l ih =>
    rw [List.flatMap_cons, List.length_append, ih, List.length_cons]
    simp
    omega

/-- The milliseconds left of a deadline that has been reached are none (log 9). -/
theorem msLeft_reached {now d : Millis} (h : 0 ≤ (now - d).toInt) : msLeft now d = 0 :=
  if_pos (decide_eq_true h)

theorem msLeft_ahead {now d : Millis} (h : (now - d).toInt < 0) : msLeft now d = (d - now).toNat :=
  if_neg (by simpa only [reached, decide_eq_true_eq] using Int.not_le.mpr h)

/-! ### Searches -/

/-- The first element that satisfies a test is the one that none before it satisfies. -/
theorem findIdx?_of_first {α : Type} {p : α → Bool} {l : List α} {i : Nat} {a : α} (ha : l[i]? = some a)
    (hp : p a = true) (first : ∀ b ∈ l.take i, p b = false) : l.findIdx? p = some i := by
  obtain ⟨hi, e⟩ := List.getElem?_eq_some_iff.mp ha
  refine List.findIdx?_eq_some_iff_getElem.mpr ⟨hi, e ▸ hp, fun j hj => ?_⟩
  have before : l[j] ∈ l.take i := List.mem_take_iff_getElem.mpr ⟨j, by omega, rfl⟩
  simp [first _ before]

/-- The place of a pocket in the drive queue, 0 for none (R103). -/
theorem Bank.position_eq {b : Bank} {p place : Nat}
    (h : place = 0 ∧ p ∉ b.queue
      ∨ 0 < place ∧ b.queue[place - 1]? = some p ∧ p ∉ b.queue.take (place - 1)) :
    (b.position p).getD 0 = place := by
  unfold Bank.position
  obtain ⟨rfl, out⟩ | ⟨pos, here, first⟩ := h
  · rw [List.findIdx?_eq_none_iff.mpr fun q hq => by
      rw [beq_eq_false_iff_ne]
      exact fun e => out (e ▸ hq)]
    rfl
  · have found : b.queue.findIdx? (· == p) = some (place - 1) :=
      findIdx?_of_first here (beq_self_eq_true p) fun q hq => by
        rw [beq_eq_false_iff_ne]
        exact fun e => first (e ▸ hq)
    rw [found]
    exact Nat.sub_add_cancel pos

/-- What the search for a pocket's pull-in slot tests at a slot with its number (R90). -/
def pullInTest (p : Nat) (e : Option PullIn × Nat) : Option (Nat × PullIn) :=
  match e.1 with
  | some w => if w.pocket = p then some (e.2, w) else none
  | none => none

theorem Bank.pullInOf_eq (b : Bank) (p : Nat) : b.pullInOf p = (b.pullIns.zipIdx 1).findSome? (pullInTest p) := rfl

theorem findSome?_pullInTest_none {p : Nat} {l : List (Option PullIn)} (h : ∀ w, some w ∈ l → w.pocket ≠ p) (n : Nat) :
    (l.zipIdx n).findSome? (pullInTest p) = none := by
  refine List.findSome?_eq_none_iff.mpr fun ⟨q, i⟩ hq => ?_
  cases q with
  | none => rfl
  | some w => exact if_neg (h w (List.mem_of_getElem? (List.mk_mem_zipIdx_iff_le_and_getElem?_sub.mp hq).2))

theorem findSome?_pullInTest_some {p i : Nat} {l : List (Option PullIn)} {w : PullIn} (here : l[i]? = some (some w))
    (hw : w.pocket = p) (first : ∀ x, some x ∈ l.take i → x.pocket ≠ p) (n : Nat) :
    (l.zipIdx n).findSome? (pullInTest p) = some (n + i, w) := by
  induction l generalizing i n with
  | nil => simp at here
  | cons q l ih =>
    rw [List.zipIdx_cons, List.findSome?_cons]
    cases i with
    | zero =>
      obtain rfl : q = some w := by simpa using here
      simp [pullInTest, hw]
    | succ i =>
      have skipped : pullInTest p (q, n) = none := by
        cases q with
        | none => rfl
        | some x => exact if_neg (first x (by simp))
      rw [skipped]
      have rest := ih (by simpa using here) (fun x hx => first x (by simp [hx])) (n + 1)
      rw [rest, Nat.add_assoc, Nat.add_comm 1 i]

/-- The pull-in slot of a pocket with its deadline, 0 and none for none (R90, R103). -/
theorem Bank.pullInOf_cases {b : Bank} {p slot : Nat} {wait : Option PullIn}
    (h : slot = 0 ∧ wait = none ∧ (∀ w, some w ∈ b.pullIns → w.pocket ≠ p)
      ∨ 0 < slot ∧ b.pullIns[slot - 1]? = some wait ∧ (∃ w, wait = some w ∧ w.pocket = p)
        ∧ (∀ w, some w ∈ b.pullIns.take (slot - 1) → w.pocket ≠ p)) :
    ((b.pullInOf p).map (·.1)).getD 0 = slot ∧ (b.pullInOf p).map (·.2) = wait := by
  rw [Bank.pullInOf_eq]
  obtain ⟨rfl, rfl, out⟩ | ⟨pos, here, ⟨w, rfl, hw⟩, first⟩ := h
  · rw [findSome?_pullInTest_none out]
    exact ⟨rfl, rfl⟩
  · rw [findSome?_pullInTest_some here hw first]
    exact ⟨Nat.add_sub_cancel' pos, rfl⟩

/-- The call of a CALLING slot is the first open one for its tool (R145, R157). -/
theorem State.slotCall_calling {s : State} {tool : ToolId} {i : Nat} {c : CallSlot}
    (here : s.custody.calls[i]? = some (some c)) (hc : c.tool = tool)
    (first : ∀ x, some x ∈ s.custody.calls.take i → x.tool ≠ tool) : s.slotCall (.calling tool) = some c := by
  have index : s.callFor tool = some i := findIdx?_of_first here (by simpa using hc) fun x hx => by
    cases x with
    | none => rfl
    | some x => simpa using first x hx
  simp [State.slotCall, index, State.call?, here]

/-- What a mark of a row with a class stands on: a pocket that holds a record of that class (R166). -/
theorem markOf_iff {records : List ToolRecord} {row : Reservation} {k : Pocket} (h : row.cls ≠ 0) :
    markOf records row k = true ↔ k.reservedFor = some row.requester ∧ ∃ tool r, k.occupancy = .held tool
      ∧ records.find? (fun q => q.image.toolId == tool) = some r ∧ r.image.cls = row.cls := by
  unfold markOf classIn recordIn
  cases ho : k.occupancy with
  | held tool => cases hf : records.find? (fun q => q.image.toolId == tool) <;> simp [hf, h.symm]
  | _ => simp [h.symm]

/-- The numbers of the pockets marked for a row ascend. -/
theorem markedPockets_pairwise (records : List ToolRecord) (row : Reservation) (pockets : List Pocket) :
    (markedPockets records row pockets).Pairwise (· < ·) := by
  have numbers : ((numbered pockets).map (·.2)).Pairwise (· < ·) := by
    rw [numbered, List.zipIdx_map_snd]
    exact List.pairwise_lt_range'
  exact numbers.sublist (List.filter_sublist.map _)

/-- As many pockets are listed as are marked. -/
theorem markedPockets_length (records : List ToolRecord) (row : Reservation) (pockets : List Pocket) :
    (markedPockets records row pockets).length = marked records row pockets := by
  have split : pockets.countP (markOf records row)
      = ((numbered pockets).map (·.1)).countP (markOf records row) := by rw [numbered, List.zipIdx_map_fst]
  rw [markedPockets, List.length_map, marked, split, List.countP_map, List.countP_eq_length_filter]
  rfl

theorem State.mem_markedPockets {s : State} {row : Reservation} {p : Nat} :
    p ∈ markedPockets s.records row s.bank.pockets ↔
      ∃ k, s.pocket? p = some k ∧ markOf s.records row k = true := by
  simp only [markedPockets, numbered, List.mem_map, List.mem_filter, Prod.exists, exists_eq_right,
    List.mk_mem_zipIdx_iff_le_and_getElem?_sub, State.pocket?]
  cases p with
  | zero => simp
  | succ p => simp

/-- A list of pocket numbers that ascends and has the right members is the one that READ_RESERVATIONS sends. -/
theorem State.markedPockets_eq {s : State} {row : Reservation} {pockets : List Nat} (hcls : row.cls ≠ 0)
    (sorted : pockets.Pairwise (· < ·))
    (mem : ∀ p, p ∈ pockets ↔ ∃ k tool r, s.pocket? p = some k ∧ k.reservedFor = some row.requester
      ∧ k.occupancy = .held tool ∧ s.find tool = some r ∧ r.image.cls = row.cls) :
    markedPockets s.records row s.bank.pockets = pockets := by
  refine (markedPockets_pairwise _ _ _).eq_of_mem_iff sorted fun p => ?_
  rw [State.mem_markedPockets, mem]
  refine exists_congr fun k => ?_
  rw [markOf_iff hcls]
  constructor
  · rintro ⟨hk, hm, tool, r, rest⟩
    exact ⟨tool, r, hk, hm, rest⟩
  · rintro ⟨tool, r, hk, hm, rest⟩
    exact ⟨hk, hm, tool, r, rest⟩

end Sys2Proof.Machine
end

section
/-! SUPPORT. O24: the READ commands (R20, R21, R51, R103, R123, R143, R157, R173, R174). -/

namespace Sys2Proof.Machine

/-! ### What is answered -/

section
variable {s : State}

theorem readRecord_answers (h : s.PortFree) (hc : s.configured = true) {tool : ToolId} {r : ToolRecord} (ht : tool ≠ 0)
    (hf : s.find tool = some r) : execReadRecord tool s = .next (s.answered .ok (readRecordPayload r)) :=
  hostCommand_ok h (by simp only [readRecordBody, hc, ht, hf]; rfl)

theorem listRecords_answers (h : s.PortFree) (hc : s.configured = true) (b : Byte) :
    execListRecords b s = .next (s.answered .ok (listPayload s.records b.toNat)) :=
  hostCommand_ok h (by simp [listRecordsBody, hc])

theorem readPeer_answers (h : s.PortFree) (hc : s.configured = true) {b : Byte} {p : Peer} (h1 : 1 ≤ b.toNat)
    (h62 : b.toNat ≤ 62) (hp : s.roster.peers[b.toNat - 1]? = some p) :
    execReadPeer b s = .next (s.answered .ok (peerPayload s.now p)) := by
  have peer : s.peer? b.toNat = some p := (if_neg (Nat.one_le_iff_ne_zero.mp h1)).trans hp
  have station : stationOk b = true := by simp [stationOk, h1, h62]
  exact hostCommand_ok h (by simp [readPeerBody, hc, station, peer])

theorem readPocket_answers (h : s.PortFree) (hc : s.configured = true) {b : Byte} {k : Pocket}
    (hk : s.pocket? b.toNat = some k) :
    execReadPocket b s = .next (s.answered .ok (pocketPayload s b.toNat k)) :=
  hostCommand_ok h (by simp [readPocketBody, hc, hk])

theorem readPanel_answers (h : s.PortFree) (hc : s.configured = true) {b : Byte} {i : PanelId} (hi : panelOf b = some i)
    (pockets : s.config.pocketCount ≠ 0) :
    execReadPanel b s = .next (s.answered .ok (panelPayload s.now (s.panel i))) :=
  hostCommand_ok h (by simp [readPanelBody, hc, hi, pockets])

theorem readReservations_answers (h : s.PortFree) (hc : s.configured = true) : execReadReservations s =
    .next (s.answered .ok (byte s.reservations.length ++ s.reservations.flatMap (rowBytes s))) :=
  hostCommand_ok h (by simp [readReservationsBody, hc])

theorem readHead_answers (h : s.PortFree) (hc : s.configured = true) (head : s.config.head = true) :
    execReadHead s = .next (s.answered .ok (headPayload s)) :=
  hostCommand_ok h (by simp [readHeadBody, hc, head])

theorem readSlot_answers (h : s.PortFree) (hc : s.configured = true) {b : Byte} {m : MagSlot}
    (hm : s.slot? b.toNat = some m) : execReadSlot b s = .next (s.answered .ok (slotPayload s m)) :=
  hostCommand_ok h (by simp [readSlotBody, hc, hm])

theorem readDemand_answers (h : s.PortFree) (hc : s.configured = true) (slots : s.config.slotCount ≠ 0) :
    execReadDemand s = .next (s.answered .ok (demandPayloadOf s)) :=
  hostCommand_ok h (by simp [readDemandBody, hc, State.noSlots, slots])

end

/-! ### Lengths -/

/-- What follows the image in READ_RECORD has 9 bytes. -/
theorem readRecordPayload_length (r : ToolRecord) :
    (readRecordPayload r).length = if r.image.measured.isSome then 56 else 40 := by
  simp only [readRecordPayload, List.length_append, imageBytes_length, byte_length, orZero_length, orNone_length,
    flagByte_length]
  split <;> rfl

/-- What follows the image of an IN_DOUBT record. -/
theorem readRecordPayload_inDoubt {r : ToolRecord} {c : CustodyPart} {p : Prior} {d : Option Millis}
    (h : r.state = .inDoubt c p d) :
    (readRecordPayload r).drop (if r.image.measured.isSome then 47 else 31) =
      byte 8 ++ byte 0 ++ byte 0 ++ byte c.counterpart ++ byte c.handoff.toNat
        ++ byte (if p = .loose then 5 else 6) ++ byte (if d.isSome then 1 else 0)
        ++ byte r.image.conditionsByte ++ byte r.image.unfitCode := by
  rw [← imageBytes_length]
  simp only [readRecordPayload, h, List.append_assoc, List.drop_left]
  cases p <;> rfl

/-! ### Items that stand together -/

/-- Two items that are spelled together, in front of the rest. -/
theorem append_chunk {α : Type} {a b m : List α} (h : a ++ b = m) (rest : List α) : a ++ (b ++ rest) = m ++ rest := by
  rw [← List.append_assoc, h]

/-- The state, place and custody items of a record, with whether a check is outstanding (R20). -/
theorem recordState_items (st : RecordState) :
    byte st.code ++ (byte st.placeCode.1 ++ (byte st.placeCode.2 ++ (orZero 1 (st.custodyPart.map (·.counterpart))
      ++ (orNone 1 (st.custodyPart.map (·.handoff.toNat)) ++ (orNone 1 (st.prior.map Prior.code)
        ++ flagByte st.check.isSome)))))
    = match st with
      | .stocked p => [1, 1] ++ byte p ++ [0, 255, 255, 0]
      | .loaded n => [2, 2] ++ byte n ++ [0, 255, 255, 0]
      | .seated => [3, 3, 0, 0, 255, 255, 0]
      | .measuring => [4, 3, 0, 0, 255, 255, 0]
      | .loose => [5, 0, 0, 0, 255, 255, 0]
      | .missing => [6, 0, 0, 0, 255, 255, 0]
      | .outbound c p => [7, 0, 0] ++ (byte c.counterpart ++ [c.handoff, if p = .loose then 5 else 6]) ++ [0]
      | .inDoubt c p d => [8, 0, 0] ++ (byte c.counterpart ++ [c.handoff, if p = .loose then 5 else 6])
          ++ flagByte d.isSome := by
  have handoff : ∀ c : CustodyPart, orNone 1 (some c.handoff.toNat) = [c.handoff] := fun c => byte_toNat _
  cases st with
  | outbound c p =>
    simp only [RecordState.custodyPart, Option.map_some, handoff]
    cases p <;> rfl
  | inDoubt c p d =>
    simp only [RecordState.custodyPart, Option.map_some, handoff]
    cases p <;> rfl
  | _ => rfl

/-- The occupancy and the tool id of a pocket (R103). -/
theorem occupancy_items (o : Occupancy) :
    byte o.code ++ orZero 4 (o.tool.map BitVec.toNat) = match o with
      | .empty => [0, 0, 0, 0, 0]
      | .held tool => [1] ++ wordBytes tool
      | .unknown => [2, 0, 0, 0, 0] := by
  cases o <;> rfl

/-- The open purpose and the panel of a lock (R103). -/
theorem opening_items (l : Lock) :
    orNone 1 (l.opening.map (·.purpose.code)) ++ orZero 1 (l.opening.map (fun w => panelCode w.panel)) = match l with
      | .closed => [255, 0]
      | .queued why | .pulling why _ | .holding why _ => byte why.purpose.code ++ byte (panelCode why.panel) := by
  cases l <;> rfl

/-- The milliseconds left at a pocket's lock, given the pull-in that it waits for (R103). -/
theorem lockLeft_item {b : Bank} {p : Nat} {wait : Option PullIn} (h : (b.pullInOf p).map (·.2) = wait) (now : Millis)
    (k : Pocket) : b.lockLeft now p k = match k.lock with
      | .pulling _ _ => msLeftBytes now (wait.map (·.deadline))
      | .holding _ d => msLeftBytes now (some d)
      | _ => msLeftBytes now none := by
  unfold Bank.lockLeft
  cases k.lock with
  | pulling why seen => rw [← h, Option.map_map]; rfl
  | _ => rfl

/-- The access window of a panel, in front of the rest (R123). -/
theorem window_items (now : Millis) (w : Option Window) (rest : List Byte) :
    orNone 1 (w.map (·.privilege.code)) ++ (orZero 1 (w.map (·.entry)) ++ (msLeftBytes now (w.map (·.expiry)) ++ rest)) =
      (match w with
        | none => [255, 0, 255, 255, 255, 255]
        | some w => byte w.privilege.code ++ byte w.entry ++ msLeftBytes now (some w.expiry)) ++ rest := by
  cases w <;> rfl

/-- The operation of a panel, an ISSUE's class and for-station last (R123, log 25). -/
theorem operation_items (o : Option Operation) :
    orNone 1 (o.map (·.kind.purpose.code)) ++ (orNone 1 (o.map (·.phase)) ++ (opPocketBytes o
      ++ (orNone 2 (o.bind (·.cls)) ++ orZero 1 (o.bind (·.forStation))))) = match o with
      | none => [255, 255, 0, 255, 255, 0]
      | some o => byte o.kind.purpose.code ++ byte o.phase ++ byte o.pockets.length
          ++ o.pockets.flatMap (fun q => byte q.pocket ++ q.status.bytes)
          ++ (match o.kind with
            | .issue cls station => beBytes 2 cls ++ byte station
            | _ => [255, 255, 0]) := by
  cases o with
  | none => rfl
  | some o =>
    have last : orNone 2 o.cls ++ orZero 1 o.forStation = match o.kind with
        | .issue cls station => beBytes 2 cls ++ byte station
        | _ => [255, 255, 0] := by
      unfold Operation.cls Operation.forStation
      cases o.kind <;> rfl
    simp only [Option.map_some, Option.bind_some, last, opPocketBytes, List.append_assoc]
    rfl

/-- The run of the measuring head, in front of the rest (R143). -/
theorem run_items (now : Millis) (samples : Nat) (run : Option Run) (rest : List Byte) :
    byte (runCode run) ++ (orNone 1 (run.map (·.n)) ++ (orNoneTemp (run.map (·.t))
      ++ (orZero 1 (run.map (fun _ => samples)) ++ (msLeftBytes now (run.map (·.deadline))
        ++ (orZero 4 ((runTool run).map BitVec.toNat) ++ rest))))) = (match run with
      | none => [0, 255, 255, 255, 0, 255, 255, 255, 255, 0, 0, 0, 0]
      | some run =>
        let common := byte run.n ++ tempBytes run.t ++ byte samples ++ msLeftBytes now (some run.deadline)
        match run.kind with
        | .reference => [1] ++ common ++ [0, 0, 0, 0]
        | .measurement tool => [2] ++ common ++ wordBytes tool) ++ rest := by
  rcases run with _ | ⟨kind, n, t, d⟩
  · rfl
  · cases kind <;> simp only [Option.map_some, Option.map_none, runTool, List.append_assoc] <;> rfl

theorem headTool_item (r : Option ToolRecord) : wordBytes (headTool r) = match r with
    | none => [0, 0, 0, 0]
    | some r => wordBytes r.image.toolId := by
  cases r <;> rfl

/-- The mode and the interval of the sequencer (R173, log 17). -/
theorem mode_items (m : DemandMode) : byte m.code ++ orNone 1 m.seconds = match m with
    | .interval n => [1] ++ byte n
    | .trigger => [2, 255] := by
  cases m <;> rfl

/-- The items of READ_SLOT about the record of a LOADED slot (R157). -/
def toolItems (i : Option Image) : List Byte :=
  orZero 4 (i.map (·.toolId.toNat)) ++ orNone 3 (i.map (·.lifeLimit)) ++ orNone 3 (i.map (·.lifeUsed))
    ++ orNone 3 (i.map Image.remaining) ++ orNone 1 (i.map Image.conditionsByte) ++ orZero 1 (i.map Image.unfitCode)

/-- The items of READ_SLOT about the call of a CALLING slot (R157). -/
def callItems (now : Millis) (c : Option CallSlot) : List Byte :=
  orZero 4 (c.map (·.tool.toNat)) ++ orZero 1 (c.map (·.tries)) ++ msLeftBytes now (c.map (·.deadline))

theorem slotPayload_eq (s : State) (m : MagSlot) : slotPayload s m =
    byte m.code ++ toolItems ((s.slotRecord m).map (·.image)) ++ callItems s.now (s.slotCall m) ++ m.causeBytes := by
  simp only [slotPayload, toolItems, callItems, List.append_assoc]

theorem toolItems_none : toolItems none = [0, 0, 0, 0] ++ List.replicate 10 255 ++ [0] := rfl

theorem toolItems_some (i : Image) : toolItems (some i) = wordBytes i.toolId ++ beBytes 3 i.lifeLimit
    ++ beBytes 3 i.lifeUsed ++ beBytes 3 (i.lifeLimit - i.lifeUsed) ++ (byte i.conditionsByte ++ byte i.unfitCode) := by
  simp only [toolItems, ← List.append_assoc]
  rfl

theorem callItems_none (now : Millis) : callItems now none = [0, 0, 0, 0, 0, 255, 255, 255, 255] := rfl

theorem callItems_some (now : Millis) (c : CallSlot) :
    callItems now (some c) = wordBytes c.tool ++ byte c.tries ++ msLeftBytes now (some c.deadline) := rfl

/-- The bytes of a slot that has neither a record nor a call (R157). -/
theorem slotPayload_bare {s : State} {m : MagSlot} (hr : s.slotRecord m = none) (hc : s.slotCall m = none) :
    slotPayload s m = byte m.code ++ ([0, 0, 0, 0] ++ List.replicate 10 255 ++ [0])
      ++ [0, 0, 0, 0, 0, 255, 255, 255, 255] ++ m.causeBytes := by
  rw [slotPayload_eq, hr, hc, callItems_none]
  rfl

end Sys2Proof.Machine

namespace Sys2Proof.Proofs

open Sys2Proof.Machine

/-- Settles O24: each READ is its payload through the port (`readRecord_answers` and its siblings), and a payload is
spelled by the lemma of each of its items; the codes of 11.3 come first, one `have` for each. -/
theorem readsChangeNothing : Obligations.ReadsChangeNothing := by
  unfold Obligations.ReadsChangeNothing
  refine ⟨fun s hp hn => ?_, ⟨?_, ?_, ?_, ?_, ?_, ?_, ?_⟩, fun now d => ⟨msLeft_reached, msLeft_ahead⟩, ?_⟩
  · have hc := State.configured_eq_true hn
    exact ⟨fun tool r => readRecord_answers hp hc, listRecords_answers hp hc, fun b p => readPeer_answers hp hc,
      fun b k => readPocket_answers hp hc, fun b i => readPanel_answers hp hc, readReservations_answers hp hc,
      readHead_answers hp hc, fun b m => readSlot_answers hp hc, readDemand_answers hp hc⟩
  · exact fun r => ⟨readRecordPayload_length r, fun c p d => readRecordPayload_inDoubt⟩
  · refine fun now p => ⟨by simp [peerPayload], fun h => ?_, fun h => ?_⟩
    · rw [peerPayload, h]
      rfl
    · simp only [peerPayload, h, List.append_assoc]
      cases p.announced <;> rfl
  · refine fun s p k => ⟨by simp [pocketPayload], fun h => ?_⟩
    simp only [pocketPayload, Bank.lockLeft, h]
    rfl
  · intro now p h
    simp [panelPayload, h, opPocketBytes]
  · intro s
    simp [headPayload]
  · intro s m
    simp [slotPayload]
  · intro s
    simp only [demandPayloadOf, List.length_append, demandEntries_length, byte_length, flagByte_length, orNone_length,
      msLeftBytes_length]
    omega
  · intro flag left reading purpose panel heard phase fault privilege operation report verdict blocked unfit fitness
    have flag_eq : ∀ b, flagByte b = [flag b] := fun b => by cases b <;> rfl
    have left_eq : ∀ now d, msLeftBytes now d = left now d := fun now d => by cases d <;> rfl
    have reading_eq : ∀ r : Reading, byte r.code = [reading r] := fun r => by cases r <;> rfl
    have fitness_eq : ∀ i : Image, byte i.conditionsByte ++ byte i.unfitCode = fitness i := fun i => by
      have reason : byte i.unfitCode = [match i.unfitReason with | none => 0 | some r => unfit r] := by
        unfold Image.unfitCode
        cases i.unfitReason with
        | none => rfl
        | some r => cases r <;> rfl
      rw [reason]
      rfl
    refine ⟨fun i => ?_, fun r => ?_, fun now p => ?_, fun s p k place slot wait hplace hslot => ?_, fun now p => ?_,
      fun s => ?_, fun s => ⟨?_, fun cause => ?_, fun tool r hf => ?_, fun tool i c here hc first => ?_⟩, fun s => ?_,
      fun s row pockets hcls sorted mem => ?_⟩
    · have verdict_eq : ∀ v : Verdict, byte v.code = [verdict v] := fun v => by cases v <;> rfl
      unfold imageBytes
      cases i.measured with
      | none => rfl
      | some m => simp only [tempBytes, verdict_eq]
    · calc
        readRecordPayload r = imageBytes r.image ++ (byte r.state.code ++ (byte r.state.placeCode.1
            ++ (byte r.state.placeCode.2 ++ (orZero 1 (r.state.custodyPart.map (·.counterpart))
              ++ (orNone 1 (r.state.custodyPart.map (·.handoff.toNat)) ++ (orNone 1 (r.state.prior.map Prior.code)
                ++ flagByte r.state.check.isSome))))))
            ++ (byte r.image.conditionsByte ++ byte r.image.unfitCode) := by
          simp only [readRecordPayload, List.append_assoc]
        _ = _ := by
          rw [recordState_items, fitness_eq]
          cases r.state <;> simp only [flag_eq]
    · have heard_eq : ∀ v : PeerState, byte v.code = [heard v] := fun v => by cases v <;> rfl
      simp only [peerPayload, heard_eq, left_eq, flag_eq]
      cases p.announced <;> rfl
    · obtain ⟨slot_eq, wait_eq⟩ := Bank.pullInOf_cases hslot
      have place_eq : orZero 1 (s.bank.position p) = byte place := congrArg byte (Bank.position_eq hplace)
      have pullIn_eq : orZero 1 ((s.bank.pullInOf p).map (·.1)) = byte slot := congrArg byte slot_eq
      have phase_eq : ∀ l : Lock, byte l.code = [phase l] := fun l => by cases l <;> rfl
      have fault_eq : ∀ f : LockFault, byte f.code = [fault f] := fun f => by cases f <;> rfl
      have purpose_eq : ∀ o : OpenPurpose, byte o.code = [purpose o] := fun o => by cases o <;> rfl
      have panel_eq : ∀ i : PanelId, byte (panelCode i) = [panel i] := fun i => by cases i <;> rfl
      have supply_eq : ∀ v : Supply, byte v.code = [flag (v == .low)] := fun v => by cases v <;> rfl
      simp only [pocketPayload, List.append_assoc, append_chunk (occupancy_items _), append_chunk (opening_items _),
        lockLeft_item wait_eq, place_eq, pullIn_eq, reading_eq, phase_eq, fault_eq, purpose_eq, panel_eq, supply_eq,
        left_eq]
      rfl
    · have privilege_eq : ∀ v : Privilege, byte v.code = [privilege v] := fun v => by cases v <;> rfl
      have operation_eq : ∀ k : OpKind, byte k.purpose.code = [operation k] := fun k => by cases k <;> rfl
      have phase_eq : ∀ o : Operation, byte o.phase = [if o.pockets.any (·.reachedOpen) then 2 else 1] := fun o => by
        unfold Operation.phase
        split <;> rfl
      have status_eq : ∀ v : PocketStatus, v.bytes = match v with
          | .waiting => [0, 0]
          | .opened => [1, 0]
          | .ended r => [2, report r] := fun v => by
        cases v with
        | ended r => cases r <;> rfl
        | _ => rfl
      simp only [panelPayload, List.append_assoc, operation_items, window_items]
      simp only [left_eq, privilege_eq, operation_eq, phase_eq, status_eq]
      cases p.operation <;> rfl
    · simp only [headPayload, List.append_assoc, run_items]
      simp only [headTool_item, reading_eq, left_eq, flag_eq]
      rcases s.head.run with _ | ⟨kind, n, t, d⟩
      · rfl
      · cases kind <;> rfl
    · exact slotPayload_bare rfl rfl
    · have cause_eq : (MagSlot.refused cause).causeBytes = match cause with
          | .unfit r => [1, unfit r]
          | .noAnswer => [2, 0]
          | .blocked r => [3, blocked r]
          | .abandoned => [4, 0]
          | .dropped => [5, 0] := by
        cases cause with
        | unfit r => cases r <;> rfl
        | blocked r => cases r <;> rfl
        | _ => rfl
      rw [slotPayload_bare rfl rfl, cause_eq]
      rfl
    · obtain rfl := State.find_toolId hf
      have found : s.slotRecord (.loaded r.image.toolId) = some r := hf
      have noCall : s.slotCall (.loaded r.image.toolId) = none := rfl
      rw [slotPayload_eq, found, noCall, Option.map_some, toolItems_some, callItems_none, fitness_eq]
      simp only [List.append_assoc]
      rfl
    · subst hc
      have noRecord : (s.slotRecord (.calling c.tool)).map (·.image) = none := rfl
      rw [slotPayload_eq, noRecord, toolItems_none, State.slotCall_calling here rfl first, callItems_some, left_eq]
      simp only [List.append_assoc]
      rfl
    · simp only [demandPayloadOf, List.append_assoc, append_chunk (mode_items _), left_eq, flag_eq]
      rfl
    · rw [rowBytes, left_eq, ← State.markedPockets_eq hcls sorted mem, markedPockets_length]

end Sys2Proof.Proofs
end

section
/-! SUPPORT. The transmit queue: where an offered frame joins, which frame is the displacement candidate, what an offer
and the start of an attempt do (R29, R33, R34). -/

namespace Sys2Proof.Machine

/-! ### Attempts -/

theorem Line.attempting_iff {l : Line} : l.attempting = true ↔ ∃ g ∈ l.txQueue, g.sending = true := List.any_eq_true

theorem Line.attempting_eq_false {l : Line} : l.attempting = false ↔ ∀ g ∈ l.txQueue, g.sending = false := by
  simp [Line.attempting]

theorem Line.attempting_iff_sendingCount {l : Line} : l.attempting = true ↔ 0 < l.sendingCount := by
  rw [Line.attempting_iff, Line.sendingCount, List.countP_pos_iff]

/-- A waiting frame on an idle line is attempted (R29). -/
theorem State.startAttempt_idle {s : State} (online : s.port.nodeState = .online) (idle : s.line.condition = .idle)
    (driver : s.line.driverDisabled = false) (none : s.line.attempting = false) (waits : s.line.txQueue ≠ []) :
    s.startAttempt = { s with line := { s.line with
      condition := .transmitting, receiver := .assembling, txQueue := sendHead s.line.txQueue } } := by
  unfold State.startAttempt State.online
  rw [if_pos (by simp [online, idle, driver, none, waits])]

/-- No attempt starts on a busy line, with a disabled driver, or beside another attempt (R29). -/
theorem State.startAttempt_busy {s : State}
    (h : s.line.condition ≠ .idle ∨ s.line.driverDisabled = true ∨ s.line.attempting = true) : s.startAttempt = s := by
  unfold State.startAttempt
  rw [if_neg (by rcases h with h | h | h <;> simp [h])]

/-- The start of an attempt looks at the line and the node state only, and a notice touches neither. -/
theorem State.startAttempt_postDiscarded (s : State) (f : TxFrame) (c : DiscardCause) :
    (s.postDiscarded f c).startAttempt = s.startAttempt.postDiscarded f c := by
  unfold State.startAttempt State.postDiscarded State.post State.online
  split <;> split <;> rfl

/-! ### Joining the queue -/

theorem insertFrame_perm (q : List TxFrame) (f : TxFrame) : (insertFrame q f).Perm (f :: q) := by
  induction q with
  | nil => exact .refl _
  | cons g q ih =>
    unfold insertFrame
    split
    · exact (ih.cons g).trans (.swap f g q)
    · exact .refl _

/-- A frame joins an ordered queue behind its own class and the lower class numbers (R33). -/
theorem insertFrame_eq {q : List TxFrame} (ordered : q.Pairwise (fun f g => f.kind.cls ≤ g.kind.cls)) (f : TxFrame) :
    ∃ front back, q = front ++ back ∧ insertFrame q f = front ++ f :: back
      ∧ (∀ g ∈ front, g.kind.cls ≤ f.kind.cls) ∧ (∀ g ∈ back, f.kind.cls < g.kind.cls) := by
  induction q with
  | nil => exact ⟨[], [], rfl, rfl, by simp, by simp⟩
  | cons g q ih =>
    obtain ⟨first, rest⟩ := List.pairwise_cons.mp ordered
    unfold insertFrame
    split
    · next le =>
      obtain ⟨front, back, rfl, e, low, high⟩ := ih rest
      exact ⟨g :: front, back, rfl, by rw [e]; rfl, by simpa [le] using low, high⟩
    · next gt =>
      refine ⟨[], g :: q, rfl, rfl, by simp, fun x hx => ?_⟩
      obtain rfl | hx := List.mem_cons.mp hx
      · omega
      · have := first x hx
        omega

theorem insertFrame_ordered {q : List TxFrame} (ordered : q.Pairwise (fun f g => f.kind.cls ≤ g.kind.cls))
    (f : TxFrame) : (insertFrame q f).Pairwise (fun f g => f.kind.cls ≤ g.kind.cls) := by
  obtain ⟨front, back, rfl, e, low, high⟩ := insertFrame_eq ordered f
  obtain ⟨hfront, hback, across⟩ := List.pairwise_append.mp ordered
  rw [e]
  refine List.pairwise_append.mpr ⟨hfront, List.pairwise_cons.mpr ⟨fun g hg => (high g hg).le, hback⟩, ?_⟩
  intro g hg x hx
  obtain rfl | hx := List.mem_cons.mp hx
  · exact low g hg
  · exact across g hg x hx

/-! ### The displacement candidate -/

theorem splitCandidate_none {q : List TxFrame} (h : ∀ g ∈ q, g.sending = true) : splitCandidate q = none := by
  induction q with
  | nil => rfl
  | cons f q ih =>
    obtain ⟨first, rest⟩ := List.forall_mem_cons.mp h
    simp [splitCandidate, ih rest, first]

/-- The candidate is the last frame that is not in transmission (R34). -/
theorem splitCandidate_append (front : List TxFrame) {c : TxFrame} {back : List TxFrame} (hc : c.sending = false)
    (hback : ∀ g ∈ back, g.sending = true) : splitCandidate (front ++ c :: back) = some (c, front ++ back) := by
  induction front with
  | nil => simp [splitCandidate, splitCandidate_none hback, hc]
  | cons f front ih => simp [splitCandidate, ih]

/-- Every frame is in transmission, or one is the candidate. -/
theorem candidate_or (q : List TxFrame) : (∀ g ∈ q, g.sending = true)
    ∨ ∃ front c back, q = front ++ c :: back ∧ c.sending = false ∧ ∀ g ∈ back, g.sending = true := by
  induction q with
  | nil => exact .inl (by simp)
  | cons f q ih =>
    obtain all | ⟨front, c, back, rfl, hc, hback⟩ := ih
    · cases hf : f.sending
      · exact .inr ⟨[], f, q, rfl, hf, all⟩
      · exact .inl (by simpa [hf] using all)
    · exact .inr ⟨f :: front, c, back, rfl, hc, hback⟩

/-! ### Offering a frame -/

section
variable {s : State} {f : TxFrame}

/-- A queue with room takes the frame (R33). -/
theorem State.offerFrame_room (online : s.port.nodeState = .online) (room : s.line.txQueue.length < Config.txMax) :
    s.offerFrame f = State.startAttempt { s with line.txQueue := insertFrame s.line.txQueue f } := by
  unfold State.offerFrame State.online
  rw [if_neg (by simp [online]), if_pos room]

/-- At a full queue a frame of a lower class number displaces the candidate (R34). -/
theorem State.offerFrame_displaces {front back : List TxFrame} {c : TxFrame} (online : s.port.nodeState = .online)
    (full : Config.txMax ≤ s.line.txQueue.length) (queue : s.line.txQueue = front ++ c :: back) (hc : c.sending = false)
    (hback : ∀ g ∈ back, g.sending = true) (lower : f.kind.cls < c.kind.cls) :
    s.offerFrame f = State.startAttempt
      ({ s with line.txQueue := insertFrame (front ++ back) f }.postDiscarded c .queueFull) := by
  unfold State.offerFrame State.online
  rw [if_neg (by simp [online]), if_neg (Nat.not_lt.mpr full), queue, splitCandidate_append front hc hback]
  simp only [lower, if_true]

/-- At a full queue a frame that displaces nothing is discarded (R34). -/
theorem State.offerFrame_discarded (online : s.port.nodeState = .online) (full : Config.txMax ≤ s.line.txQueue.length)
    (none : ∀ front c back, s.line.txQueue = front ++ c :: back → c.sending = false →
      (∀ g ∈ back, g.sending = true) → c.kind.cls ≤ f.kind.cls) : s.offerFrame f = s.postDiscarded f .queueFull := by
  unfold State.offerFrame State.online
  rw [if_neg (by simp [online]), if_neg (Nat.not_lt.mpr full)]
  obtain all | ⟨front, c, back, queue, hc, hback⟩ := candidate_or s.line.txQueue
  · rw [splitCandidate_none all]
  · have higher := none front c back queue hc hback
    rw [queue, splitCandidate_append front hc hback]
    simp only [Nat.not_lt.mpr higher, if_false]

/-- What an offer can do: nothing, a frame joins, a frame is displaced, or the frame is discarded. -/
theorem State.offerFrame_cases (s : State) (f : TxFrame) :
    s.offerFrame f = s
    ∨ (s.port.nodeState = .online ∧ s.line.txQueue.length < Config.txMax
      ∧ s.offerFrame f = State.startAttempt { s with line.txQueue := insertFrame s.line.txQueue f })
    ∨ (∃ front c back, s.port.nodeState = .online ∧ s.line.txQueue = front ++ c :: back
      ∧ s.offerFrame f = State.startAttempt
        ({ s with line.txQueue := insertFrame (front ++ back) f }.postDiscarded c .queueFull))
    ∨ s.offerFrame f = s.postDiscarded f .queueFull := by
  by_cases online : s.port.nodeState = .online
  · by_cases room : s.line.txQueue.length < Config.txMax
    · exact .inr (.inl ⟨online, room, State.offerFrame_room online room⟩)
    · have full := Nat.not_lt.mp room
      by_cases lower : ∃ front c back, s.line.txQueue = front ++ c :: back ∧ c.sending = false
          ∧ (∀ g ∈ back, g.sending = true) ∧ f.kind.cls < c.kind.cls
      · obtain ⟨front, c, back, queue, hc, hback, lower⟩ := lower
        exact .inr (.inr (.inl ⟨front, c, back, online, queue,
          State.offerFrame_displaces online full queue hc hback lower⟩))
      · refine .inr (.inr (.inr (State.offerFrame_discarded online full fun front c back queue hc hback => ?_)))
        exact Nat.not_lt.mp fun lt => lower ⟨front, c, back, queue, hc, hback, lt⟩
  · exact .inl (State.offerFrame_offline online f)

end

end Sys2Proof.Machine
end

section
/-! SUPPORT. The laws of sizes, reservation rows, line and port as one relation between two states, and what the
operations that all blocks share keep of them. -/

namespace Sys2Proof.Machine

/-! ### The relation -/

/-- The second state meets each law of sizes, rows, line and port that the first one meets, and holds no reset that the
first one does not. The port law needs the line law: an attempt runs at an ONLINE node only. -/
structure Upholds (s t : State) : Prop where
  sized : s.Sized → t.Sized
  rows : s.ReservationLaw → t.ReservationLaw
  line : s.LineLaw → t.LineLaw
  port : s.LineLaw → s.PortLaw → t.PortLaw
  reset : t.port.resetHeld = true → s.port.resetHeld = true

theorem Upholds.refl (s : State) : Upholds s s := ⟨id, id, id, fun _ => id, id⟩

theorem Upholds.trans {s t u : State} (h : Upholds s t) (h' : Upholds t u) : Upholds s u where
  sized hs := h'.sized (h.sized hs)
  rows hs := h'.rows (h.rows hs)
  line hs := h'.line (h.line hs)
  port hl hp := h'.port (h.line hl) (h.port hl hp)
  reset hu := h.reset (h'.reset hu)

/-- The line law sees the line and the node state. -/
theorem State.LineLaw.congr {s t : State} (h : s.LineLaw) (line : t.line = s.line)
    (node : t.port.nodeState = s.port.nodeState) : t.LineLaw where
  silent ht := by rw [line]; exact h.silent (node ▸ ht)
  ordered := line ▸ h.ordered
  oneAttempt := line ▸ h.oneAttempt
  transmitting := line ▸ h.transmitting

/-- The port law sees the line and the port. -/
theorem State.PortLaw.congr {s t : State} (h : s.PortLaw) (line : t.line = s.line) (port : t.port = s.port) :
    t.PortLaw where
  held := by rw [line, port]; exact h.held
  slot := by rw [port]; exact h.slot
  station := by rw [port]; exact h.station
  quiet := by rw [line, port]; exact h.quiet
  source w := by
    have driven : t.driven = s.driven := by simp only [State.driven, line, port]
    rw [driven, line, port]
    exact h.source w

section
variable {s t u : State}

/-- Where line and port stay, the sizes and the rows are what is left to keep. -/
theorem Upholds.aside (line : u.line = t.line) (port : u.port = t.port) (sized : t.Sized → u.Sized)
    (rows : t.ReservationLaw → u.ReservationLaw) : Upholds t u where
  sized := sized
  rows := rows
  line h := h.congr line (by rw [port])
  port _ h := h.congr line port
  reset h := by rwa [port] at h

theorem State.ReservationLaw.congr (h : s.ReservationLaw) (rows : t.reservations = s.reservations) :
    t.ReservationLaw where
  oneEach := by rw [rows]; exact h.oneEach
  wanted := by rw [rows]; exact h.wanted

/-- A change outside the blocks that the laws see. -/
theorem Upholds.frame (h : Upholds s t) (line : u.line = t.line := by simp) (port : u.port = t.port := by simp)
    (notices : u.notices = t.notices := by simp) (roster : u.roster = t.roster := by simp)
    (custody : u.custody = t.custody := by simp) (pullIns : u.bank.pullIns = t.bank.pullIns := by simp)
    (rows : u.reservations = t.reservations := by simp) : Upholds s u := by
  refine h.trans (.aside line port (fun z => ?_) fun z => z.congr rows)
  obtain ⟨z1, z2, z3, z4, z5, z6, z7, z8, z9⟩ := z
  constructor <;> simpa only [line, notices, roster, custody, pullIns, rows]

/-! ### Notices, records, places -/

theorem Upholds.post (h : Upholds s t) {k : NoticeKind} {o a : BitVec 32} : Upholds s (t.post k o a) := by
  refine h.trans (.aside (by simp) (by simp) (fun z => ?_) fun z => z.congr (by simp))
  obtain ⟨z1, z2, z3, z4, z5, z6, z7, z8, z9⟩ := z
  constructor
  case notices =>
    unfold State.post
    split
    · next room =>
      simp only [List.length_append, List.length_singleton]
      omega
    · exact z1
  all_goals simpa

theorem Upholds.postDiscarded (h : Upholds s t) {f : TxFrame} {c : DiscardCause} : Upholds s (t.postDiscarded f c) :=
  h.post

theorem Upholds.postChanged (h : Upholds s t) {tool : ToolId} : Upholds s (t.postChanged tool) := by
  unfold State.postChanged
  split
  · exact h
  · exact h.post

theorem Upholds.postIf (h : Upholds s t) {c : Bool} {k : NoticeKind} {o a : BitVec 32} :
    Upholds s (t.postIf c k o a) := by
  unfold State.postIf
  split
  · exact h.post
  · exact h

theorem Upholds.foldl {α : Type} {f : State → α → State} (h : Upholds s t) (each : ∀ u a, Upholds u (f u a))
    {l : List α} : Upholds s (l.foldl f t) := by
  induction l generalizing t with
  | nil => exact h
  | cons a l ih => exact ih (h.trans (each t a))

theorem Upholds.updateRecord (h : Upholds s t) {tool : ToolId} {f : ToolRecord → ToolRecord} :
    Upholds s (t.updateRecord tool f) := h.frame

theorem Upholds.setState (h : Upholds s t) {tool : ToolId} {st : RecordState} :
    Upholds s (t.setState tool st) := h.frame

theorem Upholds.setImage (h : Upholds s t) {tool : ToolId} {f : Image → Image} :
    Upholds s (t.setImage tool f) := h.frame

theorem Upholds.addRecord (h : Upholds s t) {r : ToolRecord} : Upholds s (t.addRecord r) := h.frame

theorem Upholds.dropRecord (h : Upholds s t) {tool : ToolId} : Upholds s (t.dropRecord tool) := h.frame

theorem Upholds.setSlot (h : Upholds s t) {n : Nat} {m : MagSlot} : Upholds s (t.setSlot n m) := h.frame

theorem Upholds.setPanel (h : Upholds s t) {i : PanelId} {f : Panel → Panel} : Upholds s (t.setPanel i f) := h.frame

theorem State.setPocket_pullIns (s : State) (p : Nat) (f : Pocket → Pocket) :
    (s.setPocket p f).bank.pullIns = s.bank.pullIns := by
  unfold State.setPocket
  split <;> rfl

theorem Upholds.setPocket (h : Upholds s t) {p : Nat} {f : Pocket → Pocket} : Upholds s (t.setPocket p f) :=
  h.frame (pullIns := t.setPocket_pullIns p f)

theorem Upholds.unmark (h : Upholds s t) {p : Nat} : Upholds s (t.unmark p) := h.setPocket

theorem Upholds.markingPass (h : Upholds s t) : Upholds s t.markingPass := h.frame (pullIns := rfl)

/-! ### Reservation rows -/

/-- Rows are deleted, and what is left is in order. -/
theorem Upholds.deleteRows (h : Upholds s t) {gone : Reservation → Bool} : Upholds s (t.deleteRows gone) := by
  have sub : (t.deleteRows gone).reservations.Sublist t.reservations := List.filter_sublist
  refine h.trans (.aside (by simp) (by simp) (fun z => ?_) fun z => ?_)
  · exact { z with reservations := sub.length_le.trans z.reservations }
  · exact ⟨z.oneEach.sublist (sub.map _), fun row hrow => z.wanted row (sub.subset hrow)⟩

/-- New rows for the table, no more than it holds and in order. -/
theorem Upholds.withRows (h : Upholds s t) {rows : List Reservation}
    (size : t.reservations.length ≤ Config.reservationMax → rows.length ≤ Config.reservationMax)
    (law : t.ReservationLaw → ({ t with reservations := rows } : State).ReservationLaw) :
    Upholds s { t with reservations := rows } := by
  refine h.trans (.aside rfl rfl (fun z => ?_) law)
  exact { z with reservations := size z.reservations }

theorem Upholds.postEnded (h : Upholds s t) {cause : EndCause} {rows : List Reservation} :
    Upholds s (postEnded cause rows t) := h.foldl fun u _ => (refl u).post

/-! ### Frames -/

/-- Changes of the transmit queue at a node that goes on: none queued where none was and the node is not ONLINE, the
queue no longer than 8, in order, with no new attempt. -/
theorem Upholds.withQueue (h : Upholds s t) {q : List TxFrame}
    (silent : t.port.nodeState ≠ .online → t.line.txQueue = [] → q = [])
    (size : t.line.txQueue.length ≤ Config.txMax → q.length ≤ Config.txMax)
    (ordered : t.line.Ordered → ({ t.line with txQueue := q } : Line).Ordered)
    (attempts : ({ t.line with txQueue := q } : Line).sendingCount ≤ t.line.sendingCount) :
    Upholds s { t with line := { t.line with txQueue := q } } := by
  refine h.trans ⟨fun z => ?_, fun z => z.congr rfl, fun z => ?_, fun _ z => ?_, id⟩
  · exact { z with txQueue := size z.txQueue }
  · refine ⟨fun n => silent n (z.silent n), ordered z.ordered, attempts.trans z.oneAttempt, fun a => ?_⟩
    have busy : 0 < t.line.sendingCount := (Line.attempting_iff_sendingCount.mp a).trans_le attempts
    exact z.transmitting (Line.attempting_iff_sendingCount.mpr busy)
  · refine ⟨z.held, z.slot, z.station, z.quiet, fun w hw => ?_⟩
    obtain driven | sent := hw
    · exact State.driven_source driven
    · exact z.source w (.inr sent)

theorem sendHead_cls (q : List TxFrame) : (sendHead q).map (·.kind.cls) = q.map (·.kind.cls) := by
  cases q <;> rfl

/-- The order of a queue is the order of its classes. -/
theorem Line.ordered_iff {l : Line} : l.Ordered ↔ (l.txQueue.map (·.kind.cls)).Pairwise (· ≤ ·) :=
  List.pairwise_map.symm

theorem Upholds.startAttempt (h : Upholds s t) : Upholds s t.startAttempt := by
  refine h.trans ?_
  unfold State.startAttempt
  split
  · next ready =>
    simp only [State.online, Bool.and_eq_true, beq_iff_eq, Bool.not_eq_true', List.isEmpty_eq_false_iff] at ready
    obtain ⟨⟨⟨⟨online, -⟩, -⟩, none⟩, waits⟩ := ready
    obtain ⟨f, rest, queue⟩ := List.exists_cons_of_ne_nil waits
    refine ⟨fun z => ?_, fun z => z.congr rfl, fun z => ?_, fun _ z => ?_, id⟩
    · refine { z with txQueue := ?_ }
      simpa [queue, sendHead] using z.txQueue
    · refine ⟨fun n => absurd online n, ?_, ?_, fun _ => rfl⟩
      · exact Line.ordered_iff.mpr ((sendHead_cls _).symm ▸ Line.ordered_iff.mp z.ordered)
      · have still := Line.attempting_eq_false.mp none
        rw [queue] at still
        have rest0 : rest.countP (·.sending) = 0 := by
          rw [List.countP_eq_zero]
          exact fun g hg => by simp [still g (List.mem_cons_of_mem f hg)]
        simp [Line.sendingCount, queue, sendHead, rest0]
    · refine ⟨z.held, z.slot, z.station, fun n => ?_, fun w hw => ?_⟩
      · exact absurd (online.symm.trans n) (by decide)
      · obtain driven | sent := hw
        · exact State.driven_source driven
        · exact z.source w (.inr sent)
  · exact .refl t

/-- A frame that joins is not in transmission. -/
theorem insertFrame_sendingCount {q : List TxFrame} {f : TxFrame} (waits : f.sending = false) :
    (insertFrame q f).countP (·.sending) = q.countP (·.sending) := by
  rw [(insertFrame_perm q f).countP_eq, List.countP_cons_of_neg (by simp [waits])]

theorem Upholds.offerFrame (h : Upholds s t) {f : TxFrame} (waits : f.sending = false := by rfl) :
    Upholds s (t.offerFrame f) := by
  refine h.trans ?_
  obtain e | ⟨online, room, e⟩ | ⟨front, c, back, online, queue, e⟩ | e := t.offerFrame_cases f <;> rw [e]
  · exact .refl t
  · refine Upholds.startAttempt ((refl t).withQueue (absurd online) (fun _ => ?_)
      (fun o => insertFrame_ordered o f) ?_)
    · rw [(insertFrame_perm _ f).length_eq]
      exact room
    · exact (insertFrame_sendingCount waits).le
  · have sub : (front ++ back).Sublist t.line.txQueue := queue ▸ (List.sublist_cons_self c back).append_left front
    refine Upholds.startAttempt (Upholds.postDiscarded ((refl t).withQueue (absurd online) (fun size => ?_)
      (fun o => insertFrame_ordered (o.sublist sub) f) ?_))
    · rw [queue] at size
      rw [(insertFrame_perm _ f).length_eq]
      simp only [List.length_append, List.length_cons] at size ⊢
      omega
    · exact (insertFrame_sendingCount waits).trans_le (sub.countP_le)
  · exact (refl t).postDiscarded

/-- Frames that keep their kind keep their order. -/
theorem pairwise_cls_filterMap {q : List TxFrame} {f : TxFrame → Option TxFrame}
    (kind : ∀ g g', f g = some g' → g'.kind = g.kind) (ordered : q.Pairwise (fun f g => f.kind.cls ≤ g.kind.cls)) :
    (q.filterMap f).Pairwise (fun f g => f.kind.cls ≤ g.kind.cls) :=
  ordered.filterMap f fun _ _ le _ ha _ hb => by rw [kind _ _ ha, kind _ _ hb]; exact le

/-- Frames leave the queue or change in what is neither their kind nor their part in an attempt. -/
theorem Upholds.filterMapQueue (h : Upholds s t) {f : TxFrame → Option TxFrame}
    (same : ∀ g g', f g = some g' → g'.kind = g.kind ∧ g'.sending = g.sending) :
    Upholds s { t with line := { t.line with txQueue := t.line.txQueue.filterMap f } } := by
  refine h.withQueue (fun _ e => by rw [e]; rfl) (fun size => (List.length_filterMap_le _ _).trans size)
    (fun ordered => pairwise_cls_filterMap (fun g g' e => (same g g' e).1) ordered) ?_
  simp only [Line.sendingCount]
  induction t.line.txQueue with
  | nil => exact le_rfl
  | cons g q ih =>
    rw [List.filterMap_cons, List.countP_cons]
    split
    · omega
    · next g' e =>
      rw [List.countP_cons, (same g g' e).2]
      omega

theorem Upholds.removeFrames (h : Upholds s t) {o : FrameOwner} : Upholds s (t.removeFrames o) := by
  refine h.filterMapQueue fun g g' e => ?_
  split at e
  · split at e <;> cases e
    exact ⟨rfl, rfl⟩
  · cases e
    exact ⟨rfl, rfl⟩

theorem Upholds.replaceFrame (h : Upholds s t) {o : FrameOwner} {payload : List Byte} {again : Bool} :
    Upholds s (t.replaceFrame o payload again) := by
  unfold State.replaceFrame
  rw [← List.filterMap_eq_map]
  refine h.filterMapQueue fun g g' e => ?_
  simp only [Function.comp_apply, Option.some.injEq] at e
  split at e
  · split at e <;> cases e <;> exact ⟨rfl, rfl⟩
  · cases e
    exact ⟨rfl, rfl⟩

end

end Sys2Proof.Machine
end

section
/-! SUPPORT. What the operations of each unit keep of the laws of sizes, rows, line and port. -/

namespace Sys2Proof.Machine

section
variable {s t : State}

/-! ### Roster and reservations -/

theorem Upholds.withRoster (h : Upholds s t) {r : Roster}
    (size : t.roster.peers.length = Config.stations → r.peers.length = Config.stations) :
    Upholds s { t with roster := r } := by
  refine h.trans (.aside rfl rfl (fun z => ?_) fun z => z.congr rfl)
  exact { z with peers := size z.peers }

theorem Upholds.setPeer (h : Upholds s t) {n : Nat} {f : Peer → Peer} : Upholds s (t.setPeer n f) := by
  unfold State.setPeer
  split
  · exact h
  · exact h.withRoster (List.length_modify ..).trans

theorem Upholds.hear (h : Upholds s t) {n : Nat} {a : Option Announced} : Upholds s (t.hear n a) := by
  unfold State.hear
  split
  · exact h
  · dsimp only
    split
    · exact h.setPeer
    · exact h.setPeer.post

theorem Upholds.strike (h : Upholds s t) {n kind : Nat} : Upholds s (t.strike n kind) := by
  unfold State.strike
  split
  · exact h
  · dsimp only
    split
    · exact h.setPeer.post
    · exact h.setPeer

theorem Upholds.rosterTakes (h : Upholds s t) {f : RxFrame} {k : FrameKind} {ok : Bool} :
    Upholds s (t.rosterTakes f k ok) := by
  unfold State.rosterTakes
  dsimp only
  split
  · exact h.hear.setPeer
  · exact h.hear.strike

theorem Upholds.offerPresence (h : Upholds s t) : Upholds s t.offerPresence := by
  have beacon : ∀ d, Upholds s { t with roster := { t.roster with beacon := d } } := fun d => h.withRoster id
  unfold State.offerPresence
  dsimp only
  split
  · exact (beacon _).replaceFrame
  · exact (beacon _).offerFrame

/-- Rows change in what is not their requester or class. -/
theorem Upholds.mapRows (h : Upholds s t) {f : Reservation → Reservation}
    (keys : ∀ r, (f r).requester = r.requester ∧ (f r).cls = r.cls)
    (wanted : t.ReservationLaw → ∀ r ∈ t.reservations, 1 ≤ (f r).wanted ∧ (f r).wanted ≤ 4) :
    Upholds s { t with reservations := t.reservations.map f } := by
  refine h.withRows (fun size => by rwa [List.length_map]) fun law => ⟨?_, List.forall_mem_map.mpr (wanted law)⟩
  simp only [List.map_map, Function.comp_def, keys]
  exact law.oneEach

/-- A row of a DEMAND: one for each requester and class, with a wanted count 1 to 4 and within the table (R168). -/
theorem Upholds.reserveOne (h : Upholds s t) {n : Nat} {expiry : Millis} {e : DemandEntry}
    (count : 1 ≤ e.count ∧ e.count ≤ 4) :
    Upholds s { t with reservations := (reserveOne n expiry t.reservations e).1 } := by
  unfold Machine.reserveOne
  split
  · refine h.mapRows (fun r => by split <;> exact ⟨rfl, rfl⟩) fun law r hr => ?_
    split
    · exact count
    · exact law.wanted r hr
  · next fresh =>
    split
    · next room =>
      refine h.withRows (fun _ => by simpa using room) fun law => ⟨?_, fun row hrow => ?_⟩
      · rw [List.map_append, List.nodup_append]
        refine ⟨law.oneEach, by simp, fun a ha b hb eq => ?_⟩
        obtain ⟨r, hr, rfl⟩ := List.mem_map.mp ha
        obtain rfl := List.mem_singleton.mp hb
        obtain ⟨rn, rc⟩ := Prod.mk.inj eq
        exact fresh (List.any_eq_true.mpr ⟨r, hr, by simp [Reservation.isFor, rn, rc]⟩)
      · obtain old | new := List.mem_append.mp hrow
        · exact law.wanted row old
        · obtain rfl := List.mem_singleton.mp new
          exact count
    · exact h

theorem Upholds.reserveAll (h : Upholds s t) {n : Nat} {expiry : Millis} {list : List DemandEntry}
    (counts : ∀ e ∈ list, 1 ≤ e.count ∧ e.count ≤ 4) :
    Upholds s { t with reservations := (reserveAll n expiry t.reservations list).1 } := by
  induction list generalizing t with
  | nil => exact h
  | cons e list ih =>
    obtain ⟨first, rest⟩ := List.forall_mem_cons.mp counts
    exact ih (h.reserveOne first) rest

/-- A list as R168 forms it has counts 1 to 4. -/
theorem normalEntries_count {l : List DemandEntry} : ∀ e ∈ normalEntries l, 1 ≤ e.count ∧ e.count ≤ 4 := by
  refine List.foldlRecOn l _ (motive := fun acc : List DemandEntry => ∀ e ∈ acc, 1 ≤ e.count ∧ e.count ≤ 4) nofun ?_
  intro acc hacc e _
  split
  · exact hacc
  · next positive =>
    have new : 1 ≤ min e.count 4 ∧ min e.count 4 ≤ 4 := by omega
    unfold putEntry
    split <;> intro d hd
    · obtain ⟨d', hd', rfl⟩ := List.mem_map.mp hd
      split
      · exact new
      · exact hacc d' hd'
    · obtain old | added := List.mem_append.mp hd
      · exact hacc d old
      · obtain rfl := List.mem_singleton.mp added
        exact new

theorem Upholds.postFate (h : Upholds s t) {n : Nat} {e : DemandEntry × EntryFate} : Upholds s (t.postFate n e) := by
  unfold State.postFate
  split
  · exact h
  · exact h.post
  · exact h.post

theorem Upholds.applyDemand (h : Upholds s t) {n hold : Nat} {list : List DemandEntry}
    (counts : ∀ e ∈ list, 1 ≤ e.count ∧ e.count ≤ 4) : Upholds s (t.applyDemand n hold list) := by
  unfold State.applyDemand
  exact (h.deleteRows.reserveAll counts).markingPass.postEnded.foldl fun u _ => (refl u).postFate

theorem Upholds.takeDemand (h : Upholds s t) {f : RxFrame} : Upholds s (t.takeDemand f) := by
  unfold State.takeDemand
  dsimp only
  split
  · exact h
  · exact h.applyDemand normalEntries_count

/-- A served row goes, or loses one of the two or more that it wants (R171). -/
theorem Upholds.serveReservation (h : Upholds s t) {station cls : Nat} :
    Upholds s (t.serveReservation station cls) := by
  unfold State.serveReservation
  split
  · exact h
  · next row found =>
    dsimp only
    split
    · exact h.deleteRows.post
    · next many =>
      refine (h.mapRows (fun r => by split <;> exact ⟨rfl, rfl⟩) fun law r hr => ?_).post
      have wanted := law.wanted r hr
      split
      · next isFor =>
        have foundFor := List.find?_some found
        simp only [Reservation.isFor, Bool.and_eq_true, beq_iff_eq] at isFor foundFor
        have same : r = row := List.inj_on_of_nodup_map law.oneEach hr (List.mem_of_find?_eq_some found)
          (by simp [isFor, foundFor])
        subst same
        dsimp only
        omega
      · exact wanted

/-! ### Custody -/

theorem Upholds.withCustody (h : Upholds s t) {c : Custody} (calls : c.calls.length = t.custody.calls.length)
    (outs : c.outs.length = t.custody.outs.length)
    (accepted : t.custody.accepted.length ≤ Config.acceptedMax → c.accepted.length ≤ Config.acceptedMax) :
    Upholds s { t with custody := c } := by
  refine h.trans (.aside rfl rfl (fun z => ?_) fun z => z.congr rfl)
  exact { z with calls := calls.trans z.calls, outs := outs.trans z.outs, accepted := accepted z.accepted }

theorem Upholds.setCall (h : Upholds s t) {i : Nat} {c : Option CallSlot} :
    Upholds s { t with custody := { t.custody with calls := t.custody.calls.set i c } } :=
  h.withCustody (List.length_set ..) rfl id

theorem Upholds.setOut (h : Upholds s t) {i : Nat} {o : Option OutSlot} :
    Upholds s { t with custody := { t.custody with outs := t.custody.outs.set i o } } :=
  h.withCustody rfl (List.length_set ..) id

theorem Upholds.leavePlace (h : Upholds s t) {why : Purpose} {o : CallOutcome} : Upholds s (t.leavePlace why o) := by
  unfold State.leavePlace
  split
  · exact h.setSlot
  · exact h

theorem Upholds.closeCall (h : Upholds s t) {i : Nat} {o : CallOutcome} {n : Nat} : Upholds s (t.closeCall i o n) := by
  unfold State.closeCall
  split
  · exact h
  · exact h.setCall.removeFrames.leavePlace.post

theorem Upholds.withdrawCall (h : Upholds s t) {why : Purpose} : Upholds s (t.withdrawCall why) := by
  unfold State.withdrawCall
  split
  · exact h.closeCall
  · exact h

theorem Upholds.freeOut (h : Upholds s t) {i : Nat} : Upholds s (t.freeOut i) := h.setOut.removeFrames

theorem Upholds.lapse (h : Upholds s t) {i : Nat} {c : DoubtCause} : Upholds s (t.lapse i c) := by
  unfold State.lapse
  split
  · exact h
  · exact h.updateRecord.freeOut.postChanged.post

theorem Upholds.lapseAll (h : Upholds s t) {test : OutSlot → Bool} {c : DoubtCause} :
    Upholds s (t.lapseAll test c) := by
  refine h.foldl fun u i => ?_
  split
  · split
    · exact (refl u).lapse
    · exact refl u
  · exact refl u

theorem Upholds.depart (h : Upholds s t) {tool : ToolId} {n : Nat} : Upholds s (t.depart tool n) :=
  h.dropRecord.removeFrames.post

theorem Upholds.returnToPrior (h : Upholds s t) {tool : ToolId} {p : Prior} : Upholds s (t.returnToPrior tool p) :=
  h.setState.removeFrames.postChanged

theorem Upholds.goAbsent (h : Upholds s t) {n : Nat} {p : Peer} : Upholds s (t.goAbsent n p) :=
  h.setPeer.post.lapseAll.deleteRows.markingPass.postEnded

theorem Upholds.startCheck (h : Upholds s t) {n : Nat} {r : ToolRecord} : Upholds s (t.startCheck n r) := by
  unfold State.startCheck
  split
  · exact h
  · exact h.offerFrame.updateRecord

theorem Upholds.presenceReport (h : Upholds s t) {n : Nat} : Upholds s (t.presenceReport n) := by
  unfold State.presenceReport
  split
  · exact h.foldl fun u _ => (refl u).startCheck
  · exact h

theorem Upholds.reply (h : Upholds s t) {k : FrameKind} {n : Nat} {payload : List Byte} :
    Upholds s (t.reply k n payload) := h.offerFrame

theorem Upholds.postDuplicate (h : Upholds s t) {tool : ToolId} {n : Nat} {k : FrameKind} :
    Upholds s (t.postDuplicate tool n k) := h.post

theorem Upholds.here (h : Upholds s t) {n : Nat} {tool : ToolId} {why : BlockReason} :
    Upholds s (t.here n tool why) := h.reply

theorem Upholds.decline (h : Upholds s t) {n : Nat} {tool : ToolId} {handoff : Byte} {why : DeclineReason} :
    Upholds s (t.decline n tool handoff why) := h.reply

theorem Upholds.beginOffer (h : Upholds s t) {i n : Nat} {r : ToolRecord} {p : Prior} :
    Upholds s (t.beginOffer i n r p) := by
  have begun : ∀ o, Upholds s { t with custody := { t.custody with
      outs := t.custody.outs.set i o, handoff := t.custody.handoff + 1 } } := fun o =>
    h.withCustody rfl (List.length_set ..) id
  exact (begun _).setState.postChanged.offerFrame

theorem Upholds.offerOrBusy (h : Upholds s t) {n : Nat} {r : ToolRecord} {p : Prior} :
    Upholds s (t.offerOrBusy n r p) := by
  unfold State.offerOrBusy
  split
  · exact h.reply
  · exact h.beginOffer

theorem Upholds.answerByState (h : Upholds s t) {n : Nat} {r : ToolRecord} : Upholds s (t.answerByState n r) := by
  unfold State.answerByState
  dsimp only
  cases r.state with
  | stocked p => exact h.here.post
  | loaded n => exact h.here.post
  | seated => exact h.here.post
  | measuring => exact h.here
  | loose => exact h.offerOrBusy
  | missing => exact h.offerOrBusy
  | inDoubt c p d => exact h.here
  | outbound c p =>
    dsimp only
    split
    · exact h
    · exact h.here

theorem Upholds.takeCall (h : Upholds s t) {f : RxFrame} : Upholds s (t.takeCall f) := by
  unfold State.takeCall
  dsimp only
  split
  · exact h
  split
  · exact h
  split
  · exact h.here
  · exact h.answerByState

theorem Upholds.fillPlace (h : Upholds s t) {why : Purpose} {tool : ToolId} : Upholds s (t.fillPlace why tool) := by
  unfold State.fillPlace
  split
  · exact h.setPocket
  · exact h.setSlot
  · exact h

/-- The oldest of 16 makes room (R60). -/
theorem Upholds.appendAccepted (h : Upholds s t) {a : Accepted} : Upholds s (t.appendAccepted a) := by
  refine h.withCustody rfl rfl fun size => ?_
  dsimp only
  split
  · next room => simpa using room
  · simp only [List.length_append, List.length_drop, List.length_singleton]
    have : 1 ≤ Config.acceptedMax := by decide
    omega

theorem Upholds.refreshDemand (h : Upholds s t) {again : Bool} : Upholds s (t.refreshDemand again) := h.replaceFrame

theorem Upholds.withDemand (h : Upholds s t) {d : Sequencer} : Upholds s { t with demand := d } := h.frame

theorem Upholds.lowerDemand (h : Upholds s t) {tool : ToolId} {cls : Nat} : Upholds s (t.lowerDemand tool cls) := by
  unfold State.lowerDemand
  split
  · exact h
  · exact h.withDemand.refreshDemand.post

theorem Upholds.arrivalEffects (h : Upholds s t) {why : Purpose} {i : Image} : Upholds s (t.arrivalEffects why i) := by
  unfold State.arrivalEffects
  split
  · exact h.markingPass
  · exact h.lowerDemand
  · exact h

theorem Upholds.takeRecord (h : Upholds s t) {i : Nat} {c : CallSlot} {n : Nat} {handoff : Byte} {image : Image} :
    Upholds s (t.takeRecord i c n handoff image) :=
  h.addRecord.fillPlace.appendAccepted.reply.post.closeCall.arrivalEffects

theorem Upholds.decideOffer (h : Upholds s t) {n : Nat} {handoff : Byte} {image : Image} :
    Upholds s (t.decideOffer n handoff image) := by
  unfold State.decideOffer
  dsimp only
  split
  · exact h.reply
  split
  · split
    · exact h.decline.closeCall
    · exact h.decline
  split
  · split
    · exact h
    · split
      · exact h.decline.closeCall
      · exact h.takeRecord
  · split
    · exact h.decline.postDuplicate
    · exact h.decline

theorem Upholds.takeOffer (h : Upholds s t) {f : RxFrame} : Upholds s (t.takeOffer f) := by
  unfold State.takeOffer
  split
  · exact h
  · exact h.decideOffer

theorem Upholds.takeAccept (h : Upholds s t) {f : RxFrame} : Upholds s (t.takeAccept f) := by
  unfold State.takeAccept State.applyAccept
  split
  · exact h.freeOut.depart
  split
  · exact h.depart
  · exact h.post

theorem Upholds.declined (h : Upholds s t) {n : Nat} {tool : ToolId} {reason : Nat} :
    Upholds s (t.declined n tool reason) := by
  unfold State.declined
  cases (t.find tool).bind (·.state.prior) with
  | none =>
    dsimp only
    split
    · exact h.post.postDuplicate
    · exact h.post
  | some p =>
    dsimp only
    split
    · exact h.returnToPrior.post.postDuplicate
    · exact h.returnToPrior.post

theorem Upholds.takeDecline (h : Upholds s t) {f : RxFrame} : Upholds s (t.takeDecline f) := by
  unfold State.takeDecline State.applyDecline
  split
  · exact h.freeOut.declined
  split
  · exact h.declined
  · exact h

theorem Upholds.noteBusy (h : Upholds s t) {i n : Nat} : Upholds s (t.noteBusy i n) :=
  h.withCustody (List.length_modify ..) rfl id

theorem Upholds.takeHere (h : Upholds s t) {f : RxFrame} : Upholds s (t.takeHere f) := by
  unfold State.takeHere State.applyHere
  split
  · split
    · exact h.closeCall
    · exact h.noteBusy
  split
  · exact h.postDuplicate
  · exact h

theorem Upholds.takeCheck (h : Upholds s t) {f : RxFrame} : Upholds s (t.takeCheck f) := by
  unfold State.takeCheck
  dsimp only
  split
  · exact h
  · exact h.reply

theorem Upholds.takeCheckReply (h : Upholds s t) {f : RxFrame} : Upholds s (t.takeCheckReply f) := by
  unfold State.takeCheckReply State.applyCheckReply
  split
  · exact h
  · dsimp only
    split
    · exact h.returnToPrior.post
    · exact h.depart.post

theorem Upholds.retryCall (h : Upholds s t) {i : Nat} {c : CallSlot} : Upholds s (t.retryCall i c) := by
  unfold State.retryCall
  dsimp only
  split
  · exact h.setCall
  · exact h.setCall.offerFrame

theorem Upholds.retryOffer (h : Upholds s t) {i : Nat} {o : OutSlot} : Upholds s (t.retryOffer i o) := by
  unfold State.retryOffer
  dsimp only
  split
  · exact h.setOut
  split
  · exact h.setOut.offerFrame
  · exact h.setOut

theorem Upholds.openCall (h : Upholds s t) {u : State} {tool : ToolId} {why : Purpose}
    (opened : t.openCall tool why = .ok u) : Upholds s u := by
  unfold State.openCall at opened
  split at opened
  · cases opened
  split at opened
  · cases opened
  split at opened
  · cases opened
  split at opened
  · cases opened
  split at opened
  · cases opened
  · cases opened
    exact h.setCall.offerFrame

/-! ### Pockets and locks -/

theorem Upholds.withBank (h : Upholds s t) {b : Bank} (pullIns : b.pullIns.length = t.bank.pullIns.length) :
    Upholds s { t with bank := b } := by
  refine h.trans (.aside rfl rfl (fun z => ?_) fun z => z.congr rfl)
  exact { z with pullIns := pullIns.trans z.pullIns }

theorem Upholds.startOne (h : Upholds s t) {u : State} (started : t.startOne = some u) : Upholds s u := by
  unfold State.startOne at started
  split at started
  · split at started
    · cases started
      exact (h.withBank (List.length_set ..)).setPocket
    · cases started
  · cases started

theorem Upholds.startUpTo (h : Upholds s t) {n : Nat} : Upholds s (startUpTo n t) := by
  induction n generalizing t with
  | zero => exact h
  | succ n ih =>
    unfold Machine.startUpTo
    split
    · exact h
    · next u started => exact ih (h.startOne started)

theorem Upholds.startRule (h : Upholds s t) : Upholds s t.startRule := h.startUpTo

theorem Upholds.closeLock (h : Upholds s t) {p : Nat} : Upholds s (t.closeLock p) :=
  (h.withBank (List.length_map ..)).setPocket

theorem Upholds.openRequest (h : Upholds s t) {u : State} {p : Nat} {why : Opening} {station : Option Nat}
    (opened : t.openRequest p why station = .ok u) : Upholds s u := by
  unfold State.openRequest at opened
  split at opened
  · cases opened
  split at opened
  · cases opened
  split at opened
  · cases opened
  split at opened
  · cases opened
  · cases opened
    exact (h.withBank (b := { t.bank with queue := t.bank.queue ++ [p] }) rfl).setPocket.startRule

theorem Upholds.openEach (h : Upholds s t) {i : PanelId} {list : List Byte} : Upholds s (openEach t i list).1 := by
  induction list generalizing t with
  | nil => exact h
  | cons b rest ih =>
    unfold Machine.openEach
    split
    · exact ih h
    · next u opened => exact ih (h.openRequest opened)

theorem Upholds.endOperation (h : Upholds s t) {i : PanelId} {o : OpOutcome} : Upholds s (t.endOperation i o) := by
  unfold State.endOperation
  split
  · exact h
  · exact h.setPanel.post

theorem Upholds.report (h : Upholds s t) {why : Opening} {p : Nat} {r : Report} : Upholds s (t.report why p r) := by
  unfold State.report
  split
  · exact h
  dsimp only
  split
  · exact h.setPanel.post
  · exact h.setPanel
  split
  · exact h.setPanel.endOperation
  · exact h.setPanel

theorem Upholds.closeRequest (h : Upholds s t) {p : Nat} : Upholds s (t.closeRequest p) := by
  unfold State.closeRequest
  split
  · exact h
  · exact h.closeLock.report.startRule

theorem Upholds.latchFault (h : Upholds s t) {p : Nat} {why : Opening} {f : LockFault} :
    Upholds s (t.latchFault p why f) := h.closeLock.setPocket.post.report.startRule.markingPass

theorem Upholds.endCourse (h : Upholds s t) {p : Nat} {why : Opening} {r : Report} : Upholds s (t.endCourse p why r) :=
  h.closeLock.report.startRule.markingPass

theorem Upholds.stock (h : Upholds s t) {tool : ToolId} {p : Nat} : Upholds s (t.stock tool p) :=
  h.setState.setPocket.markingPass

theorem Upholds.unstock (h : Upholds s t) {tool : ToolId} {p : Nat} {st : RecordState} :
    Upholds s (t.unstock tool p st) := h.setState.setPocket

theorem Upholds.forcedRemoval (h : Upholds s t) {p : Nat} {tool : ToolId} {lock : Lock} :
    Upholds s (t.forcedRemoval p tool lock) := by
  unfold State.forcedRemoval
  dsimp only
  split
  · exact h.unstock.closeLock.postChanged.post.report.startRule.markingPass
  · exact h.unstock.postChanged.post.markingPass

theorem Upholds.completeIssue (h : Upholds s t) {p : Nat} {k : Pocket} {tool : ToolId} {why : Opening} :
    Upholds s (t.completeIssue p k tool why) := by
  have taken := h.closeLock (p := p) |>.unstock (tool := tool) (p := p) (st := .loose) |>.postChanged (tool := tool)
    |>.report (why := why) (p := p) (r := .taken)
  unfold State.completeIssue
  dsimp only
  split
  · split
    · exact taken.serveReservation.startRule.markingPass
    · exact taken.startRule.markingPass
  · exact taken.startRule.markingPass

theorem Upholds.serviceRemoval (h : Upholds s t) {p : Nat} {tool : ToolId} {why : Opening} :
    Upholds s (t.serviceRemoval p tool why) := h.unstock.postChanged.post.report.markingPass

theorem Upholds.heldRemoval (h : Upholds s t) {p : Nat} {k : Pocket} {tool : ToolId} :
    Upholds s (t.heldRemoval p k tool) := by
  unfold State.heldRemoval
  split
  · exact h.forcedRemoval
  · exact h.forcedRemoval
  all_goals
    split
    · exact h.completeIssue
    · exact h.serviceRemoval

theorem Upholds.removal (h : Upholds s t) {p : Nat} {k : Pocket} : Upholds s (t.removal p k) := by
  unfold State.removal
  split
  · exact h.heldRemoval
  · exact h.setPocket.withdrawCall.post
  · exact h

theorem Upholds.insertion (h : Upholds s t) {p : Nat} {lock : Lock} : Upholds s (t.insertion p lock) := by
  unfold State.insertion
  split
  · exact h.post
  · exact h.closeLock.post.report.startRule.markingPass
  · exact h.closeLock.post.report.startRule.markingPass
  split
  · exact h
  · exact h.endCourse

theorem Upholds.hold (h : Upholds s t) {p : Nat} {why : Opening} : Upholds s (t.hold p why) :=
  (h.setPocket.withBank (List.length_map ..)).report.startRule

/-- The pull-in slots that the supply cuts off are four free ones. -/
theorem Upholds.cutSupply (h : Upholds s t) : Upholds s t.cutSupply := by
  refine h.trans (.aside rfl rfl (fun z => ?_) fun z => z.congr rfl)
  exact { z with pullIns := List.length_replicate .. }

theorem Upholds.supplyLow (h : Upholds s t) : Upholds s t.supplyLow :=
  h.cutSupply.post.endOperation.endOperation.markingPass

theorem Upholds.clearFault (h : Upholds s t) {p : Nat} {k : Pocket} : Upholds s (t.clearFault p k) :=
  h.setPocket.post.markingPass

/-! ### Panels -/

theorem Upholds.closeWindow (h : Upholds s t) {i : PanelId} {c : CloseCause} : Upholds s (t.closeWindow i c) := by
  unfold State.closeWindow
  split
  · exact h.setPanel.post
  · exact h

theorem Upholds.openWindow (h : Upholds s t) {i : PanelId} {e : CodeEntry} {n : Nat} : Upholds s (t.openWindow i e n) :=
  h.setPanel.post

theorem Upholds.mismatch (h : Upholds s t) {i : PanelId} : Upholds s (t.mismatch i) := by
  unfold State.mismatch
  dsimp only
  split
  · exact h.setPanel.post
  · exact h.setPanel.post.setPanel.post.closeWindow

theorem Upholds.startOperation (h : Upholds s t) {i : PanelId} {kind : OpKind} {l : List Nat} :
    Upholds s (t.startOperation i kind l) := h.setPanel.closeWindow

/-! ### The demand sequencer and the ends of an attempt -/

theorem Upholds.offerDemand (h : Upholds s t) : Upholds s t.offerDemand := h.offerFrame

theorem Upholds.cyclePoint (h : Upholds s t) : Upholds s t.cyclePoint := by
  unfold State.cyclePoint
  split
  · exact h.post.refreshDemand
  · exact h.offerDemand

theorem Upholds.stopCycles (h : Upholds s t) : Upholds s t.stopCycles := h.removeFrames.withDemand.offerFrame

theorem Upholds.notQueued (h : Upholds s t) {f : TxFrame} : Upholds s (t.notQueued f) := by
  unfold State.notQueued
  split
  · split
    · split
      · exact h.offerPresence
      · exact h
    · split
      · exact h.offerDemand
      · exact h
    · exact h
  · exact h

theorem Upholds.reportSent (h : Upholds s t) {f : TxFrame} : Upholds s (t.reportSent f) := by
  unfold State.reportSent State.demandSent
  split
  · split
    · exact h
    · dsimp only
      split
      · exact h.withDemand.withDemand.post
      · exact h.withDemand
  · exact h

/-! ### Slots, records, the head -/

theorem Upholds.loadHere (h : Upholds s t) {n : Nat} {tool : ToolId} {i : Image} : Upholds s (t.loadHere n tool i) := by
  unfold State.loadHere
  split
  · exact h.setState.setSlot.postChanged
  · exact h.setSlot.post

theorem Upholds.unloadSlot (h : Upholds s t) {n : Nat} {m : MagSlot} : Upholds s (t.unloadSlot n m) := by
  unfold State.unloadSlot
  split
  · exact h
  · exact h.setState.setSlot.postChanged
  · exact h.setSlot.withdrawCall
  · exact h.setSlot

theorem Upholds.charge (h : Upholds s t) {tool : ToolId} {n : Nat} {i : Image} {seconds : Nat} :
    Upholds s (t.charge tool n i seconds) := by
  have charged := h.setImage (tool := tool) (f := fun i => i.charged seconds)
  unfold State.charge State.postCharge
  dsimp only
  split
  · exact charged.postIf.postIf.postIf.postIf
  · exact charged.postChanged.postIf.postIf.postIf.postIf

theorem Upholds.loseFitness (h : Upholds s t) {r : ToolRecord} : Upholds s (t.loseFitness r) := by
  unfold State.loseFitness
  split
  · exact h.unmark.markingPass
  · exact h

theorem Upholds.vacate (h : Upholds s t) {r : ToolRecord} : Upholds s (t.vacate r) := by
  unfold State.vacate
  split
  · exact h.setPocket
  · exact h.setSlot
  · exact h

theorem Upholds.arrive (h : Upholds s t) {r : ToolRecord} {n : Nat} : Upholds s (t.arrive r n) := h.addRecord.post

theorem Upholds.putAt (h : Upholds s t) {image : Image} {place : Place} : Upholds s (t.putAt image place) := by
  cases place with
  | nowhere => exact h.arrive
  | pocket p => exact h.arrive.setPocket.markingPass
  | slot n => exact h.arrive.setSlot
  | head => exact h.arrive

theorem Upholds.restoreAt (h : Upholds s t) {image : Image} {st : RecordState} {place : Place} :
    Upholds s (t.restoreAt image st place) := by
  unfold State.restoreAt
  split
  · exact h.arrive
  · exact h.putAt

theorem Upholds.withRecords (h : Upholds s t) {l : List ToolRecord} : Upholds s { t with records := l } := h.frame

theorem Upholds.withHead (h : Upholds s t) {d : Head} : Upholds s { t with head := d } := h.frame

theorem Upholds.idleRun (h : Upholds s t) : Upholds s t.idleRun := h.withHead

theorem Upholds.reseat (h : Upholds s t) {tool : ToolId} : Upholds s (t.reseat tool) := h.setState.postChanged

theorem Upholds.endRun (h : Upholds s t) {o : RunOutcome} : Upholds s (t.endRun o) := by
  unfold State.endRun
  split
  · exact h
  split
  · exact h.idleRun.post
  · exact h.idleRun.reseat.post

theorem Upholds.displaceRun (h : Upholds s t) {place : Place} : Upholds s (t.displaceRun place) := by
  unfold State.displaceRun
  split
  · split
    · exact h.endRun
    · exact h
  · exact h

theorem Upholds.completeMeasurement (h : Upholds s t) {tool : ToolId} {temp : Int} {samples : List Sample} :
    Upholds s (t.completeMeasurement tool temp samples) := by
  unfold State.completeMeasurement
  split
  · exact h.idleRun
  split
  · exact h.idleRun.reseat.post
  · exact h.idleRun.setImage.reseat.post

theorem Upholds.takeSample (h : Upholds s t) {r : Run} : Upholds s (t.takeSample r) := by
  unfold State.takeSample
  dsimp only
  split
  · exact h.withHead
  split
  · exact h.withHead.idleRun.post
  · exact h.completeMeasurement

theorem Upholds.reseatRun (h : Upholds s t) {r : Run} : Upholds s (t.reseatRun r) := by
  unfold State.reseatRun
  split
  · exact h
  · exact h.reseat

theorem Upholds.postOutcome (h : Upholds s t) {r : Run} {o : RunOutcome} : Upholds s (t.postOutcome r o) := by
  unfold State.postOutcome
  split
  · exact h.post
  · exact h.post

theorem Upholds.scaleError (h : Upholds s t) {scale : Scale} : Upholds s (t.scaleError scale) := by
  unfold State.scaleError
  dsimp only
  split
  · split
    · exact h.withHead.post
    · exact h.withHead
  · exact h.withHead.idleRun.reseatRun.post.postOutcome

theorem Upholds.liftOff (h : Upholds s t) {r : Option ToolRecord} : Upholds s (t.liftOff r) := by
  unfold State.liftOff
  split
  · exact h.setState.postChanged
  · exact h

theorem Upholds.unseatRun (h : Upholds s t) : Upholds s t.unseatRun := by
  unfold State.unseatRun
  split
  · exact h
  · exact h.idleRun.postOutcome

theorem Upholds.unseat (h : Upholds s t) : Upholds s t.unseat :=
  h.withHead.liftOff.post.unseatRun.withdrawCall

theorem Upholds.startRun (h : Upholds s t) {kind : RunKind} {n : Nat} {temp : Int} :
    Upholds s (t.startRun kind n temp) := h.withHead

theorem Upholds.startMeasurement (h : Upholds s t) {tool : ToolId} {n : Nat} {temp : Int} :
    Upholds s (t.startMeasurement tool n temp) := h.setState.startRun.postChanged

end

end Sys2Proof.Machine
end

section
/-! SUPPORT. What each command and event keeps of the laws of sizes, rows, line and port. -/

namespace Sys2Proof.Machine

/-! ### Outcomes -/

/-- An event that may find nothing to do. -/
theorem upholds_onlyIf {s t : State} {c : Prop} [Decidable c] (h : c → Upholds s t) :
    Yields (Upholds s) (if c then .next t else .next s) := by
  split
  · next hc => exact h hc
  · exact Upholds.refl s

section
variable {s t : State}

/-! ### The port -/

/-- Changes at the port's two slots and its flags. -/
theorem Upholds.withPort (h : Upholds s t) {q : Port} (node : q.nodeState = t.port.nodeState)
    (station : q.station = t.port.station) (reset : q.resetHeld = t.port.resetHeld)
    (held : q.resetHeld = true → t.port.response = none → t.port.commandSlot = none →
      q.response = none ∧ q.commandSlot = none)
    (slot : (∀ c, t.port.commandSlot = some c → t.port.response = none ∧ (commandCode c).isSome = true) →
      ∀ c, q.commandSlot = some c → q.response = none ∧ (commandCode c).isSome = true) :
    Upholds s { t with port := q } := by
  refine h.trans ⟨fun z => ?_, fun z => z.congr rfl, fun z => z.congr rfl node, fun _ z => ?_, fun r => reset ▸ r⟩
  · exact { z with }
  · refine ⟨fun r => ?_, slot z.slot, ?_, ?_, ?_⟩
    · obtain ⟨unconfigured, response, free, sent⟩ := z.held (reset ▸ r)
      obtain ⟨response', free'⟩ := held r response free
      exact ⟨node.trans unconfigured, response', free', sent⟩
    · simpa only [node, station] using z.station
    · simpa only [node] using z.quiet
    · simpa only [State.driven, station] using z.source

/-- The node enters a state past CONFIGURE from another; outside ONLINE nothing is queued. -/
theorem Upholds.toNode (h : Upholds s t) {n : NodeState} {d : Option Millis} (new : n ≠ .unconfigured)
    (silent : t.LineLaw → n ≠ .online → t.line.txQueue = [])
    (past : t.PortLaw → t.port.nodeState ≠ .unconfigured) :
    Upholds s { t with port := { t.port with nodeState := n, listenDeadline := d } } := by
  refine h.trans ⟨fun z => ?_, fun z => z.congr rfl, fun z => ?_, fun _ z => ?_, id⟩
  · exact { z with }
  · exact ⟨silent z, z.ordered, z.oneAttempt, z.transmitting⟩
  · exact ⟨fun r => absurd (z.held r).1 (past z), z.slot, fun _ => z.station (past z), fun e => absurd e new, z.source⟩

/-- A host command keeps the laws that its own rule keeps on a port whose reset is not held (R176, R177). -/
theorem upholds_hostCommand_running {c : Instr} {body : State → CommandResult} (host : (commandCode c).isSome = true)
    (ok : s.port.resetHeld = false → Answers (Upholds s) (body s)) : Yields (Upholds s) (hostCommand c body s) := by
  unfold hostCommand
  split
  · exact Upholds.refl s
  next running =>
  have running : s.port.resetHeld = false := by simpa using running
  split
  · exact (Upholds.refl s).withPort rfl rfl rfl (fun r => absurd r (by simp [running])) id
  next free =>
  have free : s.port.response = none ∧ s.port.commandSlot = none := by simpa using free
  split
  · refine (Upholds.refl s).withPort rfl rfl rfl (fun r => absurd r (by simp [running])) fun _ c' e => ?_
    obtain rfl := Option.some.inj e
    exact ⟨free.1, host⟩
  · have answered : ∀ (t : State) (r : HostResult) (payload : List Byte), Upholds s t →
        Upholds s (t.answered r payload) := fun t r payload h =>
      h.withPort rfl rfl rfl (fun held => absurd (h.reset held) (by simp [running])) fun _ c' e => nomatch e
    unfold takeCommand
    have ok := ok running
    cases e : body s with
    | error r => exact answered s r [] (.refl s)
    | ok p =>
      rw [e] at ok
      exact answered p.1 .ok p.2 ok

theorem upholds_hostCommand {c : Instr} {body : State → CommandResult} (host : (commandCode c).isSome = true)
    (ok : Answers (Upholds s) (body s)) : Yields (Upholds s) (hostCommand c body s) :=
  upholds_hostCommand_running host fun _ => ok

/-! ### The line -/

/-- Changes of the line that leave the transmit queue: the condition of an attempt stays, and the line of an
unconfigured node stays quiet. -/
theorem Upholds.withLine (h : Upholds s t) {l : Line} (queue : l.txQueue = t.line.txQueue)
    (sent : l.lastSent = t.line.lastSent)
    (received : t.line.rxQueue.length ≤ Config.rxMax → l.rxQueue.length ≤ Config.rxMax)
    (busy : t.line.attempting = true → t.line.condition = .transmitting → l.condition = .transmitting)
    (quiet : t.line.receiver = .stopped → t.line.condition = .idle → l.receiver = .stopped ∧ l.condition = .idle) :
    Upholds s { t with line := l } := by
  refine h.trans ⟨fun z => ?_, fun z => z.congr rfl, fun z => ?_, fun _ z => ?_, id⟩
  · exact { z with txQueue := queue ▸ z.txQueue, rxQueue := received z.rxQueue }
  · have attempting : l.attempting = t.line.attempting := by simp only [Line.attempting, queue]
    refine ⟨fun n => queue ▸ z.silent n, ?_, ?_, fun a => ?_⟩
    · simpa only [Line.Ordered, queue] using z.ordered
    · simpa only [Line.sendingCount, queue] using z.oneAttempt
    · exact busy (attempting ▸ a) (z.transmitting (attempting ▸ a))
  · refine ⟨fun r => ?_, z.slot, z.station, fun u => ?_, fun w hw => ?_⟩
    · obtain ⟨unconfigured, response, free, none⟩ := z.held r
      exact ⟨unconfigured, response, free, sent.trans none⟩
    · obtain ⟨stopped, idle⟩ := z.quiet u
      exact quiet stopped idle
    · obtain driven | last := hw
      · exact State.driven_source driven
      · exact z.source w (.inr (sent ▸ last))

/-- What the end of an attempt leaves of the queue: no more frames, in order, none in transmission. -/
structure QueueEnds (q q' : List TxFrame) : Prop where
  size : q'.length ≤ q.length
  ordered : q.Pairwise (fun f g => f.kind.cls ≤ g.kind.cls) → q'.Pairwise (fun f g => f.kind.cls ≤ g.kind.cls)
  waits : ∀ g ∈ q', g.sending = false

theorem withoutSending_ends (q : List TxFrame) : QueueEnds q (withoutSending q) where
  size := List.length_filter_le ..
  ordered h := h.sublist List.filter_sublist
  waits g hg := by simpa using (List.mem_filter.mp hg).2

theorem attemptEnded_ends (q : List TxFrame) : QueueEnds q (attemptEnded q) where
  size := List.length_filterMap_le ..
  ordered := pairwise_cls_filterMap fun g g' e => by
    split at e
    · split at e <;> cases e
      rfl
    · cases e
      rfl
  waits g' hg' := by
    obtain ⟨g, -, e⟩ := List.mem_filterMap.mp hg'
    split at e
    · split at e <;> cases e
      rfl
    · next waits =>
      cases e
      simpa using waits

theorem attemptEnded_countError_ends (q : List TxFrame) : QueueEnds q (attemptEnded (countError q)) where
  size := (attemptEnded_ends _).size.trans (List.length_map ..).le
  ordered h := (attemptEnded_ends _).ordered <| List.pairwise_map.mpr <| h.imp fun {f g} le => by
    have kind : ∀ x : TxFrame, (if x.sending then { x with bitErrors := x.bitErrors + 1 } else x).kind = x.kind :=
      fun x => by split <;> rfl
    rw [kind, kind]
    exact le
  waits := (attemptEnded_ends _).waits

/-- The end of an attempt, which runs at an ONLINE node only. -/
theorem Upholds.endAttempt (h : Upholds s t) {l : Line} (busy : t.line.attempting = true)
    (queue : QueueEnds t.line.txQueue l.txQueue) (received : l.rxQueue = t.line.rxQueue)
    (sent : l.lastSent = t.line.lastSent ∨ l.lastSent = t.driven) : Upholds s { t with line := l } := by
  have online : t.LineLaw → t.port.nodeState = .online := fun z => by
    by_contra n
    obtain ⟨g, hg, -⟩ := Line.attempting_iff.mp busy
    rw [z.silent n] at hg
    exact List.not_mem_nil hg
  have still : l.attempting = false := Line.attempting_eq_false.mpr queue.waits
  refine h.trans ⟨fun z => ?_, fun z => z.congr rfl, fun z => ?_, fun zl z => ?_, id⟩
  · exact { z with txQueue := queue.size.trans z.txQueue, rxQueue := received ▸ z.rxQueue }
  · refine ⟨fun n => absurd (online z) n, queue.ordered z.ordered, ?_, fun a => absurd (still.symm.trans a) (by decide)⟩
    have none : ¬ 0 < l.sendingCount := fun c => by
      rw [Line.attempting_iff_sendingCount.mpr c] at still
      cases still
    exact (Nat.not_lt.mp none).trans (Nat.zero_le 1)
  · have past : t.port.nodeState ≠ .unconfigured := by simp [online zl]
    refine ⟨fun r => absurd (z.held r).1 past, z.slot, z.station, fun u => absurd u past, fun w hw => ?_⟩
    obtain driven | last := hw
    · exact State.driven_source driven
    · obtain e | e := sent
      · exact z.source w (.inr (e ▸ last))
      · exact State.driven_source (s := t) (e.symm.trans last)

/-- A node past CONFIGURE enters LISTEN_ONLY (R44). -/
theorem Upholds.enterListenOnly (h : Upholds s t) (past : t.PortLaw → t.port.nodeState ≠ .unconfigured) :
    Upholds s t.enterListenOnly := by
  have lost : Upholds t { t with line := { t.line with txQueue := [] } } :=
    (refl t).withQueue (fun _ _ => rfl) (fun _ => Nat.zero_le _) (fun _ => List.Pairwise.nil) (Nat.zero_le _)
  have quiet : Upholds t { t with
      line := { t.line with txQueue := [] }, roster := { t.roster with beacon := none } } := lost.withRoster id
  refine h.trans (quiet.toNode (by decide) (fun _ _ => rfl) fun z => past ?_)
  exact { z with source := fun w hw => hw.elim State.driven_source fun sent => z.source w (.inr sent) }

/-- A receiver that runs belongs to a node past CONFIGURE (R26). -/
theorem State.PortLaw.past_of_running (h : s.PortLaw) (running : s.line.receiver ≠ .stopped) :
    s.port.nodeState ≠ .unconfigured := fun u => running (h.quiet u).1

/-! ### Deliveries -/

/-- A received frame is taken from its queue (R38). -/
theorem Upholds.takeReceived (h : Upholds s t) {f : RxFrame} {rest : List RxFrame}
    (queue : t.line.rxQueue = f :: rest) :
    Upholds s { t with line := { t.line with rxQueue := rest } } :=
  h.withLine rfl rfl (fun size => by rw [queue] at size; exact (Nat.le_succ _).trans size) (fun _ => id)
    fun stopped idle => ⟨stopped, idle⟩

/-- A delivery keeps the laws that the consumer keeps (R39). -/
theorem upholds_deliver {kind : FrameKind} {act : State → RxFrame → State} (taken : ∀ u f, Upholds u (act u f)) :
    Yields (Upholds s) (deliver kind act s) := by
  unfold deliver
  split
  · exact Upholds.refl s
  next f rest queue =>
  split
  · have heard := ((Upholds.refl s).takeReceived queue).rosterTakes (f := f) (k := kind)
      (ok := !s.addressed f || f.fieldsOk kind)
    dsimp only
    split
    · exact heard.trans (taken _ f)
    · exact heard
  · exact Upholds.refl s

end

section
variable (s : State)

/-! ### Local port -/

theorem execReadTransaction_upholds (n : Nat) : Yields (Upholds s) (execReadTransaction n s) := by
  unfold execReadTransaction
  split
  · exact Upholds.refl s
  split
  · exact (Upholds.refl s).withPort rfl rfl rfl (fun _ r c => ⟨r, c⟩) id
  · next r response =>
    refine (Upholds.refl s).withPort rfl rfl rfl (fun _ none => ?_) fun slot c e => ?_
    · cases response.symm.trans none
    · cases response.symm.trans (slot c e).1

theorem execCommandCollision_upholds : Yields (Upholds s) (execCommandCollision s) :=
  upholds_onlyIf fun _ => (Upholds.refl s).withPort rfl rfl rfl (fun _ r c => ⟨r, c⟩) id

theorem execUnknownCommand_upholds (code : Byte) (payload : List Byte) :
    Yields (Upholds s) (execUnknownCommand code payload s) := upholds_hostCommand rfl trivial

variable {s} in
theorem Upholds.withNotices {t : State} (h : Upholds s t) {q : NoticeQueue}
    (size : q.entries.length ≤ t.notices.entries.length) : Upholds s { t with notices := q } := by
  refine h.trans (.aside rfl rfl (fun z => ?_) fun z => z.congr rfl)
  exact { z with notices := size.trans z.notices }

theorem execReadStatus_upholds : Yields (Upholds s) (execReadStatus s) := by
  refine upholds_hostCommand rfl ?_
  have port : Upholds s { s with port := { s.port with collision := false } } :=
    (Upholds.refl s).withPort rfl rfl rfl (fun _ r c => ⟨r, c⟩) id
  have notices := port.withNotices (q := { s.notices with overflow := false }) le_rfl
  exact notices.withLine (l := { s.line with rxOverrun := false }) rfl rfl id (fun _ => id)
    fun stopped idle => ⟨stopped, idle⟩

theorem execReadNotice_upholds : Yields (Upholds s) (execReadNotice s) := by
  refine upholds_hostCommand rfl ?_
  unfold readNoticeBody
  split
  · exact Upholds.refl s
  · next n rest entries => exact (Upholds.refl s).withNotices (by rw [entries]; exact Nat.le_succ _)

/-- The straps of a node that is configured give it a number 1 to 62 (R183). -/
theorem station_mem {n : BitVec 6} (h : ¬ (n.toNat = 0 ∨ n.toNat = 63)) : 1 ≤ n.toNat ∧ n.toNat ≤ 62 := by
  have := n.isLt
  omega

variable {s} in
/-- CONFIGURE at an unconfigured node whose station number is in range: nothing is queued before it. -/
theorem configure_upholds {c : NodeConfig} (running : s.port.resetHeld = false) (before : s.configured = false)
    (station : 1 ≤ s.port.station.toNat ∧ s.port.station.toNat ≤ 62) : Upholds s (s.configure c) := by
  have unconfigured : s.port.nodeState = .unconfigured := by simpa [State.configured] using before
  refine ⟨fun z => ?_, fun z => z.congr rfl, fun z => ?_, fun _ z => ?_, id⟩
  · exact { z with }
  · have empty : s.line.txQueue = [] := z.silent (by simp [unconfigured])
    refine ⟨fun _ => empty, z.ordered, z.oneAttempt, fun a => ?_⟩
    obtain ⟨g, hg, -⟩ := Line.attempting_iff.mp a
    rw [show (s.configure c).line.txQueue = [] from empty] at hg
    cases hg
  · exact ⟨fun r => absurd (running.symm.trans r) (by decide), z.slot, fun _ => station, nofun, z.source⟩

theorem execConfigure_upholds (payload : List Byte) : Yields (Upholds s) (execConfigure payload s) :=
  upholds_hostCommand_running rfl fun running => .unless fun _ => .unless fun before => .unless fun station =>
    configure_upholds running (by simpa using before) (station_mem station)

theorem execJoin_upholds : Yields (Upholds s) (execJoin s) := by
  refine upholds_hostCommand rfl (.unless fun _ => .unless fun configured => ?_)
  have configured : s.port.nodeState = .configured := by simpa using configured
  exact (Upholds.refl s).toNode (by decide) (fun z _ => z.silent (by simp [configured])) fun _ => by simp [configured]

variable {s} in
theorem Upholds.restartCustody {t : State} (h : Upholds s t) : Upholds s t.restartCustody := by
  have abandoned : Upholds s (t.lapseAll (fun _ => true) .rejoin).abandonCalls :=
    h.lapseAll.foldl fun u _ => (refl u).closeCall
  exact abandoned.withRecords

variable {s} in
theorem Upholds.restartDemand {t : State} (h : Upholds s t) : Upholds s t.restartDemand := by
  have rows : Upholds s { t with reservations := [] } :=
    h.withRows (fun _ => Nat.zero_le _) fun _ => ⟨List.nodup_nil, fun _ hr => nomatch hr⟩
  exact (rows.withBank (b := { t.bank with pockets := t.bank.pockets.map (fun k => { k with reservedFor := none }) })
    rfl).withDemand

/-- REJOIN at an ONLINE node: both queues are empty before it leaves ONLINE (R56). -/
theorem State.rejoin_upholds (online : s.port.nodeState = .online) : Upholds s s.rejoin := by
  have lost : Upholds s { s with line := { s.line with txQueue := [] } } :=
    (Upholds.refl s).withQueue (fun _ _ => rfl) (fun _ => Nat.zero_le _) (fun _ => List.Pairwise.nil) (Nat.zero_le _)
  have emptied : Upholds s { s with line := { s.line with txQueue := [], rxQueue := [] } } :=
    lost.withLine (l := { s.line with txQueue := [], rxQueue := [] }) rfl rfl (fun _ => Nat.zero_le _) (fun _ => id)
      fun stopped idle => ⟨stopped, idle⟩
  have restarted : Upholds s s.restartLine := emptied.withRoster fun _ => List.length_replicate ..
  have listens : Upholds s s.restartLine.listen :=
    restarted.toNode (by decide) (fun _ _ => rfl) fun _ => by simp [State.restartLine, online]
  exact listens.restartCustody.restartDemand

theorem execRejoin_upholds : Yields (Upholds s) (execRejoin s) :=
  upholds_hostCommand rfl (.unless fun _ => .unless fun online =>
    s.rejoin_upholds (by simpa [State.online] using online))

/-- The straps are read at a node that has sent nothing since its reset (R183). -/
theorem execResetEnds_upholds (straps : BitVec 6) : Yields (Upholds s) (execResetEnds straps s) := by
  refine upholds_onlyIf fun held => ⟨fun z => ?_, fun z => z.congr rfl, fun z => z.congr rfl rfl, fun _ z => ?_, nofun⟩
  · exact { z with }
  · obtain ⟨unconfigured, -, -, none⟩ := z.held held
    refine ⟨nofun, z.slot, fun past => absurd unconfigured past, z.quiet, fun w hw => ?_⟩
    obtain driven | last := hw
    · exact State.driven_source driven
    · cases none.symm.trans last

/-! ### Roster -/

theorem execReadPeer_upholds (b : Byte) : Yields (Upholds s) (execReadPeer b s) := by
  refine upholds_hostCommand rfl (.unless fun _ => .unless fun _ => ?_)
  split
  · exact trivial
  · exact Upholds.refl s

theorem execPardon_upholds (b : Byte) : Yields (Upholds s) (execPardon b s) :=
  upholds_hostCommand rfl (.unless fun _ => .unless fun _ => (Upholds.refl s).setPeer)

theorem execNodeOnline_upholds : Yields (Upholds s) (execNodeOnline s) := by
  refine upholds_onlyIf fun ready => ?_
  have online : Upholds s { s with port := { s.port with nodeState := .online, listenDeadline := none } } :=
    (Upholds.refl s).toNode (by decide) (fun _ n => absurd rfl n) fun _ => by simp [ready.1]
  exact online.post.offerPresence

theorem execBeaconExpiry_upholds : Yields (Upholds s) (execBeaconExpiry s) :=
  upholds_onlyIf fun _ => (Upholds.refl s).offerPresence

theorem execPeerAbsent_upholds (n : Nat) : Yields (Upholds s) (execPeerAbsent n s) := by
  unfold execPeerAbsent
  split
  · exact Upholds.refl s
  · exact upholds_onlyIf fun _ => (Upholds.refl s).goAbsent

theorem execMalformedFrame_upholds : Yields (Upholds s) (execMalformedFrame s) := by
  unfold execMalformedFrame
  split
  · exact Upholds.refl s
  · next queue => exact upholds_onlyIf fun _ => ((Upholds.refl s).takeReceived queue).hear.strike

theorem execPresence_upholds : Yields (Upholds s) (execPresence s) :=
  upholds_deliver fun u _ => (Upholds.refl u).presenceReport

/-! ### Custody -/

theorem execCall_upholds : Yields (Upholds s) (execCall s) := upholds_deliver fun u _ => (Upholds.refl u).takeCall

theorem execOffer_upholds : Yields (Upholds s) (execOffer s) := upholds_deliver fun u _ => (Upholds.refl u).takeOffer

theorem execAccept_upholds : Yields (Upholds s) (execAccept s) := upholds_deliver fun u _ => (Upholds.refl u).takeAccept

theorem execDecline_upholds : Yields (Upholds s) (execDecline s) :=
  upholds_deliver fun u _ => (Upholds.refl u).takeDecline

theorem execHere_upholds : Yields (Upholds s) (execHere s) := upholds_deliver fun u _ => (Upholds.refl u).takeHere

theorem execCheck_upholds : Yields (Upholds s) (execCheck s) := upholds_deliver fun u _ => (Upholds.refl u).takeCheck

theorem execCheckReply_upholds : Yields (Upholds s) (execCheckReply s) :=
  upholds_deliver fun u _ => (Upholds.refl u).takeCheckReply

theorem execDemand_upholds : Yields (Upholds s) (execDemand s) := upholds_deliver fun u _ => (Upholds.refl u).takeDemand

theorem execCallWaitExpiry_upholds (slot : Nat) : Yields (Upholds s) (execCallWaitExpiry slot s) := by
  unfold execCallWaitExpiry
  split
  · exact Upholds.refl s
  split
  · exact Upholds.refl s
  split
  · exact Upholds.refl s
  split
  · exact (Upholds.refl s).retryCall
  · exact (Upholds.refl s).closeCall

theorem execOfferWaitExpiry_upholds (slot : Nat) : Yields (Upholds s) (execOfferWaitExpiry slot s) := by
  unfold execOfferWaitExpiry
  split
  · exact Upholds.refl s
  split
  · exact Upholds.refl s
  split
  · exact Upholds.refl s
  split
  · exact (Upholds.refl s).retryOffer
  · exact (Upholds.refl s).lapse

theorem execCheckWaitExpiry_upholds (tool : ToolId) : Yields (Upholds s) (execCheckWaitExpiry tool s) := by
  unfold execCheckWaitExpiry
  split
  · exact Upholds.refl s
  split
  · exact upholds_onlyIf fun _ => (Upholds.refl s).setState.removeFrames
  · exact Upholds.refl s

/-! ### Record commands -/

theorem execCreate_upholds (kind number : Byte) (image : List Byte) :
    Yields (Upholds s) (execCreate kind number image s) := by
  refine upholds_hostCommand rfl ?_
  unfold createBody
  refine .unless fun _ => .unless fun _ => .unless fun _ => ?_
  split
  · exact trivial
  · exact .unless fun _ => .unless fun _ => .unless fun _ => .unless fun _ => (Upholds.refl s).putAt.displaceRun

theorem execRestore_upholds (state kind number prior counterpart handoff : Byte) (image : List Byte) :
    Yields (Upholds s) (execRestore state kind number prior counterpart handoff image s) := by
  refine upholds_hostCommand rfl ?_
  unfold restoreBody
  refine .unless fun _ => .unless fun _ => .unless fun _ => .unless fun _ => ?_
  split
  · exact trivial
  · exact .unless fun _ => .unless fun _ => .unless fun _ => (Upholds.refl s).restoreAt

theorem execDrop_upholds (tool : ToolId) : Yields (Upholds s) (execDrop tool s) := by
  refine upholds_hostCommand rfl (.unless fun _ => .unless fun _ => ?_)
  split
  · exact trivial
  · exact .unless fun _ => (Upholds.refl s).vacate.depart.markingPass

theorem execResolve_upholds (tool : ToolId) (choice : Byte) : Yields (Upholds s) (execResolve tool choice s) := by
  refine upholds_hostCommand rfl (.unless fun _ => .unless fun _ => ?_)
  split
  · exact trivial
  split
  · split
    · exact (Upholds.refl s).setState.removeFrames.postChanged
    · exact (Upholds.refl s).depart
  · exact trivial

theorem execMarkDamaged_upholds (tool : ToolId) : Yields (Upholds s) (execMarkDamaged tool s) := by
  refine upholds_hostCommand rfl (.unless fun _ => .unless fun _ => ?_)
  split
  · exact trivial
  refine .unless fun _ => ?_
  split
  · exact Upholds.refl s
  · exact (Upholds.refl s).setImage.loseFitness.postChanged

theorem execRegrind_upholds (tool : ToolId) (len : Option (BitVec 24)) :
    Yields (Upholds s) (execRegrind tool len s) := by
  refine upholds_hostCommand rfl (.unless fun _ => .unless fun _ => ?_)
  split
  · exact trivial
  · exact .unless fun _ => .unless fun _ => (Upholds.refl s).setImage.loseFitness.postChanged

theorem execReadRecord_upholds (tool : ToolId) : Yields (Upholds s) (execReadRecord tool s) := by
  refine upholds_hostCommand rfl (.unless fun _ => .unless fun _ => ?_)
  split
  · exact trivial
  · exact Upholds.refl s

theorem execListRecords_upholds (start : Byte) : Yields (Upholds s) (execListRecords start s) :=
  upholds_hostCommand rfl (.unless fun _ => .refl s)

/-! ### Pocket bank -/

theorem execPocketFirstReading_upholds (p : Nat) (high : Bool) :
    Yields (Upholds s) (execPocketFirstReading p high s) := by
  unfold execPocketFirstReading
  split
  · exact Upholds.refl s
  split
  · exact Upholds.refl s
  dsimp only
  split
  · exact (Upholds.refl s).setPocket
  split
  · exact (Upholds.refl s).setPocket.forcedRemoval
  · exact (Upholds.refl s).setPocket.setPocket
  · exact (Upholds.refl s).setPocket.setPocket

theorem execPocketRemoval_upholds (p : Nat) : Yields (Upholds s) (execPocketRemoval p s) := by
  unfold execPocketRemoval
  split
  · exact Upholds.refl s
  · exact upholds_onlyIf fun _ => (Upholds.refl s).setPocket.removal

theorem execPocketInsertion_upholds (p : Nat) : Yields (Upholds s) (execPocketInsertion p s) := by
  unfold execPocketInsertion
  split
  · exact Upholds.refl s
  · exact upholds_onlyIf fun _ => (Upholds.refl s).setPocket.setPocket.insertion

theorem execCurrentSeen_upholds (p : Nat) : Yields (Upholds s) (execCurrentSeen p s) := by
  unfold execCurrentSeen
  split
  · exact Upholds.refl s
  split
  · exact (Upholds.refl s).setPocket
  · exact Upholds.refl s

theorem execPullInExpiry_upholds (p : Nat) : Yields (Upholds s) (execPullInExpiry p s) := by
  unfold execPullInExpiry
  split
  · split
    · split
      · exact Upholds.refl s
      split
      · exact (Upholds.refl s).hold
      · exact (Upholds.refl s).latchFault
    · exact Upholds.refl s
  · exact Upholds.refl s

theorem execShortCurrent_upholds (p : Nat) : Yields (Upholds s) (execShortCurrent p s) := by
  unfold execShortCurrent
  split
  · exact Upholds.refl s
  split
  · exact (Upholds.refl s).latchFault
  · exact (Upholds.refl s).latchFault
  · exact Upholds.refl s

theorem execHoldExpiry_upholds (p : Nat) : Yields (Upholds s) (execHoldExpiry p s) := by
  unfold execHoldExpiry
  split
  · exact Upholds.refl s
  split
  · exact upholds_onlyIf fun _ => (Upholds.refl s).endCourse
  · exact Upholds.refl s

theorem execSupplyLow_upholds : Yields (Upholds s) (execSupplyLow s) :=
  upholds_onlyIf fun _ => (Upholds.refl s).supplyLow

theorem execSupplyNormal_upholds : Yields (Upholds s) (execSupplyNormal s) :=
  upholds_onlyIf fun _ => ((Upholds.refl s).withBank (b := { s.bank with supply := .normal }) rfl).post

theorem execClearPocketFault_upholds (b : Byte) : Yields (Upholds s) (execClearPocketFault b s) := by
  refine upholds_hostCommand rfl (.unless fun _ => ?_)
  split
  · exact trivial
  refine .unless fun _ => ?_
  split
  · exact Upholds.refl s
  · exact (Upholds.refl s).clearFault

theorem execReadPocket_upholds (b : Byte) : Yields (Upholds s) (execReadPocket b s) := by
  refine upholds_hostCommand rfl (.unless fun _ => ?_)
  split
  · exact trivial
  · exact Upholds.refl s

theorem callCommand_upholds (tool : ToolId) (why : Purpose) : Answers (Upholds s) (callCommand s tool why) := by
  unfold callCommand
  split
  · exact trivial
  · next opened => exact (Upholds.refl s).openCall opened

theorem execIdentifyPocket_upholds (b : Byte) (tool : ToolId) : Yields (Upholds s) (execIdentifyPocket b tool s) := by
  refine upholds_hostCommand rfl (.unless fun _ => ?_)
  split
  · exact trivial
  refine .unless fun _ => .unless fun _ => ?_
  split
  · exact callCommand_upholds s _ _
  split
  · exact .unless fun _ => (Upholds.refl s).stock.postChanged
  · exact .unless fun _ => (Upholds.refl s).stock.postChanged
  all_goals exact trivial

/-! ### Panels -/

theorem execDigitKey_upholds (i : PanelId) (d : Nat) : Yields (Upholds s) (execDigitKey i d s) :=
  upholds_onlyIf fun _ => (Upholds.refl s).setPanel

theorem execEnter_upholds (i : PanelId) : Yields (Upholds s) (execEnter i s) := by
  unfold execEnter
  split
  · dsimp only
    split
    · exact (Upholds.refl s).setPanel
    split
    · exact (Upholds.refl s).setPanel.openWindow
    · exact (Upholds.refl s).setPanel.mismatch
  · exact Upholds.refl s

theorem execClear_upholds (i : PanelId) : Yields (Upholds s) (execClear i s) :=
  upholds_onlyIf fun _ => (Upholds.refl s).setPanel.closeWindow

theorem execInterKeyExpiry_upholds (i : PanelId) : Yields (Upholds s) (execInterKeyExpiry i s) :=
  upholds_onlyIf fun _ => (Upholds.refl s).setPanel

theorem execLockoutExpiry_upholds (i : PanelId) : Yields (Upholds s) (execLockoutExpiry i s) :=
  upholds_onlyIf fun _ => (Upholds.refl s).setPanel

theorem execWindowExpiry_upholds (i : PanelId) : Yields (Upholds s) (execWindowExpiry i s) :=
  upholds_onlyIf fun _ => (Upholds.refl s).closeWindow

theorem execIssue_upholds (b : Byte) (cls : BitVec 16) (n : Byte) : Yields (Upholds s) (execIssue b cls n s) := by
  refine upholds_hostCommand rfl ?_
  unfold issueBody
  dsimp only
  split
  · exact trivial
  split
  · exact trivial
  split
  · exact trivial
  · next opened => exact ((Upholds.refl s).openRequest opened).startOperation

theorem execReturn_upholds (b : Byte) (p : Option Byte) : Yields (Upholds s) (execReturn b p s) := by
  refine upholds_hostCommand rfl ?_
  unfold returnBody
  split
  · exact trivial
  split
  · exact trivial
  split
  · exact trivial
  · next opened => exact ((Upholds.refl s).openRequest opened).startOperation.markingPass

theorem execServiceOpen_upholds (b : Byte) (list : List Byte) : Yields (Upholds s) (execServiceOpen b list s) := by
  refine upholds_hostCommand rfl (.unless fun _ => ?_)
  split
  · exact trivial
  · next i _ =>
    have opened := (Upholds.refl s).openEach (i := i) (list := list)
    split
    · exact trivial
    · next e =>
      rw [e] at opened
      exact opened.startOperation.markingPass

theorem execCancel_upholds (b : Byte) : Yields (Upholds s) (execCancel b s) := by
  refine upholds_hostCommand rfl (.unless fun _ => ?_)
  split
  · exact trivial
  refine .unless fun _ => ?_
  split
  · exact trivial
  · next o _ =>
    have closed : Upholds s (o.running.foldl State.closeRequest s) :=
      (Upholds.refl s).foldl fun u _ => (Upholds.refl u).closeRequest
    exact closed.endOperation.markingPass

theorem execReadPanel_upholds (b : Byte) : Yields (Upholds s) (execReadPanel b s) := by
  refine upholds_hostCommand rfl (.unless fun _ => ?_)
  split
  · exact trivial
  · exact .unless fun _ => .refl s

/-! ### Demand and reservations -/

theorem execReadReservations_upholds : Yields (Upholds s) (execReadReservations s) :=
  upholds_hostCommand rfl (.unless fun _ => .refl s)

theorem execSetDemand_upholds (entries : List (BitVec 16 × Byte)) : Yields (Upholds s) (execSetDemand entries s) :=
  upholds_hostCommand rfl (.unless fun _ => .unless fun _ => .unless fun _ =>
    (Upholds.refl s).withDemand.refreshDemand)

theorem execStartDemand_upholds (m i t h : Byte) : Yields (Upholds s) (execStartDemand m i t h s) := by
  refine upholds_hostCommand rfl (.unless fun _ => ?_)
  split
  · exact trivial
  · exact .unless fun _ => .unless fun _ => .unless fun _ => (Upholds.refl s).withDemand.cyclePoint

theorem execStopDemand_upholds : Yields (Upholds s) (execStopDemand s) :=
  upholds_hostCommand rfl (.unless fun _ => .unless fun _ => .unless fun _ => (Upholds.refl s).stopCycles)

theorem execReadDemand_upholds : Yields (Upholds s) (execReadDemand s) :=
  upholds_hostCommand rfl (.unless fun _ => .unless fun _ => .refl s)

theorem execCycleExpiry_upholds : Yields (Upholds s) (execCycleExpiry s) :=
  upholds_onlyIf fun _ => (Upholds.refl s).withDemand.cyclePoint

theorem execTriggerEdge_upholds (high : Bool) : Yields (Upholds s) (execTriggerEdge high s) :=
  upholds_onlyIf fun _ => (Upholds.refl s).cyclePoint

theorem execReservationExpiry_upholds (n cls : Nat) : Yields (Upholds s) (execReservationExpiry n cls s) := by
  unfold execReservationExpiry
  split
  · exact Upholds.refl s
  · exact upholds_onlyIf fun _ => (Upholds.refl s).deleteRows.markingPass.postEnded

/-! ### Magazine and measuring head -/

theorem execLoad_upholds (b : Byte) (tool : ToolId) : Yields (Upholds s) (execLoad b tool s) := by
  refine upholds_hostCommand rfl (.unless fun _ => ?_)
  split
  · exact trivial
  refine .unless fun _ => .unless fun _ => .unless fun _ => ?_
  split
  · split
    · exact trivial
    · next opened => exact ((Upholds.refl s).openCall opened).setSlot
  split
  · exact (Upholds.refl s).loadHere
  all_goals exact trivial

theorem execUnload_upholds (b : Byte) : Yields (Upholds s) (execUnload b s) := by
  refine upholds_hostCommand rfl (.unless fun _ => ?_)
  split
  · exact trivial
  · exact (Upholds.refl s).unloadSlot

theorem execCharge_upholds (b : Byte) (seconds : BitVec 16) : Yields (Upholds s) (execCharge b seconds s) := by
  refine upholds_hostCommand rfl (.unless fun _ => ?_)
  split
  · exact trivial
  refine .unless fun _ => ?_
  split
  · split
    · exact (Upholds.refl s).charge
    · exact Upholds.refl s
  · exact (Upholds.refl s).post

theorem execReadSlot_upholds (b : Byte) : Yields (Upholds s) (execReadSlot b s) := by
  refine upholds_hostCommand rfl (.unless fun _ => ?_)
  split
  · exact trivial
  · exact Upholds.refl s

theorem execIdentifyHead_upholds (tool : ToolId) : Yields (Upholds s) (execIdentifyHead tool s) := by
  refine upholds_hostCommand rfl (.unless fun _ => .unless fun _ => .unless fun _ => ?_)
  split
  · exact callCommand_upholds s _ _
  split
  · exact .unless fun _ => (Upholds.refl s).setState.postChanged
  · exact .unless fun _ => (Upholds.refl s).setState.postChanged
  all_goals exact trivial

theorem execMeasureReference_upholds (n : Byte) (t : BitVec 16) : Yields (Upholds s) (execMeasureReference n t s) :=
  upholds_hostCommand rfl (measureReferenceBody_answers fun _ => (Upholds.refl s).startRun)

theorem execMeasure_upholds (tool : ToolId) (n : Byte) (t : BitVec 16) : Yields (Upholds s) (execMeasure tool n t s) :=
  upholds_hostCommand rfl (measureBody_answers fun _ => (Upholds.refl s).startMeasurement)

theorem execAbortMeasure_upholds : Yields (Upholds s) (execAbortMeasure s) :=
  upholds_hostCommand rfl (.unless fun _ => .unless fun _ => .unless fun _ => (Upholds.refl s).endRun)

theorem execReadHead_upholds : Yields (Upholds s) (execReadHead s) :=
  upholds_hostCommand rfl (.unless fun _ => .unless fun _ => .refl s)

theorem execScaleStep_upholds (scale : Scale) (up : Bool) : Yields (Upholds s) (execScaleStep scale up s) := by
  unfold execScaleStep
  split
  · exact Upholds.refl s
  · cases scale <;> exact (Upholds.refl s).withHead

theorem execScaleError_upholds (scale : Scale) : Yields (Upholds s) (execScaleError scale s) :=
  upholds_onlyIf fun _ => (Upholds.refl s).scaleError

theorem execCapture_upholds (rising : Bool) : Yields (Upholds s) (execCapture rising s) := by
  unfold execCapture
  split
  · exact Upholds.refl s
  split
  · exact (Upholds.refl s).post
  · exact (Upholds.refl s).takeSample

theorem execCaptureTimeout_upholds : Yields (Upholds s) (execCaptureTimeout s) :=
  upholds_onlyIf fun _ => (Upholds.refl s).endRun

theorem execSeatFirstReading_upholds (high : Bool) : Yields (Upholds s) (execSeatFirstReading high s) :=
  upholds_onlyIf fun _ => (Upholds.refl s).withHead

theorem execHeadSeated_upholds : Yields (Upholds s) (execHeadSeated s) :=
  upholds_onlyIf fun _ => (Upholds.refl s).withHead.post

theorem execHeadUnseated_upholds : Yields (Upholds s) (execHeadUnseated s) :=
  upholds_onlyIf fun _ => (Upholds.refl s).unseat

/-! ### Hall line -/

theorem execLineIdle_upholds : Yields (Upholds s) (execLineIdle s) := by
  refine upholds_onlyIf fun ends => ?_
  simp only [Bool.and_eq_true, Bool.or_eq_true, beq_iff_eq, Bool.not_eq_true'] at ends
  obtain ⟨condition, still⟩ := ends
  refine ((Upholds.refl s).withLine (l := { s.line with condition := .idle, receiver := .waiting }) rfl rfl id
    (fun busy => ?_) fun _ idle => ?_).startAttempt
  · cases still.symm.trans busy
  · simp [idle] at condition

theorem execDominantEdge_upholds : Yields (Upholds s) (execDominantEdge s) := by
  refine upholds_onlyIf fun edge => ?_
  simp only [Line.running, Bool.and_eq_true, bne_iff_ne, beq_iff_eq] at edge
  obtain ⟨running, idle⟩ := edge
  refine (Upholds.refl s).withLine rfl rfl id (fun _ transmitting => ?_) fun stopped => absurd stopped running
  cases idle.symm.trans transmitting

theorem execArbitrationLost_upholds : Yields (Upholds s) (execArbitrationLost s) :=
  upholds_onlyIf fun busy => (Upholds.refl s).endAttempt busy (attemptEnded_ends _) rfl (.inl rfl)

/-- An attempt is in progress exactly when a frame is in transmission. -/
theorem Line.attempting_of_sendingFrame {l : Line} {f : TxFrame} (h : l.sendingFrame = some f) : l.attempting = true :=
  Line.attempting_iff.mpr ⟨f, List.mem_of_find?_eq_some h, List.find?_some h⟩

theorem execBitError_upholds (mark : Bool) : Yields (Upholds s) (execBitError mark s) := by
  unfold execBitError
  split
  · exact Upholds.refl s
  next f sending =>
  have ended : ∀ q, QueueEnds s.line.txQueue q → Upholds s { s with line := { s.line with
      txQueue := q, condition := .receiving, receiver := if mark then .assembling else .waiting } } := fun q ends =>
    (Upholds.refl s).endAttempt (Line.attempting_of_sendingFrame sending) ends rfl (.inl rfl)
  unfold State.abortAttempt
  split
  · exact ended _ (withoutSending_ends _)
  split
  · exact ended _ (attemptEnded_countError_ends _)
  · exact (ended _ (withoutSending_ends _)).postDiscarded.notQueued

theorem execFrameSent_upholds : Yields (Upholds s) (execFrameSent s) := by
  unfold execFrameSent
  split
  · exact Upholds.refl s
  next f sending =>
  have sent : Upholds s { s with line := { s.line with
      txQueue := withoutSending s.line.txQueue, receiver := .waiting, lastSent := s.driven } } :=
    (Upholds.refl s).endAttempt (Line.attempting_of_sendingFrame sending) (withoutSending_ends _) rfl (.inr rfl)
  exact sent.reportSent.notQueued

theorem execStartMarkRead_upholds (width : Nat) : Yields (Upholds s) (execStartMarkRead width s) := by
  refine upholds_onlyIf fun read => ?_
  simp only [Line.running, Bool.and_eq_true, bne_iff_ne, Bool.not_eq_true'] at read
  obtain ⟨⟨⟨running, -⟩, still⟩, -⟩ := read
  exact (Upholds.refl s).withLine rfl rfl id (fun busy => absurd (still.symm.trans busy) (by decide))
    fun stopped => absurd stopped running

theorem execFramingError_upholds (cause : FramingCause) : Yields (Upholds s) (execFramingError cause s) := by
  refine upholds_onlyIf fun err => ?_
  simp only [Bool.and_eq_true, beq_iff_eq] at err
  obtain ⟨⟨assembling, -⟩, -⟩ := err
  exact (Upholds.refl s).withLine rfl rfl id (fun _ => id) fun stopped => nomatch assembling.symm.trans stopped

variable {s} in
/-- A valid frame at a node past CONFIGURE: dropped, queued, or a duplicate station (R37, R38, R43). -/
theorem Upholds.takeValid {t : State} (h : Upholds s t) {f : WireFrame} (running : t.line.receiver ≠ .stopped) :
    Upholds s (t.takeValid f) := by
  have same : ∀ stopped : t.line.receiver = .stopped, t.line.condition = .idle →
      t.line.receiver = .stopped ∧ t.line.condition = .idle := fun stopped idle => ⟨stopped, idle⟩
  unfold State.takeValid
  split
  · exact h
  split
  · unfold State.duplicateStation
    split
    · exact h
    · have seen : Upholds s { t with line := { t.line with duplicateSeen := true } } :=
        h.withLine rfl rfl id (fun _ => id) same
      exact seen.post.enterListenOnly fun z => z.past_of_running (by simpa using running)
  split
  · exact h
  · unfold State.queueReceived
    split
    · next room =>
      exact h.withLine rfl rfl (fun _ => by simpa using room) (fun _ => id) same
    · exact h.withLine rfl rfl id (fun _ => id) same

theorem execFrameReceived_upholds (f : WireFrame) : Yields (Upholds s) (execFrameReceived f s) := by
  refine upholds_onlyIf fun whole => ?_
  simp only [Bool.and_eq_true, beq_iff_eq] at whole
  obtain ⟨⟨assembling, -⟩, -⟩ := whole
  have read : Upholds s { s with line := { s.line with receiver := .waiting } } :=
    (Upholds.refl s).withLine rfl rfl id (fun _ => id) fun stopped => nomatch assembling.symm.trans stopped
  split
  · exact read.takeValid (by simp)
  · exact read

variable {s} in
theorem Upholds.driverFault {t : State} (h : Upholds s t) (running : t.line.receiver ≠ .stopped) :
    Upholds s t.driverFault := by
  have disabled : Upholds s { t with line := { t.line with driverDisabled := true } } :=
    h.withLine rfl rfl id (fun _ => id) fun stopped idle => ⟨stopped, idle⟩
  exact disabled.post.enterListenOnly fun z => z.past_of_running (by simpa using running)

theorem execLineHeld_upholds (ns : Nat) (asserting : Bool) : Yields (Upholds s) (execLineHeld ns asserting s) := by
  refine upholds_onlyIf fun held => ?_
  simp only [Line.running, Bool.and_eq_true, bne_iff_ne, Bool.not_eq_true'] at held
  obtain ⟨⟨running, -⟩, still⟩ := held
  have held : Upholds s { s with line := { s.line with
      condition := .held, receiver := .waiting, heldSince := some ns } } :=
    (Upholds.refl s).withLine rfl rfl id (fun busy => absurd (still.symm.trans busy) (by decide))
      fun stopped => absurd stopped running
  dsimp only
  split
  · exact held.post.driverFault (by simp)
  · exact held.post

theorem execLineReleased_upholds (ns : Nat) : Yields (Upholds s) (execLineReleased ns s) := by
  refine upholds_onlyIf fun held => ?_
  have held : s.line.condition = .held := by simpa using held
  have free : Upholds s { s with line := { s.line with
      condition := .idle, receiver := .waiting, heldSince := none } } := by
    refine (Upholds.refl s).withLine rfl rfl id (fun _ transmitting => ?_) fun _ idle => ?_
    · cases held.symm.trans transmitting
    · cases held.symm.trans idle
  dsimp only
  split
  · exact free.post.offerPresence.startAttempt
  · exact free.post

end

end Sys2Proof.Machine
end

section
/-! SUPPORT. O4, O5 and O6: the laws at reset, and the laws of sizes, rows, line and port over every step. -/

namespace Sys2Proof.Machine

/-! ### The reset state -/

theorem reset_sized : State.reset.Sized where
  notices := Nat.zero_le _
  txQueue := Nat.zero_le _
  rxQueue := Nat.zero_le _
  peers := List.length_replicate ..
  calls := List.length_replicate ..
  outs := List.length_replicate ..
  accepted := Nat.zero_le _
  pullIns := List.length_replicate ..
  reservations := Nat.zero_le _

theorem reset_reservationLaw : State.reset.ReservationLaw where
  oneEach := List.nodup_nil
  wanted _ h := nomatch h

theorem reset_lineLaw : State.reset.LineLaw where
  silent _ := rfl
  ordered := List.Pairwise.nil
  oneAttempt := Nat.zero_le _
  transmitting := nofun

theorem reset_portLaw : State.reset.PortLaw where
  held _ := ⟨rfl, rfl, rfl, rfl⟩
  slot := nofun
  station h := absurd rfl h
  quiet _ := ⟨rfl, rfl⟩
  source w h := by rcases h with h | h <;> cases h

theorem reset_pocket? (p : Nat) : State.reset.pocket? p = none := by simp [State.pocket?, State.reset, Bank.atReset]

theorem reset_slot? (n : Nat) : State.reset.slot? n = none := by simp [State.slot?, State.reset]

theorem reset_noCall (c : CallSlot) : some c ∉ State.reset.custody.calls := by simp [State.reset, Custody.atReset]

theorem reset_noOffer (o : OutSlot) : some o ∉ State.reset.custody.outs := by simp [State.reset, Custody.atReset]

theorem reset_driveLaw : State.reset.DriveLaw where
  energised := Nat.zero_le _
  noSupply := nofun
  noFault _ h := nomatch h

theorem reset_pullInLaw : State.reset.PullInLaw where
  slots := List.length_replicate ..
  held p k h := by rw [reset_pocket?] at h; cases h

theorem reset_recordLaw : State.reset.RecordLaw where
  distinct := List.nodup_nil
  rows := Nat.zero_le _
  calm _ := rfl

theorem reset_holdLaw : State.reset.HoldLaw where
  held p k why h := by rw [reset_pocket?] at h; cases h
  single i o h := by cases i <;> cases h

/-- No record is held, and no pocket, slot or call waits for one. -/
theorem reset_placeLaw : State.reset.PlaceLaw where
  pockets p tool := by simp only [reset_pocket?]; simp [State.reset]
  slots n tool := by rw [reset_slot?]; simp [State.reset]
  head _ h := nomatch h
  run tool := by simp [State.reset, Head.atReset]
  absent _ h := nomatch h
  calls c h := absurd h (reset_noCall c)
  calling n tool h := by rw [reset_slot?] at h; cases h
  purposes := List.nodup_nil
  bare _ := rfl

theorem reset_offerLaw : State.reset.OfferLaw where
  record o h := absurd h (reset_noOffer o)
  slot _ h := nomatch h
  once := List.nodup_nil

/-! ### Every command -/

/-- Every command but RESET, which begins the reset that the others do not. -/
theorem exec_upholds (s : State) (c : Instr) (h : c ≠ .reset) : Yields (Upholds s) (exec c s) := by
  cases c with
  | reset => exact absurd rfl h
  | readTransaction bytesOut => exact execReadTransaction_upholds s bytesOut
  | commandCollision => exact execCommandCollision_upholds s
  | unknownCommand code payload => exact execUnknownCommand_upholds s code payload
  | readStatus => exact execReadStatus_upholds s
  | readNotice => exact execReadNotice_upholds s
  | configure payload => exact execConfigure_upholds s payload
  | restore state kind number prior counterpart handoff image =>
    exact execRestore_upholds s state kind number prior counterpart handoff image
  | join => exact execJoin_upholds s
  | rejoin => exact execRejoin_upholds s
  | readPeer station => exact execReadPeer_upholds s station
  | pardon station => exact execPardon_upholds s station
  | create kind number image => exact execCreate_upholds s kind number image
  | drop tool => exact execDrop_upholds s tool
  | resolve tool choice => exact execResolve_upholds s tool choice
  | markDamaged tool => exact execMarkDamaged_upholds s tool
  | regrind tool len => exact execRegrind_upholds s tool len
  | readRecord tool => exact execReadRecord_upholds s tool
  | listRecords start => exact execListRecords_upholds s start
  | issue panel cls forStation => exact execIssue_upholds s panel cls forStation
  | returnTool panel pocket => exact execReturn_upholds s panel pocket
  | serviceOpen panel list => exact execServiceOpen_upholds s panel list
  | cancel panel => exact execCancel_upholds s panel
  | identifyPocket pocket tool => exact execIdentifyPocket_upholds s pocket tool
  | clearPocketFault pocket => exact execClearPocketFault_upholds s pocket
  | readPocket pocket => exact execReadPocket_upholds s pocket
  | readPanel panel => exact execReadPanel_upholds s panel
  | readReservations => exact execReadReservations_upholds s
  | identifyHead tool => exact execIdentifyHead_upholds s tool
  | measureReference n t => exact execMeasureReference_upholds s n t
  | measure tool n t => exact execMeasure_upholds s tool n t
  | abortMeasure => exact execAbortMeasure_upholds s
  | readHead => exact execReadHead_upholds s
  | load slot tool => exact execLoad_upholds s slot tool
  | unload slot => exact execUnload_upholds s slot
  | charge slot seconds => exact execCharge_upholds s slot seconds
  | readSlot slot => exact execReadSlot_upholds s slot
  | setDemand entries => exact execSetDemand_upholds s entries
  | startDemand mode interval target hold => exact execStartDemand_upholds s mode interval target hold
  | stopDemand => exact execStopDemand_upholds s
  | readDemand => exact execReadDemand_upholds s
  | lineIdle => exact execLineIdle_upholds s
  | arbitrationLost => exact execArbitrationLost_upholds s
  | bitError mark => exact execBitError_upholds s mark
  | frameSent => exact execFrameSent_upholds s
  | frameReceived frame => exact execFrameReceived_upholds s frame
  | malformedFrame => exact execMalformedFrame_upholds s
  | presence => exact execPresence_upholds s
  | call => exact execCall_upholds s
  | offer => exact execOffer_upholds s
  | accept => exact execAccept_upholds s
  | decline => exact execDecline_upholds s
  | here => exact execHere_upholds s
  | check => exact execCheck_upholds s
  | checkReply => exact execCheckReply_upholds s
  | demand => exact execDemand_upholds s
  | lineHeld ns asserting => exact execLineHeld_upholds s ns asserting
  | lineReleased ns => exact execLineReleased_upholds s ns
  | nodeOnline => exact execNodeOnline_upholds s
  | beaconExpiry => exact execBeaconExpiry_upholds s
  | peerAbsent station => exact execPeerAbsent_upholds s station
  | callWaitExpiry slot => exact execCallWaitExpiry_upholds s slot
  | offerWaitExpiry slot => exact execOfferWaitExpiry_upholds s slot
  | checkWaitExpiry tool => exact execCheckWaitExpiry_upholds s tool
  | pocketFirstReading pocket high => exact execPocketFirstReading_upholds s pocket high
  | pocketRemoval pocket => exact execPocketRemoval_upholds s pocket
  | pocketInsertion pocket => exact execPocketInsertion_upholds s pocket
  | currentSeen pocket => exact execCurrentSeen_upholds s pocket
  | pullInExpiry pocket => exact execPullInExpiry_upholds s pocket
  | shortCurrent pocket => exact execShortCurrent_upholds s pocket
  | holdExpiry pocket => exact execHoldExpiry_upholds s pocket
  | supplyLow => exact execSupplyLow_upholds s
  | supplyNormal => exact execSupplyNormal_upholds s
  | digitKey panel digit => exact execDigitKey_upholds s panel digit
  | enter panel => exact execEnter_upholds s panel
  | clear panel => exact execClear_upholds s panel
  | interKeyExpiry panel => exact execInterKeyExpiry_upholds s panel
  | lockoutExpiry panel => exact execLockoutExpiry_upholds s panel
  | windowExpiry panel => exact execWindowExpiry_upholds s panel
  | scaleStep scale up => exact execScaleStep_upholds s scale up
  | scaleError scale => exact execScaleError_upholds s scale
  | capture rising => exact execCapture_upholds s rising
  | captureTimeout => exact execCaptureTimeout_upholds s
  | seatFirstReading high => exact execSeatFirstReading_upholds s high
  | headSeated => exact execHeadSeated_upholds s
  | headUnseated => exact execHeadUnseated_upholds s
  | cycleExpiry => exact execCycleExpiry_upholds s
  | triggerEdge high => exact execTriggerEdge_upholds s high
  | reservationExpiry requester cls => exact execReservationExpiry_upholds s requester cls
  | dominantEdge => exact execDominantEdge_upholds s
  | startMarkRead width => exact execStartMarkRead_upholds s width
  | framingError cause => exact execFramingError_upholds s cause
  | resetEnds straps => exact execResetEnds_upholds s straps

/-- A command upholds the laws, or leaves a node that does because it has just been reset. -/
theorem exec_upholds_or_reset {s t : State} {c : Instr} (h : exec c s = .next t) :
    Upholds s t ∨ Upholds State.reset t := by
  by_cases reset : c = .reset
  · subst reset
    cases h
    exact .inr (Upholds.frame (.refl State.reset) rfl rfl rfl rfl rfl rfl rfl)
  · exact .inl ((exec_upholds s c reset).next h)

/-- A step upholds the laws, or leaves a node that does because it has just been reset. -/
theorem step_upholds_or_reset {s t : State} (h : step s = .next t) : Upholds s t ∨ Upholds State.reset t := by
  obtain rfl | rfl | ⟨c, rest, h⟩ | ⟨c, h⟩ := step_cases h
  · exact .inl (.refl _)
  · exact .inl (Upholds.frame (.refl s) rfl rfl rfl rfl rfl rfl rfl)
  · have queued : Upholds s { s with pending := rest } := Upholds.frame (.refl s) rfl rfl rfl rfl rfl rfl rfl
    exact (exec_upholds_or_reset h).imp_left queued.trans
  · have taken : Upholds s { s with port := { s.port with commandSlot := none } } :=
      (Upholds.refl s).withPort rfl rfl rfl (fun _ none _ => ⟨none, rfl⟩) fun _ => nofun
    exact (exec_upholds_or_reset h).imp_left taken.trans

end Sys2Proof.Machine

namespace Sys2Proof.Proofs

open Sys2Proof.Machine

/-- Settles O5, from what each command keeps of the sizes and the rows. -/
theorem sizesKept : Obligations.SizesKept := by
  unfold Obligations.SizesKept
  refine ⟨fun s t sized h => ?_, fun s t rows h => ?_⟩
  · exact (step_upholds_or_reset h).elim (·.sized sized) (·.sized reset_sized)
  · exact (step_upholds_or_reset h).elim (·.rows rows) (·.rows reset_reservationLaw)

/-- Settles O6, from what each command keeps of the line and the port. -/
theorem lineLawKept : Obligations.LineLawKept := by
  unfold Obligations.LineLawKept
  refine ⟨fun s t line h => ?_, fun s t line port h => ?_⟩
  · exact (step_upholds_or_reset h).elim (·.line line) (·.line reset_lineLaw)
  · exact (step_upholds_or_reset h).elim (·.port line port) (·.port reset_lineLaw reset_portLaw)

/-- Settles O4: at reset every queue, list and table is empty or at its size. -/
theorem resetKeepsTheLaws : Obligations.ResetKeepsTheLaws := by
  unfold Obligations.ResetKeepsTheLaws
  exact ⟨reset_sized, reset_lineLaw, reset_driveLaw, reset_pullInLaw, reset_recordLaw, nofun, reset_portLaw,
    reset_holdLaw, nofun, reset_placeLaw, reset_offerLaw, reset_reservationLaw⟩

end Sys2Proof.Proofs
end

section
/-! SUPPORT. O49: offered frames (R28, R29, R33, R34). -/

namespace Sys2Proof.Machine

/-- A frame that waits joins an ordered queue at its place; on an idle line an attempt then starts with the head
(R29, R33). -/
theorem State.startAttempt_insertFrame {s : State} {f : TxFrame} {others : List TxFrame}
    (online : s.port.nodeState = .online) (waits : f.sending = false)
    (ordered : others.Pairwise (fun f g => f.kind.cls ≤ g.kind.cls)) :
    ∃ front back, others = front ++ back
      ∧ (∀ g ∈ front, g.kind.cls ≤ f.kind.cls) ∧ (∀ g ∈ back, f.kind.cls < g.kind.cls)
      ∧ (s.line.condition ≠ .idle ∨ s.line.driverDisabled = true ∨ (∃ g ∈ others, g.sending = true) →
        State.startAttempt { s with line.txQueue := insertFrame others f }
          = { s with line := { s.line with txQueue := front ++ f :: back } })
      ∧ (s.line.condition = .idle → s.line.driverDisabled = false → (∀ g ∈ others, g.sending = false) →
        State.startAttempt { s with line.txQueue := insertFrame others f }
          = { s with line := { s.line with
              condition := .transmitting
              receiver := .assembling
              txQueue := sendHead (front ++ f :: back) } }) := by
  obtain ⟨front, back, rfl, e, low, high⟩ := insertFrame_eq ordered f
  have joined : ∀ g, g ∈ front ++ f :: back ↔ g = f ∨ g ∈ front ++ back := fun g => by simp; tauto
  refine ⟨front, back, rfl, low, high, fun busy => ?_, fun idle driver none => ?_⟩
  · rw [e]
    refine State.startAttempt_busy (busy.imp_right fun h => h.imp_right ?_)
    rintro ⟨g, hg, sending⟩
    exact Line.attempting_iff.mpr ⟨g, (joined g).mpr (.inr hg), sending⟩
  · rw [e]
    refine State.startAttempt_idle online idle driver (Line.attempting_eq_false.mpr fun g hg => ?_) (by simp)
    obtain rfl | hg := (joined g).mp hg
    · exact waits
    · exact none g hg

end Sys2Proof.Machine

namespace Sys2Proof.Proofs

open Sys2Proof.Machine

/-- Settles O49: an offer is an insertion, a displacement or a discard, by the room and the candidate; the attempt that
follows looks at nothing that TX_DISCARDED changes. -/
theorem offeredFramesJoinTheQueue : Obligations.OfferedFramesJoinTheQueue := by
  unfold Obligations.OfferedFramesJoinTheQueue
  refine ⟨fun s g => ?_, fun s f waits => ⟨fun offline => State.offerFrame_offline offline f,
    fun online ordered room => ?_, fun online ordered full => ⟨fun front c back queue hc hback => ⟨fun lower => ?_,
      fun higher => ?_⟩, fun all => ?_⟩⟩⟩
  · unfold State.postDiscarded
    cases g.kind <;> rfl
  · rw [State.offerFrame_room online room]
    exact State.startAttempt_insertFrame online waits ordered
  · have sub : (front ++ back).Sublist s.line.txQueue := queue ▸ (List.sublist_cons_self c back).append_left front
    rw [State.offerFrame_displaces online full queue hc hback lower, State.startAttempt_postDiscarded]
    obtain ⟨front', back', e, low, high, busy, idle⟩ :=
      State.startAttempt_insertFrame (s := s) online waits (ordered.sublist sub)
    exact ⟨front', back', e, low, high, fun h => congrArg (·.postDiscarded c .queueFull) (busy h),
      fun h driver none => congrArg (·.postDiscarded c .queueFull) (idle h driver none)⟩
  · refine State.offerFrame_discarded online full fun front' c' back' queue' hc' hback' => ?_
    have split := splitCandidate_append front hc hback
    rw [← queue, queue', splitCandidate_append front' hc' hback'] at split
    obtain ⟨rfl, -⟩ := Prod.mk.inj (Option.some.inj split)
    exact higher
  · refine State.offerFrame_discarded online full fun front c back queue hc _ => ?_
    have sending := all c (by simp [queue])
    cases hc.symm.trans sending

end Sys2Proof.Proofs
end

section
/-! SUPPORT. O50: the line condition, framing errors, a held line and its release (R26, R29, R36, R40 to R42). -/

namespace Sys2Proof.Machine

/-- A pulse of 1.5 to 2 cells is a start mark (R36). -/
theorem readPulse_startMark {cell width : Nat} (positive : 0 < cell) (low : 3 * cell ≤ 2 * width)
    (high : width ≤ 2 * cell) : readPulse cell width = .startMark := by
  unfold readPulse
  rw [if_neg (by omega), if_neg (by omega), if_neg (by omega), if_pos ⟨low, high⟩]

/-- The cells of the four line rates have a length (R24). -/
theorem cellNs_pos {rate : Nat} (h : rate ≤ 3) : 0 < cellNs rate := by
  interval_cases rate <;> decide

/-- Disabling the driver and reporting the fault do not depend on each other. -/
theorem State.driverFault_eq (s : State) : s.driverFault = (let t := s.post .driverFault 0 0
    { t with
      line := { t.line with driverDisabled := true, txQueue := [] }
      roster := { t.roster with beacon := none }
      port := { t.port with nodeState := .listenOnly, listenDeadline := none } }) := by
  unfold State.driverFault State.enterListenOnly State.post
  split <;> rfl

end Sys2Proof.Machine

namespace Sys2Proof.Proofs

open Sys2Proof.Machine

/-- Settles O50, each clause by the guard of its event. -/
theorem lineConditions : Obligations.LineConditions := by
  unfold Obligations.LineConditions
  refine fun s => ⟨fun still condition => ?idle, fun running idle => ?edge,
    fun width running free still rate low high => ?mark, fun cause assembling still err => ?framing,
    fun start running free still => ⟨?held, ?fault⟩, fun start stop held since => ⟨fun offline => ?free,
      fun online => ?online⟩, fun held => ⟨?heldEdge, ?heldIdle, fun start b => ?heldAgain⟩⟩
  case idle => exact if_pos (by simpa [still] using condition)
  case edge => exact if_pos (by simp [Line.running, running, idle])
  case mark =>
    have read := readPulse_startMark (cellNs_pos rate) low high
    exact if_pos (by simp [Line.running, running, free, still, State.cell, read])
  case framing => exact if_pos (by simp [assembling, still, State.cell, err])
  case held => exact if_pos (by simp [Line.running, running, free, still])
  case fault =>
    refine (if_pos (by simp [Line.running, running, free, still])).trans ?_
    exact congrArg _ (State.driverFault_eq _)
  case free =>
    refine (if_pos (by simp [held])).trans ?_
    simp [State.online, offline, since, holdMs]
  case online =>
    refine (if_pos (by simp [held])).trans ?_
    simp [State.online, online, since, holdMs]
  case heldEdge => exact if_neg (by simp [held])
  case heldIdle => exact if_neg (by simp [held])
  case heldAgain => exact if_neg (by simp [held])

end Sys2Proof.Proofs
end

section
/-! SUPPORT. O51: the ends of an attempt with one frame in transmission (R30 to R32, R35, R52, R162, R163). -/

namespace Sys2Proof.Machine

/-! ### The queue around the frame in transmission -/

section
variable {front back : List TxFrame} {f : TxFrame}

theorem attemptEnded_waiting {q : List TxFrame} (waits : ∀ g ∈ q, g.sending = false) : attemptEnded q = q := by
  unfold attemptEnded
  refine (List.filterMap_congr fun g hg => ?_).trans List.filterMap_some
  simp [waits g hg]

theorem withoutSending_append (sending : f.sending = true) (rest : ∀ g ∈ front ++ back, g.sending = false) :
    withoutSending (front ++ f :: back) = front ++ back := by
  have kept : withoutSending (front ++ back) = front ++ back :=
    List.filter_eq_self.mpr fun g hg => by simp [rest g hg]
  simpa [withoutSending, sending] using kept

theorem countError_append (sending : f.sending = true) (rest : ∀ g ∈ front ++ back, g.sending = false) :
    countError (front ++ f :: back) = front ++ { f with bitErrors := f.bitErrors + 1 } :: back := by
  have same : ∀ q : List TxFrame, (∀ g ∈ q, g.sending = false) → countError q = q := fun q waits =>
    List.map_congr_left (g := id) (fun g hg => by simp [waits g hg]) |>.trans (List.map_id q)
  obtain ⟨hfront, hback⟩ := List.forall_mem_append.mp rest
  have before := same front hfront
  have behind := same back hback
  simp only [countError] at before behind ⊢
  simp [before, behind, sending]

/-- The frame goes back to waiting at its place, a waiting replacement taking effect (R30). -/
theorem attemptEnded_append (sending : f.sending = true) (rest : ∀ g ∈ front ++ back, g.sending = false)
    (keep : f.removeAfter = false) : attemptEnded (front ++ f :: back) = front ++ { f with
      sending := false, payload := f.replacement.getD f.payload, replacement := none, reoffer := false } :: back := by
  obtain ⟨hfront, hback⟩ := List.forall_mem_append.mp rest
  have before := attemptEnded_waiting hfront
  have behind := attemptEnded_waiting hback
  simp only [attemptEnded] at before behind ⊢
  simp [before, behind, sending, keep]

/-- A waiting removal takes the frame out (R35). -/
theorem attemptEnded_append_removed (sending : f.sending = true) (rest : ∀ g ∈ front ++ back, g.sending = false)
    (removed : f.removeAfter = true) : attemptEnded (front ++ f :: back) = front ++ back := by
  have e := attemptEnded_waiting rest
  simp only [attemptEnded] at e ⊢
  simpa [sending, removed] using e

theorem Line.sendingFrame_append {l : Line} (queue : l.txQueue = front ++ f :: back) (sending : f.sending = true)
    (rest : ∀ g ∈ front ++ back, g.sending = false) : l.sendingFrame = some f := by
  have none : front.find? (·.sending) = none :=
    List.find?_eq_none.mpr fun g hg => by simp [rest g (List.mem_append_left back hg)]
  simp [Line.sendingFrame, queue, none, sending]

end

/-! ### The owner of the frame -/

section
variable {s : State} {f : TxFrame}

theorem State.notQueued_kept (h : f.reoffer = false) : s.notQueued f = s := if_neg (by simp [h])

theorem State.notQueued_presence (h : f.reoffer = true) (owner : f.owner = .presence)
    (online : s.port.nodeState = .online) : s.notQueued f = s.offerPresence := by
  simp [State.notQueued, h, owner, State.online, online]

theorem State.notQueued_demand (h : f.reoffer = true) (owner : f.owner = .demandRun)
    (running : s.demand.running = true) : s.notQueued f = s.offerDemand := by
  simp [State.notQueued, h, owner, running]

theorem State.notQueued_stopped (owner : f.owner = .demandRun) (stopped : s.demand.running = false) :
    s.notQueued f = s := by
  simp [State.notQueued, owner, stopped]

theorem State.reportSent_other (h : f.owner ≠ .demandRun ∨ s.demand.running = false) : s.reportSent f = s := by
  unfold State.reportSent State.demandSent
  split
  · next owner =>
    obtain other | stopped := h
    · exact absurd owner other
    · simp [stopped]
  · rfl

/-- The DEMAND of a run that goes on counts a cycle (R163). -/
theorem State.reportSent_counts (owner : f.owner = .demandRun) (running : s.demand.running = true)
    (short : s.demand.target = 0 ∨ min 255 (s.demand.cycles + 1) < s.demand.target) :
    s.reportSent f = { s with demand := { s.demand with cycles := min 255 (s.demand.cycles + 1) } } := by
  have goesOn : ¬ (0 < s.demand.target ∧ s.demand.target ≤ min 255 (s.demand.cycles + 1)) := by omega
  simp only [State.reportSent, owner, State.demandSent, running, goesOn]
  rfl

/-- A DEMAND offered anew while its run goes on, its report taken first (R162). -/
theorem State.notQueued_reportSent_counts (h : f.reoffer = true) (owner : f.owner = .demandRun)
    (running : s.demand.running = true)
    (short : s.demand.target = 0 ∨ min 255 (s.demand.cycles + 1) < s.demand.target) :
    (s.reportSent f).notQueued f =
      State.offerDemand { s with demand := { s.demand with cycles := min 255 (s.demand.cycles + 1) } } := by
  rw [State.reportSent_counts owner running short]
  exact State.notQueued_demand h owner running

/-- The DEMAND that reaches the target ends the run, and no other DEMAND of it is offered (R162, R163). -/
theorem State.notQueued_reportSent_done (owner : f.owner = .demandRun) (running : s.demand.running = true)
    (positive : 0 < s.demand.target) (reached : s.demand.target ≤ min 255 (s.demand.cycles + 1)) :
    (s.reportSent f).notQueued f = State.post { s with demand := { s.demand with
        cycles := min 255 (s.demand.cycles + 1), running := false, deadline := none } } .demandDone 0
      (num (min 255 (s.demand.cycles + 1))) := by
  have done : s.reportSent f = State.post { s with demand := { s.demand with
        cycles := min 255 (s.demand.cycles + 1), running := false, deadline := none } } .demandDone 0
      (num (min 255 (s.demand.cycles + 1))) := by
    simp only [State.reportSent, owner, State.demandSent, running, positive, reached]
    rfl
  rw [done]
  exact State.notQueued_stopped owner (by simp)

end

/-! ### A bit error -/

section
variable {s : State} {front back : List TxFrame} {f : TxFrame}

theorem State.abortAttempt_removed (queue : s.line.txQueue = front ++ f :: back) (sending : f.sending = true)
    (rest : ∀ g ∈ front ++ back, g.sending = false) (removed : f.removeAfter = true) :
    s.abortAttempt f = { s with line := { s.line with txQueue := front ++ back } } := by
  rw [State.abortAttempt, if_pos removed, queue, withoutSending_append sending rest]

/-- Fewer than 8 errors: the frame is attempted again (R31). -/
theorem State.abortAttempt_again (queue : s.line.txQueue = front ++ f :: back) (sending : f.sending = true)
    (rest : ∀ g ∈ front ++ back, g.sending = false) (keep : f.removeAfter = false)
    (few : f.bitErrors + 1 < Config.bitErrorMax) :
    s.abortAttempt f = { s with line := { s.line with txQueue := front ++ { f with
      sending := false, payload := f.replacement.getD f.payload, replacement := none, reoffer := false
      bitErrors := f.bitErrors + 1 } :: back } } := by
  rw [State.abortAttempt, if_neg (by simp [keep]), if_pos few, queue, countError_append sending rest,
    attemptEnded_append (f := { f with bitErrors := f.bitErrors + 1 }) sending rest keep]

/-- The eighth error discards the frame (R31). -/
theorem State.abortAttempt_discarded (queue : s.line.txQueue = front ++ f :: back) (sending : f.sending = true)
    (rest : ∀ g ∈ front ++ back, g.sending = false) (keep : f.removeAfter = false)
    (many : Config.bitErrorMax ≤ f.bitErrors + 1) :
    s.abortAttempt f =
      (State.postDiscarded { s with line := { s.line with txQueue := front ++ back } } f .bitErrors).notQueued f := by
  rw [State.abortAttempt, if_neg (by simp [keep]), if_neg (Nat.not_lt.mpr many), queue,
    withoutSending_append sending rest]

end

/-! ### The events on the frame in transmission -/

section
variable {s : State} {f : TxFrame}

theorem execArbitrationLost_attempting (busy : s.line.attempting = true) : execArbitrationLost s =
    .next { s with line := { s.line with txQueue := attemptEnded s.line.txQueue, condition := .receiving } } :=
  if_pos busy

theorem execBitError_sending (frame : s.line.sendingFrame = some f) (mark : Bool) : execBitError mark s =
    .next (State.abortAttempt { s with line := { s.line with
      condition := .receiving, receiver := if mark then .assembling else .waiting } } f) := by
  simp only [execBitError, frame]

theorem execFrameSent_sending (frame : s.line.sendingFrame = some f) : execFrameSent s =
    .next ((State.reportSent { s with line := { s.line with
      txQueue := withoutSending s.line.txQueue, receiver := .waiting
      lastSent := some (wireFrame s.port.station f) } } f).notQueued f) := by
  simp only [execFrameSent, State.driven, frame, Option.map_some]

end

end Sys2Proof.Machine

namespace Sys2Proof.Proofs

open Sys2Proof.Machine

/-- Settles O51: with the queue around its frame known, each end of the attempt is a rewriting of the queue, then the
report to the frame's owner, then the offer of a replacement that still waits. -/
theorem attemptEnds : Obligations.AttemptEnds := by
  unfold Obligations.AttemptEnds
  refine ⟨fun s g => ?argument, fun s front back f queue sending rest => ?ends⟩
  case argument =>
    unfold State.postDiscarded
    cases g.kind <;> rfl
  case ends =>
    have frame := Line.sendingFrame_append queue sending rest
    have lost := execArbitrationLost_attempting (Line.attempting_of_sendingFrame frame)
    have aborted := execBitError_sending frame
    have sent := execFrameSent_sending frame
    have discarded : ∀ mark : Bool, f.removeAfter = false → 8 ≤ f.bitErrors + 1 → exec (.bitError mark) s =
        .next (State.notQueued (State.postDiscarded { s with line := { s.line with
          txQueue := front ++ back, condition := .receiving
          receiver := if mark then .assembling else .waiting } } f .bitErrors) f) := fun mark keep many =>
      (aborted mark).trans (congrArg _ (State.abortAttempt_discarded queue sending rest keep many))
    rw [queue] at lost
    rw [queue, withoutSending_append sending rest] at sent
    refine ⟨?driven, rfl, fun keep => ?lost, fun removed => ?lostRemoved, fun mark => ⟨fun removed => ?errorRemoved,
      fun keep few => ?errorAgain, fun keep many once => ?errorDiscarded, fun keep many again =>
        ⟨fun owner online => ?errorPresence, fun owner running => ?errorDemand⟩⟩,
      fun once => ⟨fun other => ?sent, fun owner running => ⟨fun short => ?sentCounts,
        fun positive reached => ?sentDone⟩⟩,
      fun again => ⟨fun owner online => ?offersPresence, fun owner running => ⟨fun short => ?offersDemand,
        fun positive reached => ?runEnds⟩⟩⟩
    case driven => rw [State.driven, frame]; rfl
    case lost => exact lost.trans (by rw [attemptEnded_append sending rest keep])
    case lostRemoved => exact lost.trans (by rw [attemptEnded_append_removed sending rest removed])
    case errorRemoved =>
      exact (aborted mark).trans (congrArg _ (State.abortAttempt_removed queue sending rest removed))
    case errorAgain =>
      exact (aborted mark).trans (congrArg _ (State.abortAttempt_again queue sending rest keep few))
    case errorDiscarded =>
      exact (discarded mark keep many).trans (congrArg _ (State.notQueued_kept once))
    case errorPresence =>
      exact (discarded mark keep many).trans (congrArg _ (State.notQueued_presence again owner (by simpa using online)))
    case errorDemand =>
      refine (discarded mark keep many).trans (congrArg _ ?_)
      refine (State.notQueued_demand again owner (by simpa using running)).trans ?_
      simp only [State.offerDemand, State.postDiscarded_demand]
      rfl
    case sent =>
      exact sent.trans (congrArg _ ((State.notQueued_kept once).trans (State.reportSent_other other)))
    case sentCounts =>
      exact sent.trans (congrArg _ ((State.notQueued_kept once).trans (State.reportSent_counts owner running short)))
    case sentDone => exact sent.trans (congrArg _ (State.notQueued_reportSent_done owner running positive reached))
    case offersPresence =>
      have other : f.owner ≠ .demandRun := by simp [owner]
      rw [State.reportSent_other (.inl other)] at sent
      exact sent.trans (congrArg _ (State.notQueued_presence again owner online))
    case offersDemand => exact sent.trans (congrArg _ (State.notQueued_reportSent_counts again owner running short))
    case runEnds => exact sent.trans (congrArg _ (State.notQueued_reportSent_done owner running positive reached))

end Sys2Proof.Proofs
end

section
/-! SUPPORT. O52: received frames, and the frame that a node drives (R27, R37, R38, R43, R183, R189). -/

namespace Sys2Proof.Machine

section
variable {s : State} {f : WireFrame}

/-- A whole frame ends the assembling, and one with a matching CRC is taken (R37). -/
theorem execFrameReceived_whole (assembling : s.line.receiver = .assembling) (still : s.line.attempting = false)
    (length : f.length.toNat ≤ 56) (whole : f.payload.length = f.length.toNat) : execFrameReceived f s =
    .next (if crcOk f then State.takeValid { s with line := { s.line with receiver := .waiting } } f
      else { s with line := { s.line with receiver := .waiting } }) :=
  if_pos (by simp [assembling, still, wellSized, length, whole])

theorem crcOk_iff : crcOk f = true ↔ crc16 (frameBits f) = f.crc := beq_iff_eq

/-! ### By its source -/

theorem State.takeValid_noSource (h : f.source = 0 ∨ f.source = 63) : s.takeValid f = s := if_pos h

/-- A duplicate station is told once (R43). -/
theorem State.takeValid_own_seen (h0 : f.source ≠ 0) (h63 : f.source ≠ 63) (own : f.source = s.port.station)
    (seen : s.line.duplicateSeen = true) : s.takeValid f = s := by
  rw [State.takeValid, if_neg (not_or_intro h0 h63), if_pos own]
  exact if_pos seen

theorem State.takeValid_own_new (h0 : f.source ≠ 0) (h63 : f.source ≠ 63) (own : f.source = s.port.station)
    (new : s.line.duplicateSeen = false) : s.takeValid f = State.enterListenOnly
      ({ s with line.duplicateSeen := true }.post .duplicateStation 0 (num f.kind.toNat)) := by
  rw [State.takeValid, if_neg (not_or_intro h0 h63), if_pos own]
  exact if_neg (by simp [new])

theorem State.takeValid_configured (h0 : f.source ≠ 0) (h63 : f.source ≠ 63) (other : f.source ≠ s.port.station)
    (configured : s.port.nodeState = .configured) : s.takeValid f = s := by
  rw [State.takeValid, if_neg (not_or_intro h0 h63), if_neg other, if_pos configured]

/-- A frame of another station joins a receive queue with room (R38). -/
theorem State.takeValid_room (h0 : f.source ≠ 0) (h63 : f.source ≠ 63) (other : f.source ≠ s.port.station)
    (past : s.port.nodeState ≠ .configured) (room : s.line.rxQueue.length < Config.rxMax) :
    s.takeValid f = { s with line.rxQueue := s.line.rxQueue ++
      [{ cls := f.cls, kind := f.kind, source := f.source, destination := f.destination, payload := f.payload }] } := by
  rw [State.takeValid, if_neg (not_or_intro h0 h63), if_neg other, if_neg past]
  exact if_pos room

theorem State.takeValid_full (h0 : f.source ≠ 0) (h63 : f.source ≠ 63) (other : f.source ≠ s.port.station)
    (past : s.port.nodeState ≠ .configured) (full : Config.rxMax ≤ s.line.rxQueue.length) :
    s.takeValid f = { s with line.rxOverrun := true } := by
  rw [State.takeValid, if_neg (not_or_intro h0 h63), if_neg other, if_neg past]
  exact if_neg (Nat.not_lt.mpr full)

/-- A notice depends on the queue and the count. -/
theorem State.post_notices_congr {t : State} (notices : t.notices = s.notices) (now : t.now = s.now) (k : NoticeKind)
    (o a : BitVec 32) : (t.post k o a).notices = (s.post k o a).notices := by
  unfold State.post
  rw [notices, now]
  split <;> rfl

end

/-! ### The driven frame -/

theorem FrameKind.cls_lt (k : FrameKind) : k.cls < 4 := by cases k <;> decide

theorem FrameKind.code_lt (k : FrameKind) : k.code < 16 := by cases k <;> decide

/-- The CRC is over the header and the payload, not over the CRC cells. -/
theorem crcOk_wireFrame (station : BitVec 6) (g : TxFrame) : crcOk (wireFrame station g) = true :=
  crcOk_iff.mpr (by simp only [wireFrame, frameBits])

end Sys2Proof.Machine

namespace Sys2Proof.Proofs

open Sys2Proof.Machine

/-- Settles O52, by the CRC, then the source, then the node state and the room in the receive queue. -/
theorem framesReceived : Obligations.FramesReceived := by
  unfold Obligations.FramesReceived
  refine ⟨fun f s assembling still length whole => ?_, fun station g => ?_⟩
  · have received := execFrameReceived_whole assembling still length whole
    refine ⟨fun bad => ?bad, fun good => ?good⟩
    case bad => exact received.trans (congrArg _ (if_neg (mt crcOk_iff.mp bad)))
    case good =>
      rw [if_pos (crcOk_iff.mpr good)] at received
      have taken : ∀ {t : State}, State.takeValid { s with line := { s.line with receiver := .waiting } } f = t →
          exec (.frameReceived f) s = .next t := fun e => received.trans (congrArg _ e)
      refine ⟨fun h => taken (State.takeValid_noSource h), fun h0 h63 own => ⟨fun seen => ?seen, fun new => ?new⟩,
        fun h0 h63 other => ⟨fun configured => ?configured, fun past room => ?room, fun past full => ?full⟩⟩
      case seen => exact taken (State.takeValid_own_seen h0 h63 own seen)
      case new =>
        refine ⟨_, taken (State.takeValid_own_new h0 h63 own new), rfl, rfl, ?line, ?roster, ?notices, ?_, ?_, ?_⟩
        case notices => refine State.post_notices_congr (s := s) ?_ ?_ _ _ _ <;> rfl
        all_goals simp [State.enterListenOnly]
      case configured => exact taken (State.takeValid_configured h0 h63 other configured)
      case room => exact taken (State.takeValid_room h0 h63 other past room)
      case full => exact taken (State.takeValid_full h0 h63 other past full)
  · refine ⟨crcOk_wireFrame station g, ?_, ?_, rfl, rfl, fun h => ?_, fun h => ?_⟩
    · exact Nat.mod_eq_of_lt g.kind.cls_lt
    · exact Nat.mod_eq_of_lt g.kind.code_lt
    · exact Nat.mod_eq_of_lt (Nat.lt_succ_of_le h)
    · exact Nat.mod_eq_of_lt (Nat.lt_of_le_of_lt h (by decide))

end Sys2Proof.Proofs
end

section
/-! SUPPORT. O53: the delivery of the oldest received frame (R39, R47, R49, R63). -/

namespace Sys2Proof.Machine

/-- The codes of the nine kinds are theirs alone (section 2.3). -/
theorem FrameKind.ofCode_eq_some {n : Nat} {k : FrameKind} : FrameKind.ofCode n = some k ↔ n = k.code := by
  constructor
  · intro h
    have code := List.find?_some h
    exact (beq_iff_eq.mp code).symm
  · rintro rfl
    cases k <;> rfl

/-- The form check (R39). -/
theorem RxFrame.form_eq_some {f : RxFrame} {k : FrameKind} : f.form = some k ↔
    f.kind.toNat = k.code ∧ f.cls.toNat = k.cls ∧ k.lengthOk f.payload.length = true
      ∧ k.destinationOk f.destination.toNat = true := by
  unfold RxFrame.form
  rw [← FrameKind.ofCode_eq_some]
  cases FrameKind.ofCode f.kind.toNat with
  | none => simp
  | some k' =>
    simp only [Option.ite_none_right_eq_some, Option.some.injEq]
    constructor
    · rintro ⟨form, rfl⟩
      exact ⟨rfl, form⟩
    · rintro ⟨rfl, form⟩
      exact ⟨form, rfl⟩

section
variable {s : State} {f : RxFrame} {rest : List RxFrame} {k : FrameKind} {act : State → RxFrame → State}

theorem State.addressed_iff : s.addressed f = true ↔ f.destination = 63 ∨ f.destination = s.port.station := by
  simp [State.addressed]

/-- A frame for another node is heard and judged clean (R39, R49). -/
theorem deliver_elsewhere (queue : s.line.rxQueue = f :: rest) (form : f.form = some k)
    (elsewhere : s.addressed f = false) :
    deliver k act s = .next ({ s with line.rxQueue := rest }.rosterTakes f k true) := by
  simp [deliver, queue, form, elsewhere]

/-- A frame for this node with a field out of range is heard and struck (R39, R49). -/
theorem deliver_outOfRange (queue : s.line.rxQueue = f :: rest) (form : f.form = some k)
    (mine : s.addressed f = true) (bad : f.fieldsOk k = false) :
    deliver k act s = .next ({ s with line.rxQueue := rest }.rosterTakes f k false) := by
  simp [deliver, queue, form, mine, bad]

/-- A frame for this node in range reaches its consumer (R39, R63). -/
theorem deliver_inRange (queue : s.line.rxQueue = f :: rest) (form : f.form = some k)
    (mine : s.addressed f = true) (good : f.fieldsOk k = true) :
    deliver k act s = .next (act ({ s with line.rxQueue := rest }.rosterTakes f k true) f) := by
  simp [deliver, queue, form, mine, good]

/-- Only a PRESENCE announces anything (R47). -/
theorem State.rosterTakes_clean (h : k ≠ .presence) :
    s.rosterTakes f k true = (s.hear f.source.toNat none).clean f.source.toNat := by
  simp [State.rosterTakes, h]

theorem State.rosterTakes_struck :
    s.rosterTakes f k false = (s.hear f.source.toNat none).strike f.source.toNat k.code := by
  simp [State.rosterTakes]

theorem State.rosterTakes_presence : s.rosterTakes f .presence true =
    (s.hear f.source.toNat (some (parsePresence f.payload))).clean f.source.toNat := by
  simp [State.rosterTakes]

/-- What a delivery of a kind other than PRESENCE does (R39). -/
theorem deliver_outcomes (queue : s.line.rxQueue = f :: rest) (form : f.form = some k) (h : k ≠ .presence) :
    let n := f.source.toNat
    let heard := State.hear { s with line.rxQueue := rest } n none
    (¬ (f.destination = 63 ∨ f.destination = s.port.station) → deliver k act s = .next (heard.clean n))
    ∧ (f.destination = 63 ∨ f.destination = s.port.station → f.fieldsOk k = false →
      deliver k act s = .next (heard.strike n k.code))
    ∧ (f.destination = 63 ∨ f.destination = s.port.station → f.fieldsOk k = true →
      deliver k act s = .next (act (heard.clean n) f)) := by
  refine ⟨fun elsewhere => ?_, fun mine bad => ?_, fun mine good => ?_⟩
  · rw [deliver_elsewhere queue form (Bool.eq_false_iff.mpr (mt State.addressed_iff.mp elsewhere)),
      State.rosterTakes_clean h]
  · rw [deliver_outOfRange queue form (State.addressed_iff.mpr mine) bad, State.rosterTakes_struck]
  · rw [deliver_inRange queue form (State.addressed_iff.mpr mine) good, State.rosterTakes_clean h]

end

end Sys2Proof.Machine

namespace Sys2Proof.Proofs

open Sys2Proof.Machine

/-- Settles O53: the form check picks the event, the address and the field check decide what the roster and the consumer
make of the frame; a PRESENCE is for all stations. -/
theorem deliveriesReachTheirConsumers : Obligations.DeliveriesReachTheirConsumers := by
  unfold Obligations.DeliveriesReachTheirConsumers
  refine fun s f rest queue => ⟨fun malformed => ?malformed, fun k => RxFrame.form_eq_some,
    fun k c act mem form => ?kinds, fun form => ?announced⟩
  case malformed => simp only [exec, execMalformedFrame, queue, malformed, if_true]
  case kinds =>
    simp only [List.mem_cons, Prod.mk.injEq, List.not_mem_nil, or_false] at mem
    rcases mem with ⟨rfl, rfl, rfl⟩ | ⟨rfl, rfl, rfl⟩ | ⟨rfl, rfl, rfl⟩ | ⟨rfl, rfl, rfl⟩ | ⟨rfl, rfl, rfl⟩
      | ⟨rfl, rfl, rfl⟩ | ⟨rfl, rfl, rfl⟩ | ⟨rfl, rfl, rfl⟩
    · exact deliver_outcomes (act := State.takeCall) queue form (by decide)
    · exact deliver_outcomes (act := State.takeOffer) queue form (by decide)
    · exact deliver_outcomes (act := State.takeAccept) queue form (by decide)
    · exact deliver_outcomes (act := State.takeDecline) queue form (by decide)
    · exact deliver_outcomes (act := State.takeHere) queue form (by decide)
    · exact deliver_outcomes (act := State.takeCheck) queue form (by decide)
    · exact deliver_outcomes (act := State.takeCheckReply) queue form (by decide)
    · exact deliver_outcomes (act := State.takeDemand) queue form (by decide)
  case announced =>
    obtain ⟨-, -, -, destination⟩ := RxFrame.form_eq_some.mp form
    have all : f.destination = 63 := BitVec.eq_of_toNat_eq (by simpa [FrameKind.destinationOk] using destination)
    have mine : s.addressed f = true := State.addressed_iff.mpr (.inl all)
    refine ⟨fun out => ?_, fun pockets slots => ?_⟩
    · have bad : f.fieldsOk .presence = false := by
        simp only [RxFrame.fieldsOk, Announced.inRange, Bool.and_eq_false_iff, decide_eq_false_iff_not]
        omega
      refine (deliver_outOfRange (act := fun t f => t.presenceReport f.source.toNat) queue form mine bad).trans ?_
      rw [State.rosterTakes_struck]
      rfl
    · have good : f.fieldsOk .presence = true := by
        simp [RxFrame.fieldsOk, Announced.inRange, pockets, slots]
      refine (deliver_inRange (act := fun t f => t.presenceReport f.source.toNat) queue form mine good).trans ?_
      rw [State.rosterTakes_presence]

end Sys2Proof.Proofs
end

section
/-! SUPPORT. The roster's entries: what a change of one leaves alone, and what a frame heard, a strike and an absence
make of one (R47 to R50). -/

namespace Sys2Proof.Machine

/-! ### A change of an entry -/

section
variable (s : State) (n : Nat) (f : Peer → Peer)

/-- A change of an entry with the whole next state. -/
theorem State.setPeer_eq {n : Nat} (h : n ≠ 0) : s.setPeer n f = { s with
    roster.peers := s.roster.peers.modify (n - 1) f } := if_neg h

@[simp] theorem State.setPeer_now : (s.setPeer n f).now = s.now := by unfold State.setPeer; split <;> rfl
@[simp] theorem State.setPeer_notices : (s.setPeer n f).notices = s.notices := by unfold State.setPeer; split <;> rfl
@[simp] theorem State.setPeer_records : (s.setPeer n f).records = s.records := by unfold State.setPeer; split <;> rfl
@[simp] theorem State.setPeer_custody : (s.setPeer n f).custody = s.custody := by unfold State.setPeer; split <;> rfl
@[simp] theorem State.setPeer_bank : (s.setPeer n f).bank = s.bank := by unfold State.setPeer; split <;> rfl
@[simp] theorem State.setPeer_reservations : (s.setPeer n f).reservations = s.reservations := by
  unfold State.setPeer; split <;> rfl

end

section
variable {s t : State} {n : Nat} {p : Peer}

theorem State.peer?_congr (h : t.roster = s.roster) (m : Nat) : t.peer? m = s.peer? m := by
  unfold State.peer?; rw [h]

theorem State.peer?_pos (h : s.peer? n = some p) : n ≠ 0 := by
  rintro rfl
  simp [State.peer?] at h

theorem State.peer?_setPeer (h : s.peer? n = some p) (f : Peer → Peer) : (s.setPeer n f).peer? n = some (f p) := by
  have positive := State.peer?_pos h
  simp only [State.peer?, State.setPeer, positive, if_false] at h ⊢
  simp [h]

theorem State.peer?_setPeer_ne {m : Nat} (h : m ≠ n) (f : Peer → Peer) : (s.setPeer n f).peer? m = s.peer? m := by
  unfold State.peer? State.setPeer
  by_cases hn : n = 0
  · simp [hn]
  by_cases hm : m = 0
  · simp [hm]
  have apart : n - 1 ≠ m - 1 := by omega
  simp [hn, hm, apart]

/-- A change of an entry that is known writes one value. -/
theorem State.setPeer_const (h : s.peer? n = some p) (f : Peer → Peer) :
    s.setPeer n f = s.setPeer n (fun _ => f p) := by
  have positive := State.peer?_pos h
  simp only [State.peer?, positive, if_false] at h
  have same : s.roster.peers.modify (n - 1) f = s.roster.peers.modify (n - 1) (fun _ => f p) := by
    refine List.ext_getElem? fun j => ?_
    by_cases hj : n - 1 = j
    · subst hj
      simp [h]
    · simp [hj]
  rw [s.setPeer_eq f positive, s.setPeer_eq _ positive, same]

/-! ### A frame heard (R47) -/

/-- The limit of R47 with the intervals of R52 written out. -/
theorem Peer.limit_eq (p : Peer) : p.limit = 3 * (match p.announced with
    | some x => 250 * 2 ^ x.beaconCode
    | none => 2000) := by
  unfold Peer.limit
  cases p.announced <;> rfl

theorem Peer.appear_unknown {p : Peer} (unknown : p.state = .unknown) : p.appear = { p with state := .present } := by
  simp [Peer.appear, unknown]

/-- A peer that returns is cleared of doubt. -/
theorem Peer.appear_absent {p : Peer} (absent : p.state = .absent) :
    p.appear = { p with state := .present, doubtful := false, strikes := 0 } := by
  simp [Peer.appear, absent]

/-- A PRESENCE replaces what is announced, any other frame leaves it. -/
theorem Peer.announce_eq (p : Peer) (a : Option Announced) :
    p.announce a = { p with announced := if a = none then p.announced else a } := by
  cases a <;> rfl

/-- A PRESENT peer is heard again and nothing is told. -/
theorem State.hear_present (h : s.peer? n = some p) (present : p.state = .present) (a : Option Announced) :
    s.hear n a = s.setPeer n (fun _ => (p.announce a).heard s.now) := by
  simp [State.hear, h, present, Peer.appear]

/-- A new or returned peer is told. -/
theorem State.hear_appears (h : s.peer? n = some p) (away : p.state ≠ .present) (a : Option Announced) :
    s.hear n a = (s.setPeer n (fun _ => (p.appear.announce a).heard s.now)).post .peerPresent (num n)
      (parts (functionsBytes (p.appear.announce a).announced)) := by
  simp [State.hear, h, away, Peer.heard]

/-! ### Strikes (R49) -/

/-- A strike below the third counts. -/
theorem State.strike_counts (h : s.peer? n = some p) (few : p.strikes < 2) (kind : Nat) :
    s.strike n kind = s.setPeer n (fun _ => { p with strikes := p.strikes + 1 }) := by
  have count : min 3 (p.strikes + 1) = p.strikes + 1 := by omega
  have short : p.strikes ≠ 2 := by omega
  have second : (p.strikes == 2) = false := beq_false_of_ne short
  simp [State.strike, h, count, short, second, State.setPeer_const h]

/-- A strike against a DOUBTFUL peer at the third or beyond is not told again. -/
theorem State.strike_doubtful (h : s.peer? n = some p) (many : 2 ≤ p.strikes) (doubtful : p.doubtful = true)
    (kind : Nat) : s.strike n kind = s.setPeer n (fun _ => { p with strikes := 3 }) := by
  have count : min 3 (p.strikes + 1) = 3 := by omega
  simp [State.strike, h, count, doubtful, State.setPeer_const h]

/-- The third strike sets DOUBTFUL and is told. -/
theorem State.strike_sets (h : s.peer? n = some p) (many : 2 ≤ p.strikes) (trusted : p.doubtful = false)
    (kind : Nat) : s.strike n kind = (s.setPeer n (fun _ => { p with strikes := 3, doubtful := true })).post
      .peerDoubtful (num n) (num (if kind ≤ 9 then kind else 0)) := by
  have count : min 3 (p.strikes + 1) = 3 := by omega
  simp [State.strike, h, count, trusted, State.setPeer_const h]

end

/-! ### PARDON (R50) -/

theorem stationOk_iff {b : Byte} : stationOk b = true ↔ 1 ≤ b.toNat ∧ b.toNat ≤ 62 := by simp [stationOk]

end Sys2Proof.Machine

namespace Sys2Proof.Proofs

open Sys2Proof.Machine

/-- Settles O18, each clause by the body of PARDON on a free port. -/
theorem pardonForgives : Obligations.PardonForgives := by
  unfold Obligations.PardonForgives
  refine fun b s free => ⟨fun past low high => ?pardons, fun before => ?refused, fun past out => ?outside⟩
  case pardons =>
    have positive : b.toNat ≠ 0 := by omega
    refine hostCommand_ok free (body := pardonBody b) ?_
    simp only [pardonBody, State.configured_eq_true past, stationOk_iff.mpr ⟨low, high⟩, s.setPeer_eq _ positive]
    rfl
  case refused =>
    exact hostCommand_error free (body := pardonBody b) (by simp [pardonBody, State.configured_eq_false before])
  case outside =>
    have bad : stationOk b = false := Bool.eq_false_iff.mpr fun ok => by
      have range := stationOk_iff.mp ok
      omega
    exact hostCommand_error free (body := pardonBody b) (by simp [pardonBody, State.configured_eq_true past, bad])

end Sys2Proof.Proofs
end

section
/-! SUPPORT. Folds over states: what every step keeps, and the slots of a table taken in their order. -/

namespace Sys2Proof.Machine

/-- What every step of a fold leaves alone, the fold leaves alone. -/
theorem foldl_keeps {σ α β : Type} (g : σ → β) {f : σ → α → σ} (keeps : ∀ u a, g (f u a) = g u) (l : List α) (s : σ) :
    g (l.foldl f s) = g s := by
  induction l generalizing s with
  | nil => rfl
  | cons a l ih => exact (ih _).trans (keeps s a)

/-- A fold over slot numbers takes the slots in order: what holds of the slots behind it grows by one slot a step. -/
theorem foldl_range_slots {σ α : Type} {step : σ → Nat → σ} {slots : List α} {s : σ} (M : List α → σ → Prop)
    (start : M [] s)
    (next : ∀ front x back t, slots = front ++ x :: back → M front t → M (front ++ [x]) (step t front.length)) :
    M slots ((List.range slots.length).foldl step s) := by
  suffices upTo : ∀ front back, slots = front ++ back → M front ((List.range front.length).foldl step s) from
    upTo slots [] (List.append_nil _).symm
  intro front
  induction front using List.reverseRecOn with
  | nil => exact fun _ _ => start
  | append_singleton front x ih =>
    intro back split
    have split : slots = front ++ x :: back := by simpa using split
    rw [List.length_append, List.length_singleton, List.range_succ, List.foldl_append]
    exact next front x back _ split (ih _ split)

end Sys2Proof.Machine
end

section
/-! SUPPORT. O55: NODE_ONLINE, beacons, and the checks that a PRESENCE starts (R52, R54, R79). -/

namespace Sys2Proof.Machine

/-! ### Beacons (R52) -/

/-- The state whose beacon deadline has moved by the configured interval (R52). -/
def State.beaconMoved (s : State) : State :=
  { s with roster := { s.roster with beacon := some (s.now + BitVec.ofNat 32 (250 * 2 ^ s.config.beaconCode)) } }

/-- Where no PRESENCE is queued, a new one is offered. -/
theorem State.offerPresence_new {s : State} (gone : s.line.queuedFor .presence = false) :
    s.offerPresence = s.beaconMoved.offerFrame
      (newFrame .presence 63 (presenceBytes s.config.announced) .presence) := by
  unfold State.offerPresence
  exact if_neg (by simp [gone])

/-- A PRESENCE still queued is refreshed. -/
theorem State.offerPresence_queued {s : State} (queued : s.line.queuedFor .presence = true) :
    s.offerPresence = s.beaconMoved.replaceFrame .presence (presenceBytes s.config.announced) true := by
  unfold State.offerPresence
  exact if_pos queued

/-! ### Offers do not look at the record table -/

/-- The state with another record table. -/
def State.withRecords (s : State) (l : List ToolRecord) : State := { s with records := l }

section
variable (s : State) (l : List ToolRecord)

theorem State.startAttempt_withRecords : (s.withRecords l).startAttempt = s.startAttempt.withRecords l := by
  unfold State.startAttempt
  rw [apply_ite (State.withRecords · l)]
  rfl

theorem State.postDiscarded_withRecords (f : TxFrame) (c : DiscardCause) :
    (s.withRecords l).postDiscarded f c = (s.postDiscarded f c).withRecords l := by
  unfold State.postDiscarded State.post
  rw [apply_ite (State.withRecords · l)]
  rfl

theorem State.offerFrame_withRecords (f : TxFrame) :
    (s.withRecords l).offerFrame f = (s.offerFrame f).withRecords l := by
  have line : (s.withRecords l).line = s.line := rfl
  have online : (s.withRecords l).online = s.online := rfl
  unfold State.offerFrame
  rw [line, online]
  split
  · rfl
  split
  · exact State.startAttempt_withRecords { s with line.txQueue := insertFrame s.line.txQueue f } l
  split
  · next c others _ =>
    split
    · have told := State.postDiscarded_withRecords { s with line.txQueue := insertFrame others f } l c .queueFull
      exact (congrArg State.startAttempt told).trans (State.startAttempt_withRecords _ l)
    · exact s.postDiscarded_withRecords l f .queueFull
  · exact s.postDiscarded_withRecords l f .queueFull

end

/-! ### The checks of a PRESENCE (R79) -/

/-- A record due a check at a PRESENCE from a station, with that check outstanding. -/
def ToolRecord.checked (r : ToolRecord) (n : Nat) (now : Millis) : ToolRecord :=
  { r with state := match r.state with
    | .inDoubt c p none => if c.counterpart = n then .inDoubt c p (some (now + 60)) else r.state
    | st => st }

/-- The CHECK of a record due one is handed over; the check state is left as it is. -/
def State.offerCheck (n : Nat) (s : State) (r : ToolRecord) : State :=
  match r.state with
  | .inDoubt c _ none => if c.counterpart = n then s.offerFrame (newFrame .check n
      (wordBytes r.image.toolId ++ [c.handoff]) (.check r.image.toolId)) else s
  | _ => s

/-- A record is due a check, or a PRESENCE leaves it alone and hands nothing over. -/
theorem ToolRecord.due_or (r : ToolRecord) (n : Nat) :
    (∃ c p, r.state = .inDoubt c p none ∧ c.counterpart = n)
    ∨ (r.wantsCheck n = none ∧ (∀ now, r.checked n now = r) ∧ ∀ s, State.offerCheck n s r = s) := by
  obtain ⟨image, state⟩ := r
  cases state with
  | inDoubt c p d =>
    cases d with
    | none =>
      by_cases peer : c.counterpart = n
      · exact .inl ⟨c, p, rfl, peer⟩
      · exact .inr (by simp [ToolRecord.wantsCheck, ToolRecord.checked, State.offerCheck, peer])
    | some d => exact .inr ⟨rfl, fun _ => rfl, fun _ => rfl⟩
  | _ => exact .inr ⟨rfl, fun _ => rfl, fun _ => rfl⟩

/-- With distinct tool ids a change of one record is a change at its place in the row order (R4). -/
theorem map_record_of_nodup {front back : List ToolRecord} {r : ToolRecord}
    (ids : ((front ++ r :: back).map (·.image.toolId)).Nodup) (f : ToolRecord → ToolRecord) :
    (front ++ r :: back).map (fun q => if q.image.toolId = r.image.toolId then f q else q) = front ++ f r :: back := by
  rw [List.map_append, List.map_cons, List.nodup_append] at ids
  obtain ⟨-, later, earlier⟩ := ids
  have others : ∀ l : List ToolRecord, (∀ q ∈ l, q.image.toolId ≠ r.image.toolId) →
      l.map (fun q => if q.image.toolId = r.image.toolId then f q else q) = l := fun l apart =>
    (List.map_congr_left fun q hq => if_neg (apart q hq)).trans (List.map_id l)
  rw [List.map_append, List.map_cons, others front fun q hq => ?before, others back fun q hq => ?behind, if_pos rfl]
  case before => exact earlier _ (List.mem_map_of_mem hq) _ List.mem_cons_self
  case behind => exact fun same => (List.nodup_cons.mp later).1 (same ▸ List.mem_map_of_mem hq)

section
variable {n : Nat} {r : ToolRecord} {front todo : List ToolRecord}

/-- The check of one record: its CHECK is handed over, and the record changes at its place. -/
theorem State.startCheck_at (s : State) (ids : ((front ++ r :: todo).map (·.image.toolId)).Nodup) :
    (s.withRecords (front ++ r :: todo)).startCheck n r
      = (s.offerCheck n r).withRecords (front ++ r.checked n s.now :: todo) := by
  obtain ⟨c, p, state, peer⟩ | ⟨idle, same, lost⟩ := r.due_or n
  · have wants : r.wantsCheck n = some c := by simp [ToolRecord.wantsCheck, state, peer]
    have offer : s.offerCheck n r = s.offerFrame (newFrame .check n
        (wordBytes r.image.toolId ++ [c.handoff]) (.check r.image.toolId)) := by simp [State.offerCheck, state, peer]
    have checked : r.checked n s.now = { r with state := .inDoubt c p (some (s.now + 60)) } := by
      simp [ToolRecord.checked, state, peer]
    simp only [State.startCheck, wants, State.offerFrame_withRecords, offer, checked]
    refine (congrArg (State.withRecords _) (map_record_of_nodup ids _)).trans ?_
    simp only [state]
    rfl
  · rw [same, lost]
    simp only [State.startCheck, idle]

/-- The CHECK is a frame offered, or nothing. -/
theorem State.offerCheck_keeps {β : Type} (g : State → β) (keeps : ∀ s f, g (State.offerFrame s f) = g s) (s : State)
    (r : ToolRecord) : g (s.offerCheck n r) = g s := by
  obtain ⟨c, p, state, peer⟩ | ⟨-, -, lost⟩ := r.due_or n
  · simp [State.offerCheck, state, peer, keeps]
  · rw [lost]

/-- The checks of the records still to come, in row order. -/
theorem State.startCheck_foldl (s : State) (ids : ((front ++ todo).map (·.image.toolId)).Nodup) :
    todo.foldl (fun u r => u.startCheck n r) (s.withRecords (front ++ todo))
      = (todo.foldl (State.offerCheck n) s).withRecords (front ++ todo.map (·.checked n s.now)) := by
  induction todo generalizing front s with
  | nil => rfl
  | cons r todo ih =>
    have now : (s.offerCheck n r).now = s.now := State.offerCheck_keeps (·.now) State.offerFrame_now s r
    have rest := ih (front := front ++ [r.checked n s.now]) (s.offerCheck n r) (by simpa [ToolRecord.checked] using ids)
    rw [now] at rest
    rw [List.foldl_cons, s.startCheck_at ids]
    simpa using rest

/-- What a PRESENCE of a station starts at an ONLINE node. -/
theorem State.presenceReport_online {s : State} (online : s.port.nodeState = .online)
    (ids : (s.records.map (·.image.toolId)).Nodup) (n : Nat) :
    s.presenceReport n = (s.records.foldl (State.offerCheck n) s).withRecords (s.records.map (·.checked n s.now)) := by
  unfold State.presenceReport State.online
  rw [if_pos (by simp [online])]
  exact s.startCheck_foldl (front := []) ids

end

end Sys2Proof.Machine

namespace Sys2Proof.Proofs

open Sys2Proof.Machine

/-- Settles O55: each offer is one call of the transmit queue, and the checks change one record each, at its place,
while the offers do not look at the record table. -/
theorem beaconsAndChecks : Obligations.BeaconsAndChecks := by
  unfold Obligations.BeaconsAndChecks
  refine fun s => ⟨fun d listening deadline reached => ?online, fun d online deadline reached => ?beacon,
    ⟨State.offerPresence_new, State.offerPresence_queued⟩, fun n offline => ?offline, fun n online ids => ?checks⟩
  case online => exact if_pos ⟨listening, by rw [deadline]; exact reached⟩
  case beacon =>
    have due : (s.online && due s.now s.roster.beacon) = true := by simp [State.online, online, deadline, due, reached]
    exact if_pos due
  case offline => exact if_neg (by simp [State.online, offline])
  case checks =>
    rw [State.presenceReport_online online ids]
    have keeps : ∀ {β : Type} (g : State → β), (∀ s f, g (State.offerFrame s f) = g s) →
        g (s.records.foldl (State.offerCheck n) s) = g s := fun g offers =>
      foldl_keeps g (State.offerCheck_keeps g offers) _ s
    refine ⟨rfl, keeps (·.custody) State.offerFrame_custody, keeps (·.bank) State.offerFrame_bank,
      keeps (·.roster) State.offerFrame_roster, rfl, rfl⟩

end Sys2Proof.Proofs
end

section
/-! SUPPORT. Lapsing offers: what it makes of the outbound slots, the records and the notices, and what it leaves alone
(R71, R72). -/

namespace Sys2Proof.Machine

/-- The record found where every record has changed in what is not its image. -/
theorem State.find_of_map {s t : State} {f : ToolRecord → ToolRecord} (records : t.records = s.records.map f)
    (image : ∀ r, (f r).image = r.image) (tool : ToolId) : t.find tool = (s.find tool).map f := by
  unfold State.find
  rw [records, List.find?_map]
  simp only [Function.comp_def, image]

/-! ### One offer -/

theorem RecordState.lapsed_lapsed (st : RecordState) : st.lapsed.lapsed = st.lapsed := by cases st <;> rfl

section
variable {s : State} {i : Nat} {o : OutSlot}

theorem State.lapse_custody (slot : s.out? i = some o) (cause : DoubtCause) :
    (s.lapse i cause).custody = { s.custody with outs := s.custody.outs.set i none } := by
  unfold State.lapse
  rw [slot]
  simp [State.freeOut]

theorem State.lapse_records (slot : s.out? i = some o) (cause : DoubtCause) :
    (s.lapse i cause).records = s.records.map (fun r =>
      if r.image.toolId = o.tool then { r with state := r.state.lapsed } else r) := by
  unfold State.lapse
  rw [slot]
  simp [State.updateRecord]

/-- The notices of a lapsing offer whose record is or becomes IN_DOUBT. -/
theorem State.lapse_notices (slot : s.out? i = some o) {r : ToolRecord} (found : s.find o.tool = some r)
    {c : CustodyPart} {p : Prior} {d : Option Millis} (doubt : r.state.lapsed = .inDoubt c p d) (cause : DoubtCause) :
    (s.lapse i cause).notices = (postLapses cause.code [o] s).notices := by
  have changed : ((s.updateRecord o.tool (fun r => { r with state := r.state.lapsed })).freeOut i).find o.tool
      = some { r with state := r.state.lapsed } :=
    (State.find_congr rfl _).trans (State.find_updateRecord found _ fun _ => rfl)
  unfold State.lapse
  rw [slot]
  simp only [State.postChanged_eq changed, doubt, postLapses, List.foldl_cons, List.foldl_nil]
  refine State.post_notices_congr ?_ ?_ _ _ _
  · refine State.post_notices_congr ?_ ?_ _ _ _ <;> rfl
  · simp

end

/-! ### Every offer that satisfies a test -/

/-- The offers of these slots that satisfy a test, in slot order. -/
def lapsing (test : OutSlot → Bool) (outs : List (Option OutSlot)) : List OutSlot := (outs.filterMap id).filter test

theorem lapsing_append (test : OutSlot → Bool) (front : List (Option OutSlot)) (x : Option OutSlot) :
    lapsing test (front ++ [x]) = lapsing test front ++ lapsing test [x] := by simp [lapsing]

theorem lapsing_all (outs : List (Option OutSlot)) : lapsing (fun _ => true) outs = outs.filterMap id := by
  simp [lapsing]

theorem mem_lapsing {test : OutSlot → Bool} {outs : List (Option OutSlot)} {o : OutSlot} :
    o ∈ lapsing test outs ↔ some o ∈ outs ∧ test o = true := by simp [lapsing]

/-- A record after these offers have lapsed. -/
def ToolRecord.lapsedBy (r : ToolRecord) (gone : List OutSlot) : ToolRecord :=
  if ∃ o ∈ gone, o.tool = r.image.toolId then { r with state := r.state.lapsed } else r

@[simp] theorem ToolRecord.lapsedBy_image (r : ToolRecord) (gone : List OutSlot) :
    (r.lapsedBy gone).image = r.image := by
  unfold ToolRecord.lapsedBy
  split <;> rfl

@[simp] theorem ToolRecord.lapsedBy_nil (r : ToolRecord) : r.lapsedBy [] = r := if_neg (by simp)

/-- A record named by one of the offers lapses, the offers' number and order aside. -/
theorem ToolRecord.lapsedBy_of_mem {r : ToolRecord} {gone : List OutSlot} {o : OutSlot} (mem : o ∈ gone)
    (tool : o.tool = r.image.toolId) : r.lapsedBy gone = { r with state := r.state.lapsed } := if_pos ⟨o, mem, tool⟩

theorem ToolRecord.lapsedBy_of_forall {r : ToolRecord} {gone : List OutSlot}
    (other : ∀ o ∈ gone, o.tool ≠ r.image.toolId) : r.lapsedBy gone = r := if_neg fun ⟨o, mem, tool⟩ => other o mem tool

/-- One offer more. -/
theorem ToolRecord.lapsedBy_concat (r : ToolRecord) (gone : List OutSlot) (o : OutSlot) :
    r.lapsedBy (gone ++ [o]) = if (r.lapsedBy gone).image.toolId = o.tool
      then { r.lapsedBy gone with state := (r.lapsedBy gone).state.lapsed } else r.lapsedBy gone := by
  rw [ToolRecord.lapsedBy_image]
  by_cases before : ∃ q ∈ gone, q.tool = r.image.toolId
  · obtain ⟨q, mem, tool⟩ := before
    rw [ToolRecord.lapsedBy_of_mem mem tool, ToolRecord.lapsedBy_of_mem (List.mem_append_left _ mem) tool]
    simp [RecordState.lapsed_lapsed]
  · have others : ∀ q ∈ gone, q.tool ≠ r.image.toolId := fun q mem tool => before ⟨q, mem, tool⟩
    rw [ToolRecord.lapsedBy_of_forall others]
    by_cases last : r.image.toolId = o.tool
    · rw [if_pos last, ToolRecord.lapsedBy_of_mem (List.mem_append_right gone List.mem_cons_self) last.symm]
    · rw [if_neg last, ToolRecord.lapsedBy_of_forall fun q mem => ?_]
      obtain early | rfl := by simpa using mem
      · exact others q early
      · exact Ne.symm last

/-- Every busy outbound slot names an OUTBOUND record, the one that is found for its tool id. -/
def State.OffersHeld (s : State) : Prop :=
  ∀ o, some o ∈ s.custody.outs → ∃ r c p, s.find o.tool = some r ∧ r.state = .outbound c p

/-- The laws of records and offers say so (R3, R59). -/
theorem State.OffersHeld.of_laws {s : State} (records : s.RecordLaw) (offers : s.OfferLaw) : s.OffersHeld := by
  intro o mem
  obtain ⟨r, held, tool, p, state⟩ := offers.record o mem
  have found : ∃ q, s.find o.tool = some q := Option.isSome_iff_exists.mp
    (List.find?_isSome.mpr ⟨r, held, by simp [tool]⟩)
  obtain ⟨q, found⟩ := found
  rw [State.eq_of_find records.distinct.of_append_left found held tool] at state
  exact ⟨q, _, p, found, state⟩

/-- The offers of the first outbound slots that satisfy a test have lapsed. -/
structure State.LapsedUpTo (s : State) (test : OutSlot → Bool) (cause : DoubtCause) (front : List (Option OutSlot))
    (t : State) : Prop where
  now : t.now = s.now
  custody : t.custody = { s.custody with
    outs := front.map (Option.filter (fun o => !test o)) ++ s.custody.outs.drop front.length }
  records : t.records = s.records.map (·.lapsedBy (lapsing test front))
  notices : s.OffersHeld → t.notices = (postLapses cause.code (lapsing test front) s).notices

@[simp] theorem postLapses_now (cause : Nat) (outs : List OutSlot) (s : State) :
    (postLapses cause outs s).now = s.now :=
  foldl_keeps (·.now) (fun _ _ => by simp) outs s

/-- A fold of notices depends on the queue and the count. -/
theorem foldl_notices_congr {α : Type} {f : State → α → State}
    (posts : ∀ u v a, v.notices = u.notices → v.now = u.now → (f v a).notices = (f u a).notices)
    (keeps : ∀ u a, (f u a).now = u.now) {s t : State} (notices : t.notices = s.notices) (now : t.now = s.now)
    (l : List α) : (l.foldl f t).notices = (l.foldl f s).notices := by
  induction l generalizing s t with
  | nil => exact notices
  | cons a l ih => exact ih (posts s t a notices now) ((keeps t a).trans (now.trans (keeps s a).symm))

theorem postLapses_notices_congr {s t : State} (notices : t.notices = s.notices) (now : t.now = s.now) (cause : Nat)
    (outs : List OutSlot) : (postLapses cause outs t).notices = (postLapses cause outs s).notices := by
  refine foldl_notices_congr (fun u v o notices now => ?_) (fun u o => by simp) notices now outs
  exact State.post_notices_congr (State.post_notices_congr notices now _ _ _) (by simpa using now) _ _ _

/-- A slot that is free, or whose offer does not satisfy the test, is passed by. -/
theorem State.LapsedUpTo.pass {s t : State} {test : OutSlot → Bool} {cause : DoubtCause}
    {front back : List (Option OutSlot)} {x : Option OutSlot} (slots : s.custody.outs = front ++ x :: back)
    (h : s.LapsedUpTo test cause front t) (stays : ∀ o, x = some o → test o = false) :
    s.LapsedUpTo test cause (front ++ [x]) t := by
  have none : lapsing test [x] = [] := by
    refine List.eq_nil_iff_forall_not_mem.mpr fun o mem => ?_
    obtain ⟨mem, lapses⟩ := mem_lapsing.mp mem
    cases (stays o (List.mem_singleton.mp mem).symm).symm.trans lapses
  have kept : x.filter (fun o => !test o) = x := by
    cases x with
    | none => rfl
    | some o => simp [stays o rfl]
  refine ⟨h.now, ?_, ?_, fun held => ?_⟩
  · rw [h.custody, slots]
    simp [kept]
  · rw [h.records, lapsing_append, none, List.append_nil]
  · rw [h.notices held, lapsing_append, none, List.append_nil]

/-- A slot whose offer satisfies the test is freed, its record lapses, and the notices follow. -/
theorem State.LapsedUpTo.lapse {s t : State} {test : OutSlot → Bool} {cause : DoubtCause}
    {front back : List (Option OutSlot)} {o : OutSlot} (slots : s.custody.outs = front ++ some o :: back)
    (h : s.LapsedUpTo test cause front t) (lapses : test o = true) :
    s.LapsedUpTo test cause (front ++ [some o]) (t.lapse front.length cause) := by
  have slot : t.out? front.length = some o := by simp [State.out?, h.custody, slots]
  have one : lapsing test (front ++ [some o]) = lapsing test front ++ [o] := by
    rw [lapsing_append]
    simp [lapsing, lapses]
  refine ⟨(t.lapse_now _ _).trans h.now, ?_, ?_, fun held => ?_⟩
  · rw [State.lapse_custody slot, h.custody, slots]
    simp [Option.filter, lapses]
  · rw [State.lapse_records slot, h.records, one, List.map_map]
    exact List.map_congr_left fun r _ => (r.lapsedBy_concat _ o).symm
  · obtain ⟨r, c, p, found, state⟩ := held o (by simp [slots])
    have found' := (State.find_of_map h.records (·.lapsedBy_image _) o.tool).trans (congrArg _ found)
    have doubt : (r.lapsedBy (lapsing test front)).state.lapsed = .inDoubt c p none := by
      unfold ToolRecord.lapsedBy
      split <;> simp [state, RecordState.lapsed]
    rw [State.lapse_notices slot found' doubt, one, postLapses, postLapses, List.foldl_append]
    exact postLapses_notices_congr (h.notices held) (h.now.trans (postLapses_now _ _ s).symm) _ _

/-- The lapse of the offers that satisfy a test, as a whole. -/
theorem State.lapseAll_lapsed {s : State} (sized : s.custody.outs.length = Config.outboundSlots)
    (test : OutSlot → Bool) (cause : DoubtCause) :
    s.LapsedUpTo test cause s.custody.outs (s.lapseAll test cause) := by
  unfold State.lapseAll
  rw [← sized]
  refine foldl_range_slots (s.LapsedUpTo test cause) ⟨rfl, ?_, ?_, fun _ => rfl⟩ fun front x back t slots h => ?_
  · rfl
  · simp [lapsing]
  · have slot : t.out? front.length = x := by simp [State.out?, h.custody, slots]
    rw [slot]
    cases x with
    | none => exact h.pass slots nofun
    | some o =>
      dsimp only
      split
      · next lapses => exact h.lapse slots lapses
      · next stays => exact h.pass slots fun q e => Option.some.inj e ▸ Bool.eq_false_iff.mpr stays

/-- Where no offer satisfies the test nothing happens. -/
theorem State.lapseAll_none {s : State} {test : OutSlot → Bool} (none : ∀ o, some o ∈ s.custody.outs → test o = false)
    (cause : DoubtCause) : s.lapseAll test cause = s := by
  refine List.foldlRecOn _ _ (motive := (· = s)) rfl fun u same i _ => ?_
  subst same
  split
  · next o slot =>
    have mem : some o ∈ u.custody.outs := List.mem_of_getElem? (Option.join_eq_some_iff.mp slot)
    exact if_neg (by simp [none o mem])
  · rfl

/-- What every lapse keeps, the lapse of all keeps. -/
theorem State.lapseAll_preserves {P : State → Prop} {cause : DoubtCause} (each : ∀ u i, P u → P (u.lapse i cause))
    {s : State} (start : P s) (test : OutSlot → Bool) : P (s.lapseAll test cause) := by
  refine List.foldlRecOn _ _ (motive := P) start fun u h i _ => ?_
  split
  · split
    · exact each u i h
    · exact h
  · exact h

theorem State.lapseAll_keeps {β : Type} (g : State → β) {cause : DoubtCause} (each : ∀ u i, g (u.lapse i cause) = g u)
    (s : State) (test : OutSlot → Bool) : g (s.lapseAll test cause) = g s :=
  State.lapseAll_preserves (P := fun u => g u = g s) (fun u i h => (each u i).trans h) rfl test

end Sys2Proof.Machine
end

section
/-! SUPPORT. Marks: what deleting rows and the marking pass leave alone, and what of the state they look at (R169,
R172). -/

namespace Sys2Proof.Machine

/-- A pocket with its reservation mark left out. -/
def Pocket.plain (k : Pocket) : Pocket := { k with reservedFor := none }

theorem State.plainPockets_eq (s : State) : s.plainPockets = s.bank.pockets.map Pocket.plain := rfl

/-! ### The marking pass touches marks only (R169) -/

/-- A change of one element that a view does not show. -/
theorem map_modify_of_keeps {α β : Type} {g : α → β} {f : α → α} (keeps : ∀ a, g (f a) = g a) (l : List α) (i : Nat) :
    (l.modify i f).map g = l.map g := by
  refine List.ext_getElem? fun j => ?_
  by_cases here : i = j
  · subst here
    simp [Function.comp_def, keeps]
  · simp [here]

theorem times_keeps {α β : Type} (g : α → β) {f : α → α} (keeps : ∀ a, g (f a) = g a) (n : Nat) (a : α) :
    g (times f n a) = g a := by
  induction n generalizing a with
  | zero => rfl
  | succ n ih => exact (ih (f a)).trans (keeps a)

section
variable (records : List ToolRecord) (row : Reservation) (pockets : List Pocket)

theorem addMark_plain : (addMark records row pockets).map Pocket.plain = pockets.map Pocket.plain := by
  unfold addMark
  split
  · rfl
  · refine map_modify_of_keeps ?_ _ _
    exact fun _ => rfl

theorem dropMark_plain : (dropMark records row pockets).map Pocket.plain = pockets.map Pocket.plain := by
  unfold dropMark
  split
  · rfl
  · refine map_modify_of_keeps ?_ _ _
    exact fun _ => rfl

theorem passRow_plain : (passRow records pockets row).map Pocket.plain = pockets.map Pocket.plain :=
  (times_keeps _ (addMark_plain records row) _ _).trans (times_keeps _ (dropMark_plain records row) _ _)

end

theorem State.sweep_plainPockets (s : State) : s.sweep.plainPockets = s.plainPockets :=
  foldl_keeps (List.map Pocket.plain) (fun pockets row => passRow_plain s.records row pockets) _ _

theorem State.markingPass_plainPockets (s : State) : s.markingPass.plainPockets = s.plainPockets :=
  s.sweep.sweep_plainPockets.trans s.sweep_plainPockets

/-- The marking pass looks at the records, the rows and the pockets. -/
theorem State.markingPass_bank_congr {s t : State} (records : t.records = s.records)
    (rows : t.reservations = s.reservations) (bank : t.bank = s.bank) : t.markingPass.bank = s.markingPass.bank := by
  simp only [State.markingPass, State.sweep, records, rows, bank]

/-! ### Deleting rows (R172) -/

theorem State.deleteRows_plainPockets (s : State) (gone : Reservation → Bool) :
    (s.deleteRows gone).plainPockets = s.plainPockets := by
  simp only [State.plainPockets_eq, State.deleteRows, List.map_map]
  refine List.map_congr_left fun k _ => ?_
  simp only [Function.comp_apply]
  split <;> rfl

/-- What a pocket's class is depends on the images held, in row order. -/
theorem classIn_of_map {l : List ToolRecord} {f : ToolRecord → ToolRecord} (image : ∀ r, (f r).image = r.image)
    (k : Pocket) : classIn (l.map f) k = classIn l k := by
  unfold classIn recordIn
  cases k.occupancy with
  | held tool =>
    simp only [List.find?_map, Function.comp_def, image]
    cases l.find? (fun r => r.image.toolId == tool) <;> simp [image]
  | _ => rfl

/-- The pockets whose mark is one of a station's rows. -/
def State.MarkedFor (s : State) (n : Nat) (k : Pocket) : Prop :=
  k.reservedFor = some n ∧ ∃ row ∈ s.reservations, row.requester = n ∧ classIn s.records k = row.cls

theorem State.markedFor_iff {s : State} {n : Nat} {k : Pocket} :
    s.reservations.any (fun row => row.requester == n && markOf s.records row k) = true ↔ s.MarkedFor n k := by
  simp only [List.any_eq_true, Bool.and_eq_true, beq_iff_eq, markOf, State.MarkedFor]
  constructor
  · rintro ⟨row, held, rfl, mark, cls⟩
    exact ⟨mark, row, held, rfl, cls⟩
  · rintro ⟨mark, row, held, rfl, cls⟩
    exact ⟨row, held, rfl, mark, cls⟩

/-- The bank once the marks of a station's rows are gone. -/
theorem State.deleteRows_bank_of_requester {s : State} {b : Bank} {n : Nat} {mark : Pocket → Prop}
    [DecidablePred mark] (bank : s.bank = b) (marks : ∀ k, s.MarkedFor n k ↔ mark k) :
    (s.deleteRows (·.requester == n)).bank = { b with
      pockets := b.pockets.map (fun k => if mark k then { k with reservedFor := none } else k) } := by
  have same : ∀ k : Pocket, (if s.reservations.any (fun row => row.requester == n && markOf s.records row k) then
      { k with reservedFor := none } else k) = if mark k then { k with reservedFor := none } else k :=
    fun k => if_congr (State.markedFor_iff.trans (marks k)) rfl rfl
  simp only [State.deleteRows, same, bank]

end Sys2Proof.Machine
end

section
/-! SUPPORT. O54: a roster entry when its station is heard, struck, cleared or absent (R47 to R49, R72, R172). -/

namespace Sys2Proof.Machine

/-! ### RESERVATION_ENDED -/

/-- What a notice leaves alone, the notices of ended rows leave alone. -/
theorem postEnded_keeps {β : Type} (g : State → β) (posts : ∀ u k o a, g (State.post u k o a) = g u) (cause : EndCause)
    (rows : List Reservation) (s : State) : g (postEnded cause rows s) = g s :=
  foldl_keeps g (fun u _ => posts u _ _ _) rows s

theorem postEnded_notices_congr {s t : State} (notices : t.notices = s.notices) (now : t.now = s.now) (cause : EndCause)
    (rows : List Reservation) : (postEnded cause rows t).notices = (postEnded cause rows s).notices := by
  refine foldl_notices_congr (fun u v row notices now => ?_) (fun u row => by simp) notices now rows
  exact State.post_notices_congr notices now _ _ _

/-- The rows of one station all show its number. -/
theorem postEnded_of_requester (cause : EndCause) (rows : List Reservation) (n : Nat) (s : State) :
    postEnded cause (rows.filter (·.requester == n)) s = (rows.filter (·.requester == n)).foldl
      (fun u row => u.post .reservationEnded (num n) (parts (beBytes 2 row.cls ++ byte cause.code))) s := by
  refine List.foldl_ext _ _ _ fun u row mem => ?_
  have own : row.requester = n := by simpa using (List.mem_filter.mp mem).2
  rw [own]

/-! ### The rows of an absent station (R172) -/

section
variable (s : State) (n : Nat)

theorem State.dropReservationsOf_keeps {β : Type} (g : State → β) (posts : ∀ u k o a, g (State.post u k o a) = g u) :
    g (s.dropReservationsOf n) = g (s.deleteRows (·.requester == n)).markingPass := postEnded_keeps g posts _ _ _

@[simp] theorem State.dropReservationsOf_records : (s.dropReservationsOf n).records = s.records :=
  s.dropReservationsOf_keeps n (·.records) (by simp)
@[simp] theorem State.dropReservationsOf_roster : (s.dropReservationsOf n).roster = s.roster :=
  s.dropReservationsOf_keeps n (·.roster) (by simp)
@[simp] theorem State.dropReservationsOf_custody : (s.dropReservationsOf n).custody = s.custody :=
  s.dropReservationsOf_keeps n (·.custody) (by simp)
theorem State.dropReservationsOf_bank :
    (s.dropReservationsOf n).bank = (s.deleteRows (·.requester == n)).markingPass.bank :=
  s.dropReservationsOf_keeps n (·.bank) (by simp)
theorem State.dropReservationsOf_reservations :
    (s.dropReservationsOf n).reservations = s.reservations.filter (fun row => row.requester != n) :=
  s.dropReservationsOf_keeps n (·.reservations) (by simp)

theorem State.dropReservationsOf_notices : (s.dropReservationsOf n).notices =
    (postEnded .absent (s.reservations.filter (·.requester == n)) s).notices :=
  postEnded_notices_congr (by simp) (by simp) _ _

end

/-! ### The absence of a station (R48) -/

/-- The state once an entry is ABSENT and PEER_ABSENT is told. -/
def State.toldAbsent (s : State) (n : Nat) (p : Peer) : State :=
  (s.setPeer n (fun _ => { p with state := .absent, absence := none })).post .peerAbsent (num n) p.lastHeard

/-- The state once the offers to an absent station have lapsed. -/
def State.offersLapsed (s : State) (n : Nat) (p : Peer) : State :=
  (s.toldAbsent n p).lapseAll (·.caller == n) .absent

section
variable {s : State} {n : Nat} {p : Peer}

theorem State.goAbsent_eq (h : s.peer? n = some p) :
    s.goAbsent n p = (s.offersLapsed n p).dropReservationsOf n := by
  unfold State.goAbsent State.offersLapsed State.toldAbsent
  rw [State.setPeer_const h]

theorem execPeerAbsent_due {d : Millis} (h : s.peer? n = some p) (present : p.state = .present)
    (deadline : p.absence = some d) (reached : reached s.now d = true) :
    execPeerAbsent n s = .next ((s.offersLapsed n p).dropReservationsOf n) := by
  simp [execPeerAbsent, h, present, deadline, due, reached, State.goAbsent_eq h]

/-! ### What the lapse of the offers leaves -/

theorem State.toldAbsent_roster : (s.toldAbsent n p).roster =
    (s.setPeer n (fun _ => { p with state := .absent, absence := none })).roster := by
  simp [State.toldAbsent]

theorem State.toldAbsent_notices : (s.toldAbsent n p).notices = (s.post .peerAbsent (num n) p.lastHeard).notices :=
  State.post_notices_congr (by simp) (by simp) _ _ _

@[simp] theorem State.offersLapsed_now : (s.offersLapsed n p).now = s.now :=
  (State.lapseAll_keeps (·.now) (fun u i => u.lapse_now i _) _ _).trans (by simp [State.toldAbsent])

/-- The roster once a station is ABSENT. -/
theorem State.absent_roster : ((s.offersLapsed n p).dropReservationsOf n).roster =
    (s.setPeer n (fun _ => { p with state := .absent, absence := none })).roster := by
  rw [State.dropReservationsOf_roster, ← State.toldAbsent_roster]
  exact State.lapseAll_keeps (·.roster) (fun u i => u.lapse_roster i _) _ _

theorem State.offersLapsed_bank : (s.offersLapsed n p).bank = s.bank :=
  (State.lapseAll_keeps (·.bank) (fun u i => u.lapse_bank i _) _ _).trans (by simp [State.toldAbsent])

theorem State.offersLapsed_reservations : (s.offersLapsed n p).reservations = s.reservations :=
  (State.lapseAll_keeps (·.reservations) (fun u i => u.lapse_reservations i _) _ _).trans (by simp [State.toldAbsent])

theorem State.offersLapsed_lapsed (sized : s.Sized) : (s.toldAbsent n p).LapsedUpTo (·.caller == n) .absent
    (s.toldAbsent n p).custody.outs (s.offersLapsed n p) :=
  State.lapseAll_lapsed (by simpa [State.toldAbsent] using sized.outs) _ _

theorem State.offersLapsed_custody (sized : s.Sized) : (s.offersLapsed n p).custody = { s.custody with
    outs := s.custody.outs.map (Option.filter (fun o => !(o.caller == n))) } := by
  simpa [State.toldAbsent] using (s.offersLapsed_lapsed (n := n) (p := p) sized).custody

theorem State.offersLapsed_records (sized : s.Sized) : (s.offersLapsed n p).records =
    s.records.map (·.lapsedBy (lapsing (·.caller == n) s.custody.outs)) := by
  simpa [State.toldAbsent] using (s.offersLapsed_lapsed (n := n) (p := p) sized).records

theorem State.offersLapsed_notices (sized : s.Sized) (held : s.OffersHeld) : (s.offersLapsed n p).notices =
    (postLapses 2 (lapsing (·.caller == n) s.custody.outs) (s.post .peerAbsent (num n) p.lastHeard)).notices := by
  have told : (s.toldAbsent n p).OffersHeld := by simpa [State.OffersHeld, State.toldAbsent, State.find] using held
  have lapsed := (State.offersLapsed_lapsed sized).notices told
  have slots : (s.toldAbsent n p).custody = s.custody := by simp [State.toldAbsent]
  rw [slots] at lapsed
  exact lapsed.trans (postLapses_notices_congr State.toldAbsent_notices (by simp [State.toldAbsent]) 2 _)

theorem State.mem_offersLapsed_outs (sized : s.Sized) {o : OutSlot} :
    some o ∈ (s.offersLapsed n p).custody.outs ↔ some o ∈ s.custody.outs ∧ o.caller ≠ n := by
  rw [s.offersLapsed_custody sized]
  simp

/-- An absence that no offer was made to. -/
theorem State.offersLapsed_none (none : ∀ o, some o ∈ s.custody.outs → o.caller ≠ n) :
    s.offersLapsed n p = s.toldAbsent n p :=
  State.lapseAll_none (by simpa [State.toldAbsent] using none) _

end

end Sys2Proof.Machine

namespace Sys2Proof.Proofs

open Sys2Proof.Machine

/-- Settles O54: the frames heard and the strikes by the entry's state and count; an absence in three stages, the entry
with its notice, the offers that lapse, and the rows that go, each of which leaves the blocks of the others alone. -/
theorem rosterEntries : Obligations.RosterEntries := by
  unfold Obligations.RosterEntries
  refine fun s n p entry => ⟨fun a => ⟨fun present => ?present, fun unknown => ?unknown, fun absent => ?absent⟩,
    fun kind => ⟨fun few => State.strike_counts entry few kind,
      fun many doubtful => State.strike_doubtful entry many doubtful kind,
      fun many trusted => State.strike_sets entry many trusted kind⟩,
    State.setPeer_const entry _, fun d present deadline reached sized => ?absence⟩
  case present =>
    rw [State.hear_present entry present, Peer.announce_eq, Peer.heard, Peer.limit_eq, ← present]
    rfl
  case unknown =>
    rw [State.hear_appears entry (by simp [unknown]), Peer.appear_unknown unknown, Peer.announce_eq, Peer.heard,
      Peer.limit_eq]
    rfl
  case absent =>
    rw [State.hear_appears entry (by simp [absent]), Peer.appear_absent absent, Peer.announce_eq, Peer.heard,
      Peer.limit_eq]
    rfl
  case absence =>
    refine ⟨_, execPeerAbsent_due entry present deadline reached, ?here, ?others, ?kept, ?keeps, ?lapses, ?rows, ?plain,
      ?bank, ?notices, ?none⟩
    case here => exact (State.peer?_congr State.absent_roster n).trans (State.peer?_setPeer entry _)
    case others =>
      exact fun m other => (State.peer?_congr State.absent_roster m).trans (State.peer?_setPeer_ne other _)
    case kept =>
      intro o mem
      rw [State.dropReservationsOf_custody] at mem
      exact (State.mem_offersLapsed_outs sized).mp mem
    case keeps =>
      intro o mem other
      rw [State.dropReservationsOf_custody]
      exact (State.mem_offersLapsed_outs sized).mpr ⟨mem, other⟩
    case lapses =>
      intro r held o mem caller tool c q state
      rw [State.dropReservationsOf_records, State.offersLapsed_records sized]
      refine List.mem_map.mpr ⟨r, held, ?_⟩
      rw [ToolRecord.lapsedBy_of_mem (mem_lapsing.mpr ⟨mem, by simp [caller]⟩) tool, state]
      rfl
    case rows => rw [State.dropReservationsOf_reservations, State.offersLapsed_reservations]
    case plain =>
      have pockets : (s.offersLapsed n p).plainPockets = s.plainPockets := by
        rw [State.plainPockets_eq, State.offersLapsed_bank, ← State.plainPockets_eq]
      rw [State.plainPockets_eq, State.dropReservationsOf_bank, ← State.plainPockets_eq,
        State.markingPass_plainPockets, State.deleteRows_plainPockets, pockets]
    case bank =>
      rw [State.dropReservationsOf_bank]
      refine State.markingPass_bank_congr (by simp) (State.dropReservationsOf_reservations _ n).symm ?_
      refine State.deleteRows_bank_of_requester State.offersLapsed_bank fun k => ?_
      rw [State.MarkedFor, State.offersLapsed_reservations, State.offersLapsed_records sized,
        classIn_of_map (·.lapsedBy_image _)]
    case notices =>
      intro records offers
      have lapsed := State.offersLapsed_notices (n := n) (p := p) sized (.of_laws records offers)
      rw [State.dropReservationsOf_notices, State.offersLapsed_reservations]
      exact (postEnded_notices_congr lapsed (by simp) .absent _).trans
        (congrArg (·.notices) (postEnded_of_requester .absent s.reservations n _))
    case none =>
      intro none
      rw [State.dropReservationsOf_records, State.dropReservationsOf_reservations, State.dropReservationsOf_notices,
        State.offersLapsed_reservations, State.offersLapsed_none none]
      refine ⟨by simp [State.toldAbsent], fun kept => ?_⟩
      have noRows : s.reservations.filter (·.requester == n) = [] := by
        refine List.filter_eq_nil_iff.mpr fun row mem => ?_
        have other := (List.mem_filter.mp (kept.symm ▸ mem)).2
        simpa using other
      rw [noRows]
      exact State.toldAbsent_notices

end Sys2Proof.Proofs
end

section
/-! SUPPORT. O17: JOIN and REJOIN (R53, R56, R57, R65, R72). -/

namespace Sys2Proof.Machine

/-! ### The bodies of JOIN and REJOIN (R53, R56) -/

theorem joinBody_configured {s : State} (configured : s.port.nodeState = .configured) :
    joinBody s = done s.listen := by simp [joinBody, State.configured, configured]

theorem joinBody_unconfigured {s : State} (before : s.port.nodeState = .unconfigured) :
    joinBody s = .error .notConfigured := by simp [joinBody, State.configured, before]

theorem joinBody_joined {s : State} (past : s.port.nodeState ≠ .unconfigured)
    (joined : s.port.nodeState ≠ .configured) : joinBody s = .error .badState := by
  simp [joinBody, State.configured, past, joined]

theorem rejoinBody_online {s : State} (online : s.port.nodeState = .online) : rejoinBody s = done s.rejoin := by
  simp [rejoinBody, State.configured, State.online, online]

theorem rejoinBody_unconfigured {s : State} (before : s.port.nodeState = .unconfigured) :
    rejoinBody s = .error .notConfigured := by simp [rejoinBody, State.configured, before]

theorem rejoinBody_offline {s : State} (past : s.port.nodeState ≠ .unconfigured)
    (offline : s.port.nodeState ≠ .online) : rejoinBody s = .error .badState := by
  simp [rejoinBody, State.configured, State.online, past, offline]

/-! ### An answer forms a response and changes nothing else -/

section
variable (s : State) (r : HostResult) (payload : List Byte)

@[simp] theorem State.answered_now : (s.answered r payload).now = s.now := rfl
@[simp] theorem State.answered_notices : (s.answered r payload).notices = s.notices := rfl
@[simp] theorem State.answered_config : (s.answered r payload).config = s.config := rfl
@[simp] theorem State.answered_records : (s.answered r payload).records = s.records := rfl
@[simp] theorem State.answered_line : (s.answered r payload).line = s.line := rfl
@[simp] theorem State.answered_roster : (s.answered r payload).roster = s.roster := rfl
@[simp] theorem State.answered_custody : (s.answered r payload).custody = s.custody := rfl
@[simp] theorem State.answered_bank : (s.answered r payload).bank = s.bank := rfl
@[simp] theorem State.answered_panels : (s.answered r payload).panels = s.panels := rfl
@[simp] theorem State.answered_head : (s.answered r payload).head = s.head := rfl
@[simp] theorem State.answered_demand : (s.answered r payload).demand = s.demand := rfl
@[simp] theorem State.answered_reservations : (s.answered r payload).reservations = s.reservations := rfl
@[simp] theorem State.answered_slot? (n : Nat) : (s.answered r payload).slot? n = s.slot? n := rfl
theorem State.answered_port : (s.answered r payload).port =
    { s.port with commandSlot := none, response := some { result := r, payload := payload } } := rfl

end

/-! ### A call that closes ABANDONED (R65) -/

theorem State.slot?_congr {s t : State} (h : t.magazine = s.magazine) (n : Nat) : t.slot? n = s.slot? n := by
  unfold State.slot?
  rw [h]

/-- Every slot after a change of one. -/
theorem State.slot?_setSlot_map (s : State) (k : Nat) (m : MagSlot) (n : Nat) :
    (s.setSlot k m).slot? n = (s.slot? n).map (fun old => if k = n then m else old) := by
  unfold State.slot? State.setSlot
  by_cases hn : n = 0
  · simp [hn]
  by_cases hk : k = 0
  · subst hk
    simp [hn, Ne.symm hn]
  by_cases same : k = n
  · subst same
    simp only [hk, if_false, if_true, List.getElem?_set_self']
    rfl
  · have apart : k - 1 ≠ n - 1 := by omega
    simp [hn, hk, same, apart]

/-- The slots after a call closes ABANDONED: its purpose slot is REFUSED. -/
theorem State.slot?_closeCall_abandoned {s : State} {i : Nat} {c : CallSlot} (h : s.call? i = some c) (n : Nat) :
    (s.closeCall i .abandoned 0).slot? n =
      (s.slot? n).map (fun old => if c.purpose = .slot n then .refused .abandoned else old) := by
  unfold State.closeCall
  rw [h]
  refine (State.slot?_congr (State.post_magazine ..) n).trans ?_
  cases purpose : c.purpose with
  | slot k =>
    refine (State.slot?_setSlot_map _ k _ n).trans ?_
    simp only [Purpose.slot.injEq]
    rfl
  | _ => simp [State.leavePlace, State.slot?]

/-! ### Every call closes (R57) -/

theorem filterMap_id_free {α : Type} (front : List (Option α)) :
    (front ++ [none]).filterMap id = front.filterMap id := by simp

theorem filterMap_id_busy {α : Type} (front : List (Option α)) (a : α) :
    (front ++ [some a]).filterMap id = front.filterMap id ++ [a] := by simp

/-- CALL_DONE ABANDONED of a call. -/
def State.postAbandoned (s : State) (c : CallSlot) : State :=
  s.post .callDone c.tool (parts (byte 5 ++ byte 0 ++ byte 0))

theorem foldl_postAbandoned_now (calls : List CallSlot) (s : State) :
    (calls.foldl State.postAbandoned s).now = s.now := foldl_keeps (·.now) (fun u _ => u.post_now ..) calls s

/-- The calls of the first call slots have closed ABANDONED. -/
structure State.AbandonedUpTo (s : State) (front : List (Option CallSlot)) (t : State) : Prop where
  custody : t.custody = { s.custody with
    calls := List.replicate front.length none ++ s.custody.calls.drop front.length }
  slots : ∀ n, t.slot? n = (s.slot? n).map (fun old =>
    if .slot n ∈ (front.filterMap id).map (·.purpose) then .refused .abandoned else old)
  now : t.now = s.now
  notices : t.notices = ((front.filterMap id).foldl State.postAbandoned s).notices

theorem State.AbandonedUpTo.free {s t : State} {front back : List (Option CallSlot)}
    (slots : s.custody.calls = front ++ none :: back) (h : s.AbandonedUpTo front t) :
    s.AbandonedUpTo (front ++ [none]) t := by
  refine ⟨?_, fun n => ?_, h.now, ?_⟩
  · rw [h.custody, slots]
    simp [List.replicate_succ']
  · rw [h.slots n, filterMap_id_free]
  · rw [h.notices, filterMap_id_free]

theorem State.AbandonedUpTo.close {s t : State} {front back : List (Option CallSlot)} {c : CallSlot}
    (slots : s.custody.calls = front ++ some c :: back) (h : s.AbandonedUpTo front t) :
    s.AbandonedUpTo (front ++ [some c]) (t.closeCall front.length .abandoned 0) := by
  have call : t.call? front.length = some c := by simp [State.call?, h.custody, slots]
  refine ⟨?_, fun n => ?_, (t.closeCall_now ..).trans h.now, ?_⟩
  · rw [State.closeCall_custody call, h.custody, slots]
    simp [List.replicate_succ']
  · rw [State.slot?_closeCall_abandoned call, h.slots n, Option.map_map, filterMap_id_busy]
    refine congrArg (Option.map · _) (funext fun old => ?_)
    rw [Function.comp_apply, List.map_append, List.map_singleton]
    by_cases own : c.purpose = .slot n
    · rw [if_pos own, if_pos (List.mem_append_right _ (List.mem_singleton.mpr own.symm))]
    · rw [if_neg own]
      refine if_congr ?_ rfl rfl
      rw [List.mem_append, List.mem_singleton, or_iff_left (Ne.symm own)]
  · rw [State.closeCall_notices call, filterMap_id_busy, List.foldl_append]
    exact State.post_notices_congr h.notices (h.now.trans (foldl_postAbandoned_now _ s).symm) _ _ _

theorem State.abandonCalls_abandoned {s : State} (sized : s.custody.calls.length = Config.callSlots) :
    s.AbandonedUpTo s.custody.calls s.abandonCalls := by
  unfold State.abandonCalls
  rw [← sized]
  refine foldl_range_slots s.AbandonedUpTo ⟨rfl, fun n => ?_, rfl, rfl⟩ fun front x back t slots h => ?_
  · simp
  · cases x with
    | none =>
      have free : t.call? front.length = none := by simp [State.call?, h.custody, slots]
      rw [State.closeCall_none free]
      exact h.free slots
    | some c => exact h.close slots

/-- What every closing call keeps, the closing of all keeps. -/
theorem State.abandonCalls_preserves {P : State → Prop} (each : ∀ u i, P u → P (u.closeCall i .abandoned 0))
    {s : State} (start : P s) : P s.abandonCalls :=
  List.foldlRecOn _ _ start fun u h i _ => each u i h

theorem State.abandonCalls_keeps {β : Type} (g : State → β) (each : ∀ u i, g (u.closeCall i .abandoned 0) = g u)
    (s : State) : g s.abandonCalls = g s := foldl_keeps g each _ s

/-! ### An empty transmit queue stays empty -/

theorem State.removeFrames_line_of_empty {s : State} (empty : s.line.txQueue = []) (o : FrameOwner) :
    (s.removeFrames o).line = s.line := by
  simp only [State.removeFrames, empty, List.filterMap_nil]
  rw [← empty]

theorem State.lapse_line_of_empty {s : State} (empty : s.line.txQueue = []) (i : Nat) (cause : DoubtCause) :
    (s.lapse i cause).line = s.line := by
  unfold State.lapse
  split
  · rfl
  · simp only [State.post_line, State.postChanged_line]
    exact State.removeFrames_line_of_empty empty _

theorem State.closeCall_line_of_empty {s : State} (empty : s.line.txQueue = []) (i : Nat) (o : CallOutcome) (n : Nat) :
    (s.closeCall i o n).line = s.line := by
  unfold State.closeCall
  split
  · rfl
  · simp only [State.post_line, State.leavePlace_line]
    exact State.removeFrames_line_of_empty empty _

/-! ### REJOIN at the custody engine (R57) -/

/-- The state of a REJOIN once every offer has lapsed and every call is closed. -/
def State.callsAbandoned (s : State) : State :=
  (s.restartLine.listen.lapseAll (fun _ => true) .rejoin).abandonCalls

/-- The end of a REJOIN: outstanding checks are abandoned, rows and marks go, the sequencer is IDLE. -/
def State.unreserved (s : State) : State :=
  State.restartDemand { s with records := s.records.map (fun r => { r with state := r.state.uncheck }) }

theorem State.rejoin_eq (s : State) : s.rejoin = s.callsAbandoned.unreserved := by
  unfold State.rejoin State.restartCustody State.callsAbandoned
  rfl

section
variable (s : State)

@[simp] theorem State.unreserved_now : s.unreserved.now = s.now := rfl
@[simp] theorem State.unreserved_port : s.unreserved.port = s.port := rfl
@[simp] theorem State.unreserved_notices : s.unreserved.notices = s.notices := rfl
@[simp] theorem State.unreserved_config : s.unreserved.config = s.config := rfl
@[simp] theorem State.unreserved_line : s.unreserved.line = s.line := rfl
@[simp] theorem State.unreserved_roster : s.unreserved.roster = s.roster := rfl
@[simp] theorem State.unreserved_custody : s.unreserved.custody = s.custody := rfl
@[simp] theorem State.unreserved_panels : s.unreserved.panels = s.panels := rfl
@[simp] theorem State.unreserved_head : s.unreserved.head = s.head := rfl
@[simp] theorem State.unreserved_magazine : s.unreserved.magazine = s.magazine := rfl
theorem State.unreserved_records :
    s.unreserved.records = s.records.map (fun r => { r with state := r.state.uncheck }) := rfl
theorem State.unreserved_bank : s.unreserved.bank = { s.bank with pockets := s.plainPockets } := rfl
theorem State.unreserved_demand :
    s.unreserved.demand = { s.demand with running := false, cycles := 0, deadline := none } := rfl
theorem State.unreserved_reservations : s.unreserved.reservations = [] := rfl

end

/-- What lapses and closing calls keep. -/
theorem State.callsAbandoned_keeps {β : Type} (g : State → β) (lapses : ∀ u i, g (State.lapse u i .rejoin) = g u)
    (closes : ∀ u i, g (State.closeCall u i .abandoned 0) = g u) (s : State) :
    g s.callsAbandoned = g s.restartLine.listen :=
  (State.abandonCalls_keeps g closes _).trans (State.lapseAll_keeps g lapses _ _)

/-- What the end of a REJOIN keeps as well. -/
theorem State.rejoin_keeps {β : Type} (g : State → β) (ends : ∀ u, g (State.unreserved u) = g u)
    (lapses : ∀ u i, g (State.lapse u i .rejoin) = g u) (closes : ∀ u i, g (State.closeCall u i .abandoned 0) = g u)
    (s : State) : g s.rejoin = g s.restartLine.listen := by
  rw [State.rejoin_eq, ends]
  exact State.callsAbandoned_keeps g lapses closes s

section
variable (s : State)

theorem State.rejoin_port : s.rejoin.port = s.listen.port :=
  State.rejoin_keeps (·.port) State.unreserved_port (by simp) (by simp) s
theorem State.rejoin_roster : s.rejoin.roster = Roster.atReset :=
  State.rejoin_keeps (·.roster) State.unreserved_roster (by simp) (by simp) s
theorem State.rejoin_panels : s.rejoin.panels = s.panels :=
  State.rejoin_keeps (·.panels) State.unreserved_panels (by simp) (by simp) s
theorem State.rejoin_head : s.rejoin.head = s.head :=
  State.rejoin_keeps (·.head) State.unreserved_head (by simp) (by simp) s
theorem State.rejoin_config : s.rejoin.config = s.config :=
  State.rejoin_keeps (·.config) State.unreserved_config (by simp) (by simp) s
theorem State.rejoin_now : s.rejoin.now = s.now :=
  State.rejoin_keeps (·.now) State.unreserved_now (by simp) (by simp) s

theorem State.rejoin_reservations : s.rejoin.reservations = [] := by
  rw [State.rejoin_eq, State.unreserved_reservations]

theorem State.rejoin_bank : s.rejoin.bank = { s.bank with pockets := s.plainPockets } := by
  have bank : s.callsAbandoned.bank = s.bank := State.callsAbandoned_keeps (·.bank) (by simp) (by simp) s
  rw [State.rejoin_eq, State.unreserved_bank, State.plainPockets, State.plainPockets, bank]

theorem State.rejoin_demand :
    s.rejoin.demand = { s.demand with running := false, cycles := 0, deadline := none } := by
  have demand : s.callsAbandoned.demand = s.demand := State.callsAbandoned_keeps (·.demand) (by simp) (by simp) s
  rw [State.rejoin_eq, State.unreserved_demand, demand]

end

theorem RecordState.uncheck_check (st : RecordState) : st.uncheck.check = none := by cases st <;> rfl

/-- Both queues are empty, and every removal of a frame finds the transmit queue so. -/
theorem State.rejoin_line (s : State) : s.rejoin.line = { s.line with txQueue := [], rxQueue := [] } := by
  rw [State.rejoin_eq, State.unreserved_line]
  have empty : ∀ u : State, u.line = s.restartLine.line → u.line.txQueue = [] := fun u h => by rw [h]; rfl
  have lapsed := State.lapseAll_preserves (P := fun u => u.line = s.restartLine.line) (cause := .rejoin)
    (fun u i h => (State.lapse_line_of_empty (empty u h) i _).trans h) (s := s.restartLine.listen) rfl (fun _ => true)
  exact State.abandonCalls_preserves (fun u i h => (State.closeCall_line_of_empty (empty u h) i _ _).trans h) lapsed

section
variable {s : State}

/-- What the lapse of every offer makes of the node that listens again. -/
theorem State.rejoin_lapsed (sized : s.Sized) : s.restartLine.listen.LapsedUpTo (fun _ => true) .rejoin s.custody.outs
    (s.restartLine.listen.lapseAll (fun _ => true) .rejoin) :=
  State.lapseAll_lapsed (s := s.restartLine.listen) sized.outs _ _

theorem State.rejoin_abandoned (sized : s.Sized) :
    (s.restartLine.listen.lapseAll (fun _ => true) .rejoin).AbandonedUpTo s.custody.calls s.callsAbandoned := by
  have calls : (s.restartLine.listen.lapseAll (fun _ => true) .rejoin).custody.calls = s.custody.calls :=
    congrArg (·.calls) (State.rejoin_lapsed sized).custody
  have abandoned := State.abandonCalls_abandoned (s := s.restartLine.listen.lapseAll (fun _ => true) .rejoin)
    (by rw [calls]; exact sized.calls)
  rwa [calls] at abandoned

theorem State.rejoin_custody (sized : s.Sized) : s.rejoin.custody =
    { s.custody with calls := List.replicate 4 none, outs := List.replicate 4 none } := by
  rw [State.rejoin_eq, State.unreserved_custody, (State.rejoin_abandoned sized).custody,
    (State.rejoin_lapsed sized).custody]
  have same : s.restartLine.listen.custody = s.custody := rfl
  have calls : s.custody.calls.length = 4 := sized.calls
  have outs : s.custody.outs.length = 4 := sized.outs
  have freed : s.custody.outs.map (Option.filter fun _ => !true) = List.replicate 4 none :=
    List.eq_replicate_iff.mpr ⟨by simp [outs], by simp⟩
  have closed : s.custody.calls.drop 4 = [] := List.drop_eq_nil_of_le calls.le
  simp only [same, freed, List.drop_length, List.append_nil, calls, closed]

theorem State.rejoin_records (sized : s.Sized) : s.rejoin.records = s.records.map (fun r =>
    { r with state := (r.lapsedBy (s.custody.outs.filterMap id)).state.uncheck }) := by
  have closed : s.callsAbandoned.records = (s.restartLine.listen.lapseAll (fun _ => true) .rejoin).records :=
    State.abandonCalls_keeps (·.records) (by simp) _
  rw [State.rejoin_eq, State.unreserved_records, closed, (State.rejoin_lapsed sized).records, List.map_map, lapsing_all]
  exact List.map_congr_left fun r _ => by simp

theorem State.rejoin_slot? (sized : s.Sized) (n : Nat) : s.rejoin.slot? n = (s.slot? n).map (fun old =>
    if .slot n ∈ (s.custody.calls.filterMap id).map (·.purpose) then .refused .abandoned else old) := by
  have same : s.rejoin.magazine = s.callsAbandoned.magazine := by rw [State.rejoin_eq, State.unreserved_magazine]
  have before : (s.restartLine.listen.lapseAll (fun _ => true) .rejoin).magazine = s.magazine :=
    State.lapseAll_keeps (·.magazine) (by simp) _ _
  rw [State.slot?_congr same, (State.rejoin_abandoned sized).slots, State.slot?_congr before]

theorem State.rejoin_notices (sized : s.Sized) (held : s.OffersHeld) : s.rejoin.notices =
    ((s.custody.calls.filterMap id).foldl State.postAbandoned
      (postLapses 3 (s.custody.outs.filterMap id) s)).notices := by
  have lapsed := (State.rejoin_lapsed sized).notices held
  rw [State.rejoin_eq, State.unreserved_notices, (State.rejoin_abandoned sized).notices]
  refine foldl_notices_congr (fun u v c notices now => ?_) (fun u c => u.post_now ..) ?_ ?_ _
  · exact State.post_notices_congr notices now _ _ _
  · rw [lapsed, lapsing_all]
    exact postLapses_notices_congr (s := s) (t := s.restartLine.listen) rfl rfl 3 _
  · rw [(State.rejoin_lapsed sized).now, postLapses_now]
    rfl

end

end Sys2Proof.Machine

namespace Sys2Proof.Proofs

open Sys2Proof.Machine

/-- Settles O17: JOIN and the refusals by their bodies on a free port; REJOIN in its stages, the line and the roster,
then the offers, then the calls, then the reservations, each of which leaves the blocks of the others alone. -/
theorem joinAndRejoin : Obligations.JoinAndRejoin := by
  unfold Obligations.JoinAndRejoin
  refine ⟨fun s free => ⟨fun configured => ?joins, fun before => ?joinUnconfigured, fun past joined => ?joinRefused⟩,
    fun s free sized online => ?rejoins, fun s free before => ?rejoinUnconfigured,
    fun s free past offline => ?rejoinRefused⟩
  case joins => exact hostCommand_ok free (joinBody_configured configured)
  case joinUnconfigured => exact hostCommand_error free (joinBody_unconfigured before)
  case joinRefused => exact hostCommand_error free (joinBody_joined past joined)
  case rejoinUnconfigured => exact hostCommand_error free (rejoinBody_unconfigured before)
  case rejoinRefused => exact hostCommand_error free (rejoinBody_offline past offline)
  case rejoins =>
    refine ⟨s.rejoin.answered .ok [], hostCommand_ok free (rejoinBody_online online), ?port,
      (State.answered_line ..).trans s.rejoin_line, (State.answered_roster ..).trans s.rejoin_roster,
      (State.answered_custody ..).trans (State.rejoin_custody sized), ?images, ?unchecked, ?lapsed, ?others, ?refused,
      ?slots, (State.answered_reservations ..).trans s.rejoin_reservations,
      (State.answered_bank ..).trans s.rejoin_bank, (State.answered_demand ..).trans s.rejoin_demand, ?notices,
      (State.answered_panels ..).trans s.rejoin_panels, (State.answered_head ..).trans s.rejoin_head,
      (State.answered_config ..).trans s.rejoin_config, (State.answered_now ..).trans s.rejoin_now⟩
    case port =>
      rw [State.answered_port, State.rejoin_port]
      rfl
    case images =>
      rw [State.answered_records, State.rejoin_records sized, List.map_map]
      rfl
    case unchecked =>
      rw [State.answered_records, State.rejoin_records sized]
      exact List.forall_mem_map.mpr fun r _ => RecordState.uncheck_check _
    case lapsed =>
      intro o mem r held tool c p state
      rw [State.answered_records, State.rejoin_records sized]
      refine List.mem_map.mpr ⟨r, held, ?_⟩
      rw [ToolRecord.lapsedBy_of_mem (List.mem_filterMap.mpr ⟨_, mem, rfl⟩) tool.symm, state]
      rfl
    case others =>
      intro r held other
      rw [State.answered_records, State.rejoin_records sized]
      refine List.mem_map.mpr ⟨r, held, ?_⟩
      rw [ToolRecord.lapsedBy_of_forall fun o mem => other o (by simpa using mem)]
    case refused =>
      intro c n m mem purpose slot
      have called : .slot n ∈ (s.custody.calls.filterMap id).map (·.purpose) :=
        List.mem_map.mpr ⟨c, List.mem_filterMap.mpr ⟨_, mem, rfl⟩, purpose⟩
      rw [State.answered_slot?, State.rejoin_slot? sized, slot, Option.map_some, if_pos called]
    case slots =>
      intro n other
      have uncalled : .slot n ∉ (s.custody.calls.filterMap id).map (·.purpose) := fun mem => by
        obtain ⟨c, mem, purpose⟩ := List.mem_map.mp mem
        exact other c (by simpa using mem) purpose
      rw [State.answered_slot?, State.rejoin_slot? sized]
      simp only [if_neg uncalled, Option.map_id']
    case notices =>
      intro records offers
      rw [State.answered_notices, State.rejoin_notices sized (.of_laws records offers)]
      rfl

end Sys2Proof.Proofs
end

section
/-! SUPPORT. The slots of the custody engine: which call or offer a tool has, which slot is the lowest free one, and the
node's readiness (R58, R59, R63). -/

namespace Sys2Proof.Machine

/-! ### The node -/

theorem State.online_eq_true {s : State} (h : s.port.nodeState = .online) : s.online = true := beq_iff_eq.mpr h

theorem State.online_eq_false {s : State} (h : s.port.nodeState ≠ .online) : s.online = false := by
  simp [State.online, h]

/-! ### The lowest free slot -/

theorem findIdx?_isNone_of_free {α : Type} {slots : List (Option α)} {i : Nat} (free : slots[i]? = some none)
    (lowest : ∀ j, j < i → slots[j]? ≠ some none) : slots.findIdx? Option.isNone = some i := by
  refine findIdx?_of_first free rfl fun x before => ?_
  obtain ⟨j, hj, rfl⟩ := List.mem_take_iff_getElem.mp before
  have busy := lowest j (by omega)
  rw [List.getElem?_eq_getElem (by omega), ne_eq, Option.some.injEq] at busy
  exact Option.isNone_eq_false_iff.mpr (Option.isSome_iff_ne_none.mpr busy)

theorem findIdx?_isNone_of_busy {α : Type} {slots : List (Option α)} (busy : ∀ x ∈ slots, x ≠ none) :
    slots.findIdx? Option.isNone = none :=
  List.findIdx?_eq_none_iff.mpr fun x mem =>
    Option.isNone_eq_false_iff.mpr (Option.isSome_iff_ne_none.mpr (busy x mem))

/-! ### The open call for a tool, and for a place -/

section
variable {s : State} {tool : ToolId}

theorem State.callFor_eq_none_iff : s.callFor tool = none ↔ ∀ c, some c ∈ s.custody.calls → c.tool ≠ tool := by
  unfold State.callFor
  rw [List.findIdx?_eq_none_iff]
  refine ⟨fun h c mem => by simpa using h _ mem, fun h x mem => ?_⟩
  cases x with
  | none => rfl
  | some c => simpa using h c mem

theorem State.callAt_eq_none_iff {why : Purpose} :
    s.callAt why = none ↔ ∀ c, some c ∈ s.custody.calls → c.purpose ≠ why := by
  unfold State.callAt
  rw [List.findIdx?_eq_none_iff]
  refine ⟨fun h c mem => by simpa using h _ mem, fun h x mem => ?_⟩
  cases x with
  | none => rfl
  | some c => simpa using h c mem

/-- The call found for a tool is open and calls that tool. -/
theorem State.call?_of_callFor {i : Nat} (h : s.callFor tool = some i) : ∃ c, s.call? i = some c ∧ c.tool = tool := by
  obtain ⟨hi, found, -⟩ := List.findIdx?_eq_some_iff_getElem.mp h
  unfold State.call?
  rw [List.getElem?_eq_getElem hi]
  split at found
  · next c slot => exact ⟨c, by rw [slot]; rfl, beq_iff_eq.mp found⟩
  · cases found

end

end Sys2Proof.Machine
end

section
/-! SUPPORT. O60: opening a call (R64, R3). -/

namespace Sys2Proof.Machine

section
variable {s : State} {tool : ToolId} {why : Purpose}

/-! ### The refusals in their order -/

theorem State.openCall_offline (offline : s.port.nodeState ≠ .online) : s.openCall tool why = .error .notOnline := by
  simp [State.openCall, State.online_eq_false offline]

theorem State.openCall_pending (online : s.port.nodeState = .online) (pending : s.callFor tool ≠ none) :
    s.openCall tool why = .error .callPending := by
  simp [State.openCall, State.online_eq_true online, Option.isSome_iff_ne_none.mpr pending]

theorem State.openCall_conflict (online : s.port.nodeState = .online) (single : s.callFor tool = none)
    (conflict : s.callAt why ≠ none) : s.openCall tool why = .error .placeConflict := by
  simp [State.openCall, State.online_eq_true online, single, Option.isSome_iff_ne_none.mpr conflict]

theorem State.openCall_noSlot (online : s.port.nodeState = .online) (single : s.callFor tool = none)
    (vacant : s.callAt why = none) (busy : s.custody.calls.findIdx? Option.isNone = none) :
    s.openCall tool why = .error .noCallSlot := by
  simp [State.openCall, State.online_eq_true online, single, vacant, busy]

theorem State.openCall_tableFull {i : Nat} (online : s.port.nodeState = .online) (single : s.callFor tool = none)
    (vacant : s.callAt why = none) (free : s.custody.calls.findIdx? Option.isNone = some i) (full : s.freeRows = 0) :
    s.openCall tool why = .error .tableFull := by
  simp [State.openCall, State.online_eq_true online, single, vacant, free, full]

/-- A call that no refusal meets opens, and its CALL is handed over (R64). -/
theorem State.openCall_opens {i : Nat} (online : s.port.nodeState = .online) (single : s.callFor tool = none)
    (vacant : s.callAt why = none) (free : s.custody.calls.findIdx? Option.isNone = some i) (room : s.freeRows ≠ 0) :
    s.openCall tool why = .ok (State.offerFrame { s with custody.calls := s.custody.calls.set i (some
        { tool := tool, purpose := why, tries := 1, deadline := after s.now Config.callWait, busyStation := none }) }
      (callFrame i tool why)) := by
  simp [State.openCall, State.online_eq_true online, single, vacant, free, room]

/-- A row is free while the records and the rows that the open calls reserve leave one of 96 (R2, R3). -/
theorem State.freeRows_eq_zero_iff :
    s.freeRows = 0 ↔ 96 ≤ s.records.length + s.custody.calls.countP Option.isSome := by
  unfold State.freeRows State.openCalls Config.tableRows
  omega

end

end Sys2Proof.Machine

namespace Sys2Proof.Proofs

open Sys2Proof.Machine

/-- Settles O60: the refusals are the branches of `openCall` in their order, the slot is the lowest free one. -/
theorem callsOpen : Obligations.CallsOpen := by
  unfold Obligations.CallsOpen
  refine fun s tool why => ⟨State.openCall_offline, fun online => ⟨fun pending => ?pending, fun single =>
    ⟨fun conflict => ?conflict, fun vacant => ⟨fun busy => ?busy, fun i free lowest => ⟨fun full => ?full,
      fun room => ?opens⟩⟩⟩⟩⟩
  case pending =>
    refine State.openCall_pending online fun none => ?_
    obtain ⟨c, mem, same⟩ := pending
    exact State.callFor_eq_none_iff.mp none c mem same
  case conflict =>
    refine State.openCall_conflict online (State.callFor_eq_none_iff.mpr single) fun none => ?_
    obtain ⟨c, mem, same⟩ := conflict
    exact State.callAt_eq_none_iff.mp none c mem same
  all_goals
    have single := State.callFor_eq_none_iff.mpr single
    have vacant := State.callAt_eq_none_iff.mpr vacant
  case busy => exact State.openCall_noSlot online single vacant (findIdx?_isNone_of_busy busy)
  case full =>
    exact State.openCall_tableFull online single vacant (findIdx?_isNone_of_free free lowest)
      (State.freeRows_eq_zero_iff.mpr full)
  case opens =>
    refine (State.openCall_opens online single vacant (findIdx?_isNone_of_free free lowest)
      (mt State.freeRows_eq_zero_iff.mp (Nat.not_le.mpr room))).trans ?_
    cases why <;> rfl

end Sys2Proof.Proofs
end

section
/-! SUPPORT. O56: the answers to a CALL (R61, R63, R69, R70). -/

namespace Sys2Proof.Machine

section
variable {s : State} {f : RxFrame} {n : Nat} {r : ToolRecord}

/-! ### Which CALL is answered (R63, R69) -/

theorem State.takeCall_offline (offline : s.port.nodeState ≠ .online) : s.takeCall f = s := by
  simp [State.takeCall, State.online_eq_false offline]

theorem State.takeCall_unheld (unheld : s.find (toolAt f.payload) = none) : s.takeCall f = s := by
  simp [State.takeCall, unheld]

theorem State.takeCall_doubtful (online : s.port.nodeState = .online) (held : s.find (toolAt f.payload) = some r)
    (doubtful : s.doubtful f.source.toNat = true) :
    s.takeCall f = s.here f.source.toNat r.image.toolId .peerDoubtful := by
  simp [State.takeCall, State.online_eq_true online, held, doubtful]

theorem State.takeCall_trusted (online : s.port.nodeState = .online) (held : s.find (toolAt f.payload) = some r)
    (trusted : s.doubtful f.source.toNat = false) : s.takeCall f = s.answerByState f.source.toNat r := by
  simp [State.takeCall, State.online_eq_true online, held, trusted]

/-! ### The answer by the record's state (R69) -/

theorem State.answerByState_placed
    (placed : r.state = .seated ∨ (∃ p, r.state = .stocked p) ∨ ∃ m, r.state = .loaded m) :
    s.answerByState n r = (s.here n r.image.toolId .inPlace).post .calledWhilePlaced r.image.toolId (num n) := by
  obtain state | ⟨p, state⟩ | ⟨m, state⟩ := placed <;> simp [State.answerByState, state]

theorem State.answerByState_measuring (state : r.state = .measuring) :
    s.answerByState n r = s.here n r.image.toolId .inUse := by
  simp [State.answerByState, state]

theorem State.answerByState_outbound {c : CustodyPart} {p : Prior} (state : r.state = .outbound c p) :
    s.answerByState n r = if c.counterpart = n then s else s.here n r.image.toolId .inTransit := by
  simp [State.answerByState, state]

theorem State.answerByState_inDoubt {c : CustodyPart} {p : Prior} {d : Option Millis}
    (state : r.state = .inDoubt c p d) : s.answerByState n r = s.here n r.image.toolId .inDoubt := by
  simp [State.answerByState, state]

theorem State.answerByState_offerable {prior : Prior}
    (state : r.state = .loose ∧ prior = .loose ∨ r.state = .missing ∧ prior = .missing) :
    s.answerByState n r = s.offerOrBusy n r prior := by
  obtain ⟨state, rfl⟩ | ⟨state, rfl⟩ := state <;> simp [State.answerByState, state]

/-! ### The offer (R70) -/

theorem State.offerOrBusy_busy {prior : Prior} (busy : s.custody.outs.findIdx? Option.isNone = none) :
    s.offerOrBusy n r prior = s.reply .here n (herePayload r.image.toolId noSlotCode) := by
  simp [State.offerOrBusy, busy]

theorem State.offerOrBusy_free {prior : Prior} {i : Nat} (free : s.custody.outs.findIdx? Option.isNone = some i) :
    s.offerOrBusy n r prior = s.beginOffer i n r prior := by
  simp [State.offerOrBusy, free]

/-- An offer begins: the slot, the next handoff number, the OUTBOUND record, RECORD_CHANGED, and then the OFFER. -/
theorem State.beginOffer_eq {tool : ToolId} (held : s.find tool = some r) (i : Nat) (prior : Prior) :
    s.beginOffer i n r prior = State.offerFrame (State.post { s with
        custody := { s.custody with
          outs := s.custody.outs.set i (some
            { tool := tool, caller := n, handoff := s.custody.handoff, tries := 1
              deadline := after s.now Config.offerWait })
          handoff := s.custody.handoff + 1 }
        records := s.records.map (fun q => if q.image.toolId = tool then { q with
          state := .outbound { counterpart := n, handoff := s.custody.handoff } prior } else q) }
        .recordChanged tool (parts (byte 7 ++ byte 0 ++ byte 0)))
      (newFrame .offer n (s.custody.handoff :: imageBytes r.image) (.offer (i + 1))) := by
  obtain rfl := State.find_toolId held
  refine congrArg (State.offerFrame · _) (State.postChanged_eq (r := { r with
    state := .outbound { counterpart := n, handoff := s.custody.handoff } prior }) ?_)
  exact State.find_setState (s := { s with custody := _ }) held _

end

end Sys2Proof.Machine

namespace Sys2Proof.Proofs

open Sys2Proof.Machine

/-- Settles O56: the caller's standing and the record's state pick the answer; a LOOSE or MISSING record is offered
where an outbound slot is free. -/
theorem callAnswers : Obligations.CallAnswers := by
  unfold Obligations.CallAnswers
  refine fun s f => ⟨State.takeCall_offline, State.takeCall_unheld, fun r online held =>
    ⟨fun doubtful => ?doubtful, fun trusted => ?trusted⟩⟩
  all_goals have same := State.find_toolId held
  case doubtful => rw [State.takeCall_doubtful online held doubtful, same]; rfl
  rw [State.takeCall_trusted online held trusted]
  refine ⟨fun placed => ?placed, fun state => ?measuring, fun c p state =>
    ⟨fun caller => ?again, fun other => ?transit⟩, fun c p d state => ?doubt, fun prior state => ⟨fun busy => ?busy, fun i free lowest => ?offers⟩⟩
  case placed => rw [State.answerByState_placed placed, same]; rfl
  case measuring => rw [State.answerByState_measuring state, same]; rfl
  case again => rw [State.answerByState_outbound state, if_pos caller]
  case transit => rw [State.answerByState_outbound state, if_neg other, same]; rfl
  case doubt => rw [State.answerByState_inDoubt state, same]; rfl
  case busy =>
    rw [State.answerByState_offerable state, State.offerOrBusy_busy (findIdx?_isNone_of_busy busy), same]
    rfl
  case offers =>
    rw [State.answerByState_offerable state, State.offerOrBusy_free (findIdx?_isNone_of_free free lowest),
      State.beginOffer_eq held]
    rfl

end Sys2Proof.Proofs
end

section
/-! SUPPORT. What a closing call leaves in the magazine and on the line (R62, R65). -/

namespace Sys2Proof.Machine

/-! ### The purpose place -/

theorem State.leavePlace_taken (s : State) (why : Purpose) : s.leavePlace why .taken = s := by
  cases why <;> rfl

theorem State.leavePlace_elsewhere {why : Purpose} (elsewhere : ∀ m, why ≠ .slot m) (s : State) (o : CallOutcome) :
    s.leavePlace why o = s := by
  cases why with
  | slot m => exact absurd rfl (elsewhere m)
  | _ => rfl

/-- The slots after a call has left its purpose place: only a purpose slot of the magazine changes. -/
theorem State.slot?_leavePlace (s : State) (why : Purpose) {o : CallOutcome} {left : MagSlot}
    (leaves : o.slotAfter = some left) (m : Nat) :
    (s.leavePlace why o).slot? m = if why = .slot m ∧ s.slot? m ≠ none then some left else s.slot? m := by
  cases why with
  | slot k =>
    have set : s.leavePlace (.slot k) o = s.setSlot k left := by simp [State.leavePlace, leaves]
    rw [set, State.slot?_setSlot_map]
    cases s.slot? m with
    | none => simp
    | some old => by_cases same : k = m <;> simp [same]
  | _ => simp [State.leavePlace]

theorem State.leavePlace_magazine_congr {s t : State} (magazine : t.magazine = s.magazine) (why : Purpose)
    (o : CallOutcome) : (t.leavePlace why o).magazine = (s.leavePlace why o).magazine := by
  unfold State.leavePlace
  split
  · unfold State.setSlot
    split
    · exact magazine
    · simp only [magazine]
  · exact magazine

/-! ### The closing call -/

section
variable {s : State} {i : Nat} {c : CallSlot}

theorem State.closeCall_magazine (call : s.call? i = some c) (o : CallOutcome) (n : Nat) :
    (s.closeCall i o n).magazine = (s.leavePlace c.purpose o).magazine := by
  unfold State.closeCall
  rw [call]
  refine (State.post_magazine ..).trans (State.leavePlace_magazine_congr ?_ _ _)
  rfl

theorem State.closeCall_line (call : s.call? i = some c) (o : CallOutcome) (n : Nat) :
    (s.closeCall i o n).line = (s.removeFrames (.call (i + 1))).line := by
  unfold State.closeCall
  rw [call]
  refine (State.post_line ..).trans ((State.leavePlace_line ..).trans ?_)
  rfl

theorem State.slot?_closeCall (call : s.call? i = some c) {o : CallOutcome} {left : MagSlot}
    (leaves : o.slotAfter = some left) (n m : Nat) : (s.closeCall i o n).slot? m =
      if c.purpose = .slot m ∧ s.slot? m ≠ none then some left else s.slot? m :=
  (State.slot?_congr (State.closeCall_magazine call o n) m).trans (State.slot?_leavePlace s c.purpose leaves m)

end

end Sys2Proof.Machine
end

section
/-! SUPPORT. O59: the waits for calls, offers and checks (R62, R66, R71, R80). -/

namespace Sys2Proof.Machine

section
variable {s : State} {i : Nat}

/-- The deadline of an open call has passed: a new try, or NO_ANSWER. -/
theorem execCallWaitExpiry_due {c : CallSlot} (call : s.call? i = some c) (due : reached s.now c.deadline = true) :
    execCallWaitExpiry (i + 1) s = if c.tries < 3 then .next (s.retryCall i c)
      else .next (s.closeCall i .noAnswer (c.busyStation.getD 0)) := by
  simp [execCallWaitExpiry, call, due, Config.triesMax]

/-- The deadline of a busy outbound slot has passed: a new try, or the offer lapses. -/
theorem execOfferWaitExpiry_due {o : OutSlot} (slot : s.out? i = some o) (due : reached s.now o.deadline = true) :
    execOfferWaitExpiry (i + 1) s =
      if o.tries < 3 then .next (s.retryOffer i o) else .next (s.lapse i .retries) := by
  simp [execOfferWaitExpiry, slot, due, Config.triesMax]

theorem execCheckWaitExpiry_due {tool : ToolId} {r : ToolRecord} {c : CustodyPart} {p : Prior} {d : Millis}
    (held : s.find tool = some r) (state : r.state = .inDoubt c p (some d)) (due : reached s.now d = true) :
    execCheckWaitExpiry tool s = .next ((s.setState tool (.inDoubt c p none)).removeFrames (.check tool)) := by
  simp [execCheckWaitExpiry, held, state, due]

/-- An outbound slot at its next try (R71). -/
def State.offerAgain (s : State) (i : Nat) (o : OutSlot) : State :=
  { s with custody := { s.custody with outs := s.custody.outs.set i (some
    { o with tries := o.tries + 1, deadline := after s.now Config.offerWait }) } }

/-- A new try of an offer whose record is held: a frame still queued stands for it. -/
theorem State.retryOffer_held {o : OutSlot} {r : ToolRecord} (held : s.find o.tool = some r) :
    s.retryOffer i o = if s.line.queuedFor (.offer (i + 1)) then s.offerAgain i o
      else (s.offerAgain i o).offerFrame (offerFrameOf i o r.image) := by
  unfold State.retryOffer State.offerAgain
  refine if_congr Iff.rfl rfl ?_
  split
  · next q found =>
    cases held.symm.trans found
    rfl
  · next gone => cases held.symm.trans gone

end

end Sys2Proof.Machine

namespace Sys2Proof.Proofs

open Sys2Proof.Machine

/-- Settles O59: a due wait at tries 1 or 2 is `retryCall` or `retryOffer`; at tries 3 the call closes and the offer
lapses. -/
theorem waitExpiries : Obligations.WaitExpiries := by
  unfold Obligations.WaitExpiries
  refine fun s i => ⟨fun c call due => ⟨fun more => ?callAgain, fun last => ?callEnds⟩,
    fun o r slot due held => ⟨fun more => ?offerAgain, fun last c p state => ?offerLapses⟩,
    fun tool r c p d held state due => execCheckWaitExpiry_due held state due⟩
  case callAgain =>
    exact ((execCallWaitExpiry_due call due).trans (if_pos more)).trans rfl
  case callEnds =>
    refine ⟨_, (execCallWaitExpiry_due call due).trans (if_neg (Nat.not_lt.mpr last)),
      State.closeCall_custody call .., State.closeCall_records .., State.closeCall_bank ..,
      State.closeCall_notices call .., fun m purpose there => ?_, fun elsewhere => ?_⟩
    · exact (State.slot?_closeCall call rfl _ m).trans (if_pos ⟨purpose, there⟩)
    · rw [State.closeCall_magazine call, State.leavePlace_elsewhere elsewhere]
  case offerAgain =>
    exact ((execOfferWaitExpiry_due slot due).trans (if_pos more)).trans
      (congrArg Host.Outcome.next (State.retryOffer_held held))
  case offerLapses =>
    have lapsed : r.state.lapsed = .inDoubt c p none := by rw [state]; rfl
    refine ⟨_, (execOfferWaitExpiry_due slot due).trans (if_neg (Nat.not_lt.mpr last)),
      State.lapse_custody slot _, ?_, ?_, State.lapse_notices slot held lapsed _, State.lapse_bank ..,
      State.lapse_magazine ..⟩
    · rw [State.lapse_records slot]
      exact List.mem_map.mpr ⟨r, State.find_mem held, by rw [if_pos (State.find_toolId held), lapsed]⟩
    · rw [State.lapse_records slot, List.map_map]
      refine List.map_congr_left fun q _ => ?_
      rw [Function.comp_apply]
      split <;> rfl

end Sys2Proof.Proofs
end

section
/-! SUPPORT. O58: the replies ACCEPT, DECLINE, HERE, CHECK and CHECK_REPLY, and the BLOCKED closing of a call (R65, R67,
R76, R77, R81, R82). -/

namespace Sys2Proof.Machine

/-! ### Records that return (R77, R82) -/

theorem Prior.placeCode_toState (p : Prior) : p.toState.placeCode = (0, 0) := by cases p <;> rfl

section
variable {s : State} {tool : ToolId} {n : Nat} {h : Byte} {r : ToolRecord}

/-- A held record returns to its prior state, which has no place. -/
theorem State.returnToPrior_held (held : s.find tool = some r) (p : Prior) : s.returnToPrior tool p =
    ((s.setState tool p.toState).removeFrames (.check tool)).post .recordChanged tool
      (parts (byte p.toState.code ++ byte 0 ++ byte 0)) := by
  have changed : ((s.setState tool p.toState).removeFrames (.check tool)).find tool
      = some { r with state := p.toState } := (State.find_congr rfl tool).trans (State.find_setState held _)
  refine (State.postChanged_eq changed).trans ?_
  rw [p.placeCode_toState]

/-- A DECLINE of a record that has a prior state. -/
theorem State.declined_held {p : Prior} (held : s.find tool = some r) (prior : r.state.prior = some p) (reason : Nat) :
    s.declined n tool reason =
      let t := (s.returnToPrior tool p).post .offerDeclined tool (parts (byte n ++ byte reason))
      if reason = 3 then t.postDuplicate tool n .decline else t := by
  simp only [State.declined, held, Option.bind_some, prior]
  rfl

/-! ### ACCEPT and DECLINE (R76, R77) -/

theorem State.applyAccept_outbound {i : Nat} (slot : s.outFor tool n h = some i) :
    s.applyAccept n tool h = (s.freeOut i).depart tool n := by simp [State.applyAccept, slot]

theorem State.applyAccept_inDoubt (free : s.outFor tool n h = none) (doubt : s.doubtful? tool n h = true) :
    s.applyAccept n tool h = s.depart tool n := by simp [State.applyAccept, free, doubt]

theorem State.applyAccept_late (free : s.outFor tool n h = none) (other : s.doubtful? tool n h = false) :
    s.applyAccept n tool h = s.post .lateAccept tool (parts (byte n ++ [h])) := by
  simp [State.applyAccept, free, other]

theorem State.applyDecline_outbound {i : Nat} (slot : s.outFor tool n h = some i) (reason : Nat) :
    s.applyDecline n tool h reason = (s.freeOut i).declined n tool reason := by simp [State.applyDecline, slot]

theorem State.applyDecline_inDoubt (free : s.outFor tool n h = none) (doubt : s.doubtful? tool n h = true)
    (reason : Nat) : s.applyDecline n tool h reason = s.declined n tool reason := by
  simp [State.applyDecline, free, doubt]

theorem State.applyDecline_unmatched (free : s.outFor tool n h = none) (other : s.doubtful? tool n h = false)
    (reason : Nat) : s.applyDecline n tool h reason = s := by simp [State.applyDecline, free, other]

/-! ### Doubt and its checks (R82) -/

section
variable {c : CustodyPart} {p : Prior} {d : Option Millis}

theorem State.doubtful?_inDoubt (held : s.find tool = some r) (state : r.state = .inDoubt c p d)
    (peer : c.counterpart = n) (handoff : c.handoff = h) : s.doubtful? tool n h = true := by
  simp [State.doubtful?, held, state, RecordState.doubtWith, peer, handoff]

theorem State.checkedPrior_outstanding {due : Millis} (held : s.find tool = some r)
    (state : r.state = .inDoubt c p (some due)) (peer : c.counterpart = n) (handoff : c.handoff = h) :
    s.checkedPrior tool n h = some p := by
  simp [State.checkedPrior, held, state, peer, handoff]

theorem State.checkedPrior_idle (held : s.find tool = some r) (state : r.state = .inDoubt c p none) :
    s.checkedPrior tool n h = none := by
  simp [State.checkedPrior, held, state]

end

/-- A check is outstanding only at a record that is IN_DOUBT with the custody part asked for. -/
theorem State.checkedPrior_unmatched (other : s.doubtful? tool n h = false) : s.checkedPrior tool n h = none := by
  cases held : s.find tool with
  | none => simp [State.checkedPrior, held]
  | some r =>
    cases state : r.state with
    | inDoubt c p d =>
      have apart : ¬ (c.counterpart = n ∧ c.handoff = h) := by
        simpa [State.doubtful?, held, RecordState.doubtWith, state] using other
      cases d with
      | none => exact State.checkedPrior_idle held state
      | some d => simp [State.checkedPrior, held, state, apart]
    | _ => simp [State.checkedPrior, held, state]

theorem State.applyCheckReply_none (none : s.checkedPrior tool n h = none) (answer : Nat) :
    s.applyCheckReply n tool h answer = s := by simp [State.applyCheckReply, none]

theorem State.applyCheckReply_unknown {p : Prior} (prior : s.checkedPrior tool n h = some p) :
    s.applyCheckReply n tool h 3 =
      (s.returnToPrior tool p).post .doubtSettled tool (parts (byte n ++ byte 3)) := by
  simp [State.applyCheckReply, prior, CheckAnswer.code]

theorem State.applyCheckReply_departs {p : Prior} {answer : Nat} (prior : s.checkedPrior tool n h = some p)
    (known : answer ≠ 3) : s.applyCheckReply n tool h answer =
      (s.depart tool n).post .doubtSettled tool (parts (byte n ++ byte answer)) := by
  simp [State.applyCheckReply, prior, CheckAnswer.code, known]

/-! ### HERE (R67) -/

theorem State.applyHere_blocks {i reason : Nat} {why : BlockReason} (call : s.callFor tool = some i)
    (blocks : BlockReason.ofHere reason = some why) :
    s.applyHere n tool reason = s.closeCall i (.blocked why) n := by simp [State.applyHere, call, blocks]

theorem State.applyHere_noSlot {i : Nat} (call : s.callFor tool = some i) :
    s.applyHere n tool 6 = s.noteBusy i n := by simp [State.applyHere, call, BlockReason.ofHere]

theorem State.call?_noteBusy {i : Nat} {c : CallSlot} (call : s.call? i = some c) :
    (s.noteBusy i n).call? i = some { c with busyStation := some n } := by
  have slot : s.custody.calls[i]? = some (some c) := Option.join_eq_some_iff.mp call
  simp [State.call?, State.noteBusy, slot]

theorem State.applyHere_uncalled (uncalled : s.callFor tool = none) (reason : Nat) : s.applyHere n tool reason =
    if (s.find tool).isSome then s.postDuplicate tool n .here else s := by simp [State.applyHere, uncalled]

end

/-! ### CHECK (R81) -/

theorem State.takeCheck_offline {s : State} {f : RxFrame} (offline : s.port.nodeState ≠ .online) :
    s.takeCheck f = s := by simp [State.takeCheck, State.online_eq_false offline]

theorem State.takeCheck_online {s : State} {f : RxFrame} (online : s.port.nodeState = .online) : s.takeCheck f =
    s.reply .checkReply f.source.toNat (answerPayload (toolAt f.payload) (byteAt f.payload 4)
      (s.checkAnswer f.source.toNat (toolAt f.payload) (byteAt f.payload 4)).code) := by
  simp [State.takeCheck, State.online_eq_true online]

theorem State.checkAnswer_code (s : State) (n : Nat) (tool : ToolId) (h : Byte) : (s.checkAnswer n tool h).code =
    if s.find tool ≠ none then 1
    else if { source := n, handoff := h, tool := tool } ∈ s.custody.accepted then 2 else 3 := by
  simp only [State.checkAnswer, Option.isSome_iff_ne_none, List.contains_iff_mem]
  split
  · rfl
  · split <;> rfl

/-! ### Removed frames (R35) -/

/-- Of the waiting frames those of the owner leave. -/
theorem State.removeFrames_waiting (s : State) (o : FrameOwner) :
    (s.removeFrames o).line.txQueue.filter (fun g => !g.sending) =
      s.line.txQueue.filter (fun g => !g.sending && g.owner != o) := by
  unfold State.removeFrames
  simp only [List.filter_filterMap]
  rw [← List.filterMap_eq_filter]
  refine List.filterMap_congr fun g _ => ?_
  by_cases own : g.owner = o <;> cases sending : g.sending <;> simp [own, sending, Option.guard]

/-- A frame in transmission stays until its attempt ends. -/
theorem State.removeFrames_length (s : State) (o : FrameOwner) : (s.removeFrames o).line.txQueue.length =
    s.line.txQueue.length - s.line.txQueue.countP (fun g => !g.sending && g.owner == o) := by
  unfold State.removeFrames
  induction s.line.txQueue with
  | nil => rfl
  | cons g q ih =>
    have le := q.countP_le_length (p := fun g => !g.sending && g.owner == o)
    rw [List.filterMap_cons, List.countP_cons]
    by_cases own : g.owner = o <;> cases sending : g.sending <;> simp [own, ih] <;> omega

/-! ### The BLOCKED closing (R65) -/

/-- A closing call leaves the rest of the state alone. -/
theorem State.closeCall_frame {s : State} {i : Nat} {c : CallSlot} (call : s.call? i = some c) (o : CallOutcome)
    (n : Nat) : s.closeCall i o n = { s with
      custody := (s.closeCall i o n).custody, notices := (s.closeCall i o n).notices
      magazine := (s.closeCall i o n).magazine
      line := { s.line with txQueue := (s.closeCall i o n).line.txQueue } } := by
  -- Structure eta: the closing state, field by field.
  show ({ s.closeCall i o n with pending := (s.closeCall i o n).pending } : State) = _
  simp only [State.closeCall_pending, State.closeCall_now, State.closeCall_delay, State.closeCall_port,
    State.closeCall_config, State.closeCall_records, State.closeCall_roster, State.closeCall_bank,
    State.closeCall_panels, State.closeCall_head, State.closeCall_demand, State.closeCall_reservations,
    State.closeCall_line call]
  rfl

end Sys2Proof.Machine

namespace Sys2Proof.Proofs

open Sys2Proof.Machine

/-- Settles O58: a reply that matches a busy outbound slot or a doubt moves the record on, any other is told or passed
over; a BLOCKED closing changes the call's slot, its frames, its purpose slot and the notices. -/
theorem repliesSettle : Obligations.RepliesSettle := by
  unfold Obligations.RepliesSettle
  refine fun s n tool h => ⟨fun i slot => ⟨State.applyAccept_outbound slot,
      fun r c p reason held state => ?declined⟩,
    fun free => ⟨fun r c p d held state peer handoff => ?doubt, fun other => ⟨State.applyAccept_late free other,
      fun reason => ⟨State.applyDecline_unmatched free other reason,
        State.applyCheckReply_none (State.checkedPrior_unmatched other) reason⟩⟩⟩,
    fun i call => ⟨fun reason why => State.applyHere_blocks call, _, State.applyHere_noSlot call, rfl, rfl, rfl,
      fun c => State.call?_noteBusy⟩,
    fun i c why call => ?blocked, fun reason uncalled => ⟨fun unheld => ?nothing, fun held => ?duplicate⟩,
    fun f source id handoff => ⟨State.takeCheck_offline, fun online => ?check⟩⟩
  case declined =>
    have prior : r.state.prior = some p := by rw [state]; rfl
    have held' : (s.freeOut i).find tool = some r := held
    rw [State.applyDecline_outbound slot, State.declined_held held' prior, State.returnToPrior_held held']
    rfl
  case doubt =>
    have doubt := State.doubtful?_inDoubt held state peer handoff
    have prior : r.state.prior = some p := by rw [state]; rfl
    have returns := State.returnToPrior_held held p
    refine ⟨State.applyAccept_inDoubt free doubt, fun reason => ?_, fun answer =>
      ⟨fun idle => ?_, fun checked unknown => ?_, fun checked known => ?_⟩⟩
    · rw [State.applyDecline_inDoubt free doubt, State.declined_held held prior, returns]
      rfl
    · exact State.applyCheckReply_none (State.checkedPrior_idle held (state.trans (by rw [idle]))) answer
    all_goals
      obtain ⟨due, rfl⟩ := Option.ne_none_iff_exists'.mp checked
      have outstanding := State.checkedPrior_outstanding held state peer handoff
    · subst unknown
      rw [State.applyCheckReply_unknown outstanding, returns]
      rfl
    · exact State.applyCheckReply_departs outstanding known
  case blocked =>
    refine ⟨State.closeCall_custody call .., ?_, fun m => State.slot?_closeCall call rfl n m, ?_, ?_,
      State.closeCall_frame call ..⟩
    · refine (State.closeCall_notices call ..).trans ?_
      cases why <;> rfl
    · rw [State.closeCall_line call]
      exact s.removeFrames_waiting _
    · rw [State.closeCall_line call]
      exact s.removeFrames_length _
  case nothing =>
    rw [State.applyHere_uncalled uncalled, unheld]
    rfl
  case duplicate =>
    rw [State.applyHere_uncalled uncalled, if_pos (Option.isSome_iff_ne_none.mpr held)]
    rfl
  case check =>
    subst source id handoff
    rw [State.takeCheck_online online, State.checkAnswer_code]
    rfl

end Sys2Proof.Proofs
end

section
/-! SUPPORT. What an offered frame leaves of the line, and which frames a queue still holds after an attempt starts, a
removal and a replacement (R28, R29, R33, R35). -/

namespace Sys2Proof.Machine

/-! ### Offers look at the line and the node state -/

section
variable {s t : State}

theorem State.startAttempt_line_congr (line : t.line = s.line) (port : t.port = s.port) :
    t.startAttempt.line = s.startAttempt.line := by
  unfold State.startAttempt State.online
  rw [line, port]
  split
  · rfl
  · exact line

theorem State.offerFrame_line_congr (line : t.line = s.line) (port : t.port = s.port) (f : TxFrame) :
    (t.offerFrame f).line = (s.offerFrame f).line := by
  unfold State.offerFrame State.online
  rw [line, port]
  split
  · exact line
  split
  · refine State.startAttempt_line_congr ?_ ?_ <;> rfl
  split
  · split
    · refine State.startAttempt_line_congr ?_ ?_ <;> simp
    · simpa using line
  · simpa using line

theorem State.removeFrames_line_congr (line : t.line = s.line) (o : FrameOwner) :
    (t.removeFrames o).line = (s.removeFrames o).line := by
  unfold State.removeFrames
  rw [line]

theorem State.replaceFrame_line_congr (line : t.line = s.line) (o : FrameOwner) (payload : List Byte) (again : Bool) :
    (t.replaceFrame o payload again).line = (s.replaceFrame o payload again).line := by
  unfold State.replaceFrame
  rw [line]

end

/-! ### A frame that stays queued -/

section
variable {s : State} {f g : TxFrame}

/-- A queue with room takes the frame without a notice. -/
theorem State.offerFrame_notices_of_room (online : s.port.nodeState = .online)
    (room : s.line.txQueue.length < Config.txMax) : (s.offerFrame f).notices = s.notices := by
  rw [State.offerFrame_room online room, State.startAttempt_notices]

/-- The start of an attempt fixes a head and drops no frame. -/
theorem State.startAttempt_keeps (mem : g ∈ s.line.txQueue) :
    g ∈ s.startAttempt.line.txQueue ∨ { g with sending := true } ∈ s.startAttempt.line.txQueue := by
  unfold State.startAttempt
  split
  · show g ∈ sendHead s.line.txQueue ∨ { g with sending := true } ∈ sendHead s.line.txQueue
    cases queue : s.line.txQueue with
    | nil => simp [queue] at mem
    | cons head rest =>
      obtain rfl | later := List.mem_cons.mp (queue ▸ mem)
      · exact .inr List.mem_cons_self
      · exact .inl (List.mem_cons_of_mem _ later)
  · exact .inl mem

/-- A frame with this content and owner stands in the transmit queue, waiting or in transmission. -/
def State.Queues (s : State) (f : TxFrame) : Prop :=
  ∃ g ∈ s.line.txQueue, g.kind = f.kind ∧ g.destination = f.destination ∧ g.payload = f.payload
    ∧ g.owner = f.owner

theorem State.queues_offerFrame (online : s.port.nodeState = .online) (room : s.line.txQueue.length < Config.txMax) :
    (s.offerFrame f).Queues f := by
  rw [State.offerFrame_room online room]
  have joined : f ∈ insertFrame s.line.txQueue f := (insertFrame_perm _ f).mem_iff.mpr List.mem_cons_self
  obtain mem | mem := State.startAttempt_keeps (s := { s with line.txQueue := insertFrame s.line.txQueue f }) joined
  · exact ⟨f, mem, rfl, rfl, rfl, rfl⟩
  · exact ⟨_, mem, rfl, rfl, rfl, rfl⟩

/-- The frames of other owners survive a removal (R35). -/
theorem State.Queues.removeFrames {o : FrameOwner} (h : s.Queues f) (other : f.owner ≠ o) :
    (s.removeFrames o).Queues f := by
  obtain ⟨g, mem, kind, destination, payload, owner⟩ := h
  have stays : g.owner ≠ o := owner ▸ other
  exact ⟨g, List.mem_filterMap.mpr ⟨g, mem, if_neg stays⟩, kind, destination, payload, owner⟩

/-- The frames of other owners keep their payload at a replacement (R35). -/
theorem State.Queues.replaceFrame {o : FrameOwner} {payload : List Byte} {again : Bool} (h : s.Queues f)
    (other : f.owner ≠ o) : (s.replaceFrame o payload again).Queues f := by
  obtain ⟨g, mem, kind, destination, same, owner⟩ := h
  have stays : g.owner ≠ o := owner ▸ other
  exact ⟨g, List.mem_map.mpr ⟨g, mem, if_neg stays⟩, kind, destination, same, owner⟩

theorem State.Queues.congr {t : State} (h : s.Queues f) (line : t.line = s.line) : t.Queues f := by
  unfold State.Queues
  rwa [line]

end

/-! ### The pocket table after a marking pass (R169) -/

/-- A marking pass changes nothing of a pocket but its mark. -/
theorem State.pocket?_markingPass {s : State} {p : Nat} {k : Pocket} (entry : s.pocket? p = some k) :
    ∃ m, s.markingPass.pocket? p = some { k with reservedFor := m } := by
  have pos := State.pocket?_pos entry
  have plain := congrArg (·[p - 1]?) s.markingPass_plainPockets
  simp only [State.pocket?, pos, if_false] at entry ⊢
  simp only [State.plainPockets_eq, List.getElem?_map, entry, Option.map_some, Option.map_eq_some_iff] at plain
  obtain ⟨k', entry', same⟩ := plain
  refine ⟨k'.reservedFor, entry'.trans (congrArg some ?_)⟩
  simp only [Pocket.plain, Pocket.mk.injEq] at same
  obtain ⟨presence, occupancy, lock, fault, -⟩ := same
  rw [← presence, ← occupancy, ← lock, ← fault]

end Sys2Proof.Machine
end

section
/-! SUPPORT. O57: the decision on an OFFER (R7, R60, R63, R73 to R75, R165). -/

namespace Sys2Proof.Machine

/-! ### The image of an OFFER (R7) -/

/-- An image with a block keeps it, the verdict agreed. -/
theorem RawImage.lineIntake_block {raw : RawImage} {b : RawBlock} (block : raw.block = some b) :
    raw.lineIntake = withBlock raw.base false b.toMeasured := by
  unfold RawImage.lineIntake
  rw [block]

theorem RawImage.lineIntake_bare {raw : RawImage} (bare : raw.block = none) :
    raw.lineIntake = { raw.base with measured := none } := by
  unfold RawImage.lineIntake
  rw [bare]

theorem State.takeOffer_offline {s : State} {f : RxFrame} (offline : s.port.nodeState ≠ .online) :
    s.takeOffer f = s := by simp [State.takeOffer, State.online_eq_false offline]

theorem State.takeOffer_online {s : State} {f : RxFrame} (online : s.port.nodeState = .online) : s.takeOffer f =
    s.decideOffer f.source.toNat (byteAt f.payload 0) (parseImage (f.payload.drop 1)).lineIntake := by
  simp [State.takeOffer, State.online_eq_true online]

/-! ### The decision (R73, R75) -/

theorem Purpose.rejects_eq_false {why : Purpose} {image : Image} (fit : ∀ m, why = .slot m → image.fit = true) :
    why.rejects image = false := by
  cases why with
  | slot m => simp [Purpose.rejects, fit m rfl]
  | _ => rfl

section
variable {s : State} {n : Nat} {h : Byte} {image : Image}

theorem State.decideOffer_again (again : { source := n, handoff := h, tool := image.toolId } ∈ s.custody.accepted) :
    s.decideOffer n h image = s.reply .accept n (handoffPayload image.toolId h) := by
  simp [State.decideOffer, again]

section
variable (fresh : { source := n, handoff := h, tool := image.toolId } ∉ s.custody.accepted)
include fresh

theorem State.decideOffer_doubtful (doubtful : s.doubtful n = true) (uncalled : s.callFor image.toolId = none) :
    s.decideOffer n h image = s.decline n image.toolId h .peerDoubtful := by
  simp [State.decideOffer, fresh, doubtful, uncalled]

theorem State.decideOffer_doubtful_called {i : Nat} (doubtful : s.doubtful n = true)
    (called : s.callFor image.toolId = some i) : s.decideOffer n h image =
      (s.decline n image.toolId h .peerDoubtful).closeCall i (.blocked .peerDoubtful) n := by
  simp [State.decideOffer, fresh, doubtful, called]

theorem State.decideOffer_uncalled (trusted : s.doubtful n = false) (uncalled : s.callFor image.toolId = none) :
    s.decideOffer n h image =
      if (s.find image.toolId).isSome then (s.decline n image.toolId h .alreadyHeld).postDuplicate image.toolId n .offer
      else s.decline n image.toolId h .notCalled := by
  simp [State.decideOffer, fresh, trusted, uncalled]

theorem State.decideOffer_called {i : Nat} {c : CallSlot} (trusted : s.doubtful n = false)
    (called : s.callFor image.toolId = some i) (call : s.call? i = some c) : s.decideOffer n h image =
      if c.purpose.rejects image then
        (s.decline n image.toolId h .notFit).closeCall i (.blocked .notFit) n
      else s.takeRecord i c n h image := by
  simp [State.decideOffer, fresh, trusted, called, call]

end

end

/-! ### The place that the record fills (R9, R74) -/

section
variable (s : State) (why : Purpose) (tool : ToolId)

@[simp] theorem State.fillPlace_now : (s.fillPlace why tool).now = s.now := by cases why <;> simp [State.fillPlace]
@[simp] theorem State.fillPlace_port : (s.fillPlace why tool).port = s.port := by cases why <;> simp [State.fillPlace]
@[simp] theorem State.fillPlace_notices : (s.fillPlace why tool).notices = s.notices := by
  cases why <;> simp [State.fillPlace]
@[simp] theorem State.fillPlace_records : (s.fillPlace why tool).records = s.records := by
  cases why <;> simp [State.fillPlace]
@[simp] theorem State.fillPlace_line : (s.fillPlace why tool).line = s.line := by cases why <;> simp [State.fillPlace]
@[simp] theorem State.fillPlace_roster : (s.fillPlace why tool).roster = s.roster := by
  cases why <;> simp [State.fillPlace]
@[simp] theorem State.fillPlace_custody : (s.fillPlace why tool).custody = s.custody := by
  cases why <;> simp [State.fillPlace]
@[simp] theorem State.fillPlace_panels : (s.fillPlace why tool).panels = s.panels := by
  cases why <;> simp [State.fillPlace]
@[simp] theorem State.fillPlace_head : (s.fillPlace why tool).head = s.head := by cases why <;> simp [State.fillPlace]
@[simp] theorem State.fillPlace_demand : (s.fillPlace why tool).demand = s.demand := by
  cases why <;> simp [State.fillPlace]

/-- A place is filled whatever records stand in the table. -/
theorem State.fillPlace_addRecord (r : ToolRecord) :
    (s.addRecord r).fillPlace why tool = (s.fillPlace why tool).addRecord r := by
  cases why with
  | pocket p =>
    show (s.addRecord r).setPocket p _ = (s.setPocket p _).addRecord r
    unfold State.setPocket
    split <;> rfl
  | slot m =>
    show (s.addRecord r).setSlot m _ = (s.setSlot m _).addRecord r
    unfold State.setSlot
    split <;> rfl
  | head => rfl

end

/-! ### The arrival up to the close of the call (R74) -/

/-- The record, its place and its triple stand, before anything is told. -/
def State.recordPlaced (s : State) (c : CallSlot) (n : Nat) (h : Byte) (image : Image) : State :=
  ((s.addRecord { image := image, state := c.purpose.arrival }).fillPlace c.purpose image.toolId).appendAccepted
    { source := n, handoff := h, tool := image.toolId }

/-- ACCEPT is handed over, RECORD_ARRIVED posted, and the call closed TAKEN. -/
def State.callTaken (s : State) (i : Nat) (c : CallSlot) (n : Nat) (h : Byte) (image : Image) : State :=
  (((s.recordPlaced c n h image).reply .accept n (handoffPayload image.toolId h)).post .recordArrived image.toolId
    (num n)).closeCall i .taken n

theorem State.takeRecord_eq (s : State) (i : Nat) (c : CallSlot) (n : Nat) (h : Byte) (image : Image) :
    s.takeRecord i c n h image = (s.callTaken i c n h image).arrivalEffects c.purpose image := rfl

section
variable {s : State} {i : Nat} {c : CallSlot} {n : Nat} {h : Byte} {image : Image}

theorem State.recordPlaced_custody : (s.recordPlaced c n h image).custody = { s.custody with
    accepted := (if s.custody.accepted.length < 16 then s.custody.accepted else s.custody.accepted.drop 1)
      ++ [{ source := n, handoff := h, tool := image.toolId }] } := by
  simp only [State.recordPlaced, State.appendAccepted, State.fillPlace_custody, State.addRecord_custody]
  rfl

@[simp] theorem State.recordPlaced_line : (s.recordPlaced c n h image).line = s.line :=
  (State.fillPlace_line ..).trans (State.addRecord_line ..)

@[simp] theorem State.recordPlaced_port : (s.recordPlaced c n h image).port = s.port :=
  (State.fillPlace_port ..).trans (State.addRecord_port ..)

@[simp] theorem State.recordPlaced_notices : (s.recordPlaced c n h image).notices = s.notices :=
  (State.fillPlace_notices ..).trans (State.addRecord_notices ..)

@[simp] theorem State.recordPlaced_now : (s.recordPlaced c n h image).now = s.now :=
  (State.fillPlace_now ..).trans (State.addRecord_now ..)

theorem State.recordPlaced_bank : (s.recordPlaced c n h image).bank = (s.fillPlace c.purpose image.toolId).bank := by
  rw [State.recordPlaced, State.fillPlace_addRecord]
  rfl

theorem State.recordPlaced_magazine :
    (s.recordPlaced c n h image).magazine = (s.fillPlace c.purpose image.toolId).magazine := by
  rw [State.recordPlaced, State.fillPlace_addRecord]
  rfl

/-- The call is still open when it comes to its close. -/
theorem State.call?_recordPlaced (call : s.call? i = some c) :
    (((s.recordPlaced c n h image).reply .accept n (handoffPayload image.toolId h)).post .recordArrived image.toolId
      (num n)).call? i = some c := by
  rw [← call]
  simp [State.call?, State.reply, State.recordPlaced_custody]

theorem State.callTaken_records : (s.callTaken i c n h image).records =
    s.records ++ [{ image := image, state := c.purpose.arrival }] := by
  simp [State.callTaken, State.reply, State.recordPlaced, State.appendAccepted]
  rfl

theorem State.callTaken_custody (call : s.call? i = some c) : (s.callTaken i c n h image).custody = { s.custody with
    calls := s.custody.calls.set i none
    accepted := (if s.custody.accepted.length < 16 then s.custody.accepted else s.custody.accepted.drop 1)
      ++ [{ source := n, handoff := h, tool := image.toolId }] } := by
  refine (State.closeCall_custody (State.call?_recordPlaced call) _ _).trans ?_
  simp [State.reply, State.recordPlaced_custody]

theorem State.callTaken_bank : (s.callTaken i c n h image).bank = (s.fillPlace c.purpose image.toolId).bank := by
  simp only [State.callTaken, State.reply, State.closeCall_bank, State.post_bank, State.offerFrame_bank,
    State.recordPlaced_bank]

theorem State.callTaken_magazine (call : s.call? i = some c) :
    (s.callTaken i c n h image).magazine = (s.fillPlace c.purpose image.toolId).magazine := by
  refine (State.closeCall_magazine (State.call?_recordPlaced call) _ _).trans ?_
  simp only [State.leavePlace_taken, State.reply, State.post_magazine, State.offerFrame_magazine,
    State.recordPlaced_magazine]

@[simp] theorem State.callTaken_now : (s.callTaken i c n h image).now = s.now := by
  simp [State.callTaken, State.reply]

@[simp] theorem State.callTaken_roster : (s.callTaken i c n h image).roster = s.roster := by
  simp [State.callTaken, State.reply, State.recordPlaced, State.appendAccepted]

@[simp] theorem State.callTaken_panels : (s.callTaken i c n h image).panels = s.panels := by
  simp [State.callTaken, State.reply, State.recordPlaced, State.appendAccepted]

@[simp] theorem State.callTaken_head : (s.callTaken i c n h image).head = s.head := by
  simp [State.callTaken, State.reply, State.recordPlaced, State.appendAccepted]

@[simp] theorem State.callTaken_demand : (s.callTaken i c n h image).demand = s.demand := by
  simp [State.callTaken, State.reply, State.recordPlaced, State.appendAccepted]

theorem State.callTaken_line (call : s.call? i = some c) : (s.callTaken i c n h image).line =
    ((s.reply .accept n (handoffPayload image.toolId h)).removeFrames (.call (i + 1))).line := by
  refine (State.closeCall_line (State.call?_recordPlaced call) _ _).trans (State.removeFrames_line_congr ?_ _)
  exact (State.post_line ..).trans (State.offerFrame_line_congr State.recordPlaced_line State.recordPlaced_port _)

/-- RECORD_ARRIVED precedes CALL_DONE, where the ACCEPT finds room. -/
theorem State.callTaken_notices (call : s.call? i = some c) (tool : c.tool = image.toolId)
    (online : s.port.nodeState = .online) (room : s.line.txQueue.length < Config.txMax) :
    (s.callTaken i c n h image).notices = ((s.post .recordArrived image.toolId (num n)).post .callDone image.toolId
      (parts (byte 1 ++ byte n ++ byte 0))).notices := by
  refine (State.closeCall_notices (State.call?_recordPlaced call) _ _).trans ?_
  rw [tool]
  refine State.post_notices_congr (State.post_notices_congr ?_ ?_ _ _ _) (by simp [State.reply]) _ _ _
  case refine_2 => simp [State.reply]
  refine (State.offerFrame_notices_of_room ?_ ?_).trans State.recordPlaced_notices
  · rwa [State.recordPlaced_port]
  · rwa [State.recordPlaced_line]

theorem State.callTaken_queues (call : s.call? i = some c) (online : s.port.nodeState = .online)
    (room : s.line.txQueue.length < Config.txMax) :
    (s.callTaken i c n h image).Queues (newFrame .accept n (handoffPayload image.toolId h) .nobody) :=
  ((State.queues_offerFrame online room).removeFrames (by simp [newFrame])).congr (State.callTaken_line call)

end

/-! ### What the arrival is handed on to (R74, R165) -/

theorem State.lowerDemand_none {s : State} {cls : Nat} (tool : ToolId) (none : ∀ e ∈ s.demand.list, e.cls ≠ cls) :
    s.lowerDemand tool cls = s := by
  have none : s.demand.list.find? (·.cls == cls) = .none :=
    List.find?_eq_none.mpr fun e mem => by simpa using none e mem
  simp [State.lowerDemand, none]

theorem State.lowerDemand_entry {s : State} {cls : Nat} {e : DemandEntry} (tool : ToolId)
    (entry : s.demand.list.find? (·.cls == cls) = some e) : s.lowerDemand tool cls =
      (State.refreshDemand { s with demand.list := lowerEntries cls s.demand.list } false).post .demandMet tool
        (parts (beBytes 2 cls ++ byte (e.count - 1))) := by
  simp [State.lowerDemand, entry]

theorem State.post_frame (s : State) (k : NoticeKind) (o a : BitVec 32) :
    s.post k o a = { s with notices := (s.post k o a).notices } := by
  unfold State.post
  split <;> rfl

theorem State.lowerDemand_frame (s : State) (tool : ToolId) (cls : Nat) : s.lowerDemand tool cls = { s with
    line := (s.lowerDemand tool cls).line, demand := (s.lowerDemand tool cls).demand
    notices := (s.lowerDemand tool cls).notices } := by
  unfold State.lowerDemand
  split
  · rfl
  · refine (State.post_frame ..).trans ?_
    simp only [State.post_line, State.post_demand]
    rfl

section
variable {s : State} {why : Purpose} {image : Image}

/-- What follows an arrival changes marks, the demand list with its DEMAND, and the notices only. -/
theorem State.arrivalEffects_frame : s.arrivalEffects why image = { s with
    bank := (s.arrivalEffects why image).bank, line := (s.arrivalEffects why image).line
    demand := (s.arrivalEffects why image).demand, notices := (s.arrivalEffects why image).notices } := by
  cases why with
  | slot m =>
    have bank : (s.lowerDemand image.toolId image.cls).bank = s.bank :=
      (congrArg State.bank (s.lowerDemand_frame image.toolId image.cls) :)
    refine (s.lowerDemand_frame _ _).trans ?_
    simp only [State.arrivalEffects, bank]
  | _ => rfl

/-- Unless it came into a slot, of a class on the demand list, an arrival leaves demand and line alone. -/
theorem State.arrivalEffects_undemanded (none : ∀ m, why = .slot m → ∀ e ∈ s.demand.list, e.cls ≠ image.cls) :
    (s.arrivalEffects why image).line = s.line ∧ (s.arrivalEffects why image).demand = s.demand
      ∧ (s.arrivalEffects why image).notices = s.notices := by
  cases why with
  | slot m =>
    have same := State.lowerDemand_none image.toolId (none m rfl)
    exact ⟨congrArg State.line same, congrArg State.demand same, congrArg State.notices same⟩
  | _ => exact ⟨rfl, rfl, rfl⟩

/-- An arrival in a slot lowers its class in the demand list, refreshes a queued DEMAND and posts DEMAND_MET (R165). -/
theorem State.arrivalEffects_demanded {m : Nat} {e : DemandEntry} (slot : why = .slot m)
    (entry : s.demand.list.find? (·.cls == image.cls) = some e) :
    let lowered := lowerEntries image.cls s.demand.list
    (s.arrivalEffects why image).line = (s.replaceFrame .demandRun (demandPayload s.demand.hold lowered) false).line
      ∧ (s.arrivalEffects why image).demand = { s.demand with list := lowered }
      ∧ (s.arrivalEffects why image).notices = (s.post .demandMet image.toolId
          (parts (beBytes 2 image.cls ++ byte (e.count - 1)))).notices := by
  subst slot
  have lowers := State.lowerDemand_entry image.toolId entry
  refine ⟨(congrArg State.line lowers).trans (State.post_line ..),
    (congrArg State.demand lowers).trans (State.post_demand ..), (congrArg State.notices lowers).trans ?_⟩
  refine State.post_notices_congr ?_ ?_ _ _ _ <;> rfl

/-- A frame of no demand run stays queued. -/
theorem State.arrivalEffects_queues {f : TxFrame} (queued : s.Queues f) (other : f.owner ≠ .demandRun) :
    (s.arrivalEffects why image).Queues f := by
  cases why with
  | slot m =>
    show (s.lowerDemand image.toolId image.cls).Queues f
    unfold State.lowerDemand
    split
    · exact queued
    · next e _ =>
      refine State.Queues.congr (State.Queues.replaceFrame (s := { s with demand := _ }) (queued.congr rfl) other)
        (State.post_line ..)
  | _ => exact queued.congr rfl

end

end Sys2Proof.Machine

namespace Sys2Proof.Proofs

open Sys2Proof.Machine

/-- Settles O57: `decideOffer` by its branches; a record that is taken stands before the ACCEPT is handed over, then the
call closes, and the marks or the demand list follow. -/
theorem offerDecisions : Obligations.OfferDecisions := by
  unfold Obligations.OfferDecisions
  refine ⟨fun s f => ⟨State.takeOffer_offline, State.takeOffer_online⟩,
    fun raw => ⟨RawImage.lineIntake_bare, fun b block => ?intake⟩,
    fun s n h image => ⟨State.decideOffer_again, fun fresh => ⟨fun doubtful =>
      ⟨State.decideOffer_doubtful fresh doubtful, fun i => State.decideOffer_doubtful_called fresh doubtful⟩,
      fun trusted => ⟨fun uncalled unheld => ?notCalled, fun uncalled held => ?alreadyHeld,
        fun i c called call => ⟨fun m purpose unfit => ?notFit, fun fit => ?taken⟩⟩⟩⟩⟩
  case intake =>
    refine ⟨agreedVerdict raw.base false b.toMeasured, ?_, fun code high => ?_, fun code low far => ?_,
      fun code low near => ?_, fun code => ?_, fun code => ?_, fun code => ?_⟩
    · rw [RawImage.lineIntake_block block]
      rfl
    all_goals have arrived : b.toMeasured.verdict = Verdict.ofCode b.verdictCode := rfl
    all_goals rw [code] at arrived
    · exact agreedVerdict_runout arrived high
    · exact (agreedVerdict_band arrived low).trans (if_pos far)
    · exact (agreedVerdict_band arrived low).trans (if_neg near)
    all_goals exact (agreedVerdict_kept (by rw [arrived]; decide) _).trans arrived
  case notCalled =>
    rw [State.decideOffer_uncalled fresh trusted uncalled, unheld]
    rfl
  case alreadyHeld =>
    rw [State.decideOffer_uncalled fresh trusted uncalled, if_pos (Option.isSome_iff_ne_none.mpr held)]
    rfl
  case notFit =>
    have rejects : c.purpose.rejects image = true := by simp [purpose, Purpose.rejects, unfit]
    exact (State.decideOffer_called fresh trusted called call).trans (if_pos rejects)
  case taken =>
    have takes : s.decideOffer n h image = (s.callTaken i c n h image).arrivalEffects c.purpose image := by
      have accepts : ¬ c.purpose.rejects image = true := Bool.eq_false_iff.mp (Purpose.rejects_eq_false fit)
      exact (State.decideOffer_called fresh trusted called call).trans
        ((if_neg accepts).trans (State.takeRecord_eq ..))
    have tool : c.tool = image.toolId := by
      obtain ⟨c', call', tool⟩ := State.call?_of_callFor called
      cases call.symm.trans call'
      exact tool
    have frame := State.arrivalEffects_frame (s := s.callTaken i c n h image) (why := c.purpose) (image := image)
    have custody := (congrArg State.custody frame).trans (State.callTaken_custody call)
    have magazine := (congrArg State.magazine frame).trans (State.callTaken_magazine call)
    dsimp only
    rw [takes]
    refine ⟨?records, (congrArg Custody.accepted custody :), (congrArg Custody.calls custody :),
      (congrArg Custody.outs custody :), (congrArg Custody.handoff custody :), fun p k purpose entry => ?pocket,
      fun m purpose there => ?slot, fun purpose => ⟨?headBank, ?headMagazine⟩,
      (congrArg State.roster frame).trans State.callTaken_roster, (congrArg State.head frame).trans State.callTaken_head,
      (congrArg State.panels frame).trans State.callTaken_panels,
      fun undemanded => ?undemanded, fun m e purpose entry => ?demanded, fun online room => ?queued,
      fun online room undemanded => ?told⟩
    case records =>
      refine (congrArg State.records frame).trans (State.callTaken_records.trans ?_)
      cases c.purpose <;> rfl
    case pocket =>
      have filled : (s.callTaken i c n h image).pocket? p = some { k with occupancy := .held image.toolId } := by
        refine (State.pocket?_congr (congrArg Bank.pockets State.callTaken_bank) p).trans ?_
        rw [purpose]
        exact State.pocket?_setPocket entry _
      rw [purpose]
      exact State.pocket?_markingPass filled
    case slot =>
      refine (State.slot?_congr magazine m).trans ?_
      rw [purpose]
      exact State.slot?_setSlot there
    case headBank =>
      rw [purpose]
      refine State.callTaken_bank.trans ?_
      rw [purpose]
      rfl
    case headMagazine =>
      rw [purpose] at magazine ⊢
      exact magazine
    case undemanded =>
      obtain ⟨line, demand, -⟩ := State.arrivalEffects_undemanded (s := s.callTaken i c n h image) (why := c.purpose)
        (image := image) (by rwa [State.callTaken_demand])
      exact ⟨line.trans (State.callTaken_line call), demand.trans State.callTaken_demand⟩
    case demanded =>
      rw [← State.callTaken_demand (s := s) (i := i) (c := c) (n := n) (h := h) (image := image)] at entry
      obtain ⟨line, demand, notices⟩ := State.arrivalEffects_demanded purpose entry
      rw [State.callTaken_demand] at line demand
      refine ⟨line.trans (State.replaceFrame_line_congr (State.callTaken_line call) _ _ _), demand,
        fun online room => notices.trans ?_⟩
      refine State.post_notices_congr (State.callTaken_notices call tool online room) ?_ _ _ _
      simp
    case queued =>
      obtain ⟨g, mem, kind, destination, payload, -⟩ :=
        State.arrivalEffects_queues (why := c.purpose) (image := image) (State.callTaken_queues call online room)
          (by simp [newFrame])
      exact ⟨g, mem, kind, destination, payload⟩
    case told =>
      obtain ⟨-, -, notices⟩ := State.arrivalEffects_undemanded (s := s.callTaken i c n h image) (why := c.purpose)
        (image := image) (by rwa [State.callTaken_demand])
      exact notices.trans (State.callTaken_notices call tool online room)

end Sys2Proof.Proofs
end

section
/-! SUPPORT. What the lock laws of O7 see of a state, and the operations of all blocks that leave it alone. -/

namespace Sys2Proof.Machine

/-! ### The view -/

/-- What the lock laws speak of: each pocket's lock and fault, the drive queue, the pull-in slots, the supply, and the
operations of the two panels. -/
structure LockView where
  pockets : List (Lock × LockFault)
  queue : List Nat
  pullIns : List (Option PullIn)
  supply : Supply
  operationA : Option Operation
  operationB : Option Operation

/-- The view of a bank and the panels. -/
def lockViewOf (b : Bank) (p : Panels) : LockView where
  pockets := b.pockets.map (fun k => (k.lock, k.fault))
  queue := b.queue
  pullIns := b.pullIns
  supply := b.supply
  operationA := p.a.operation
  operationB := p.b.operation

/-- The view of a state. -/
def State.lockView (s : State) : LockView := lockViewOf s.bank s.panels

@[simp] theorem lockView_mk {pending now delay port notices config records line roster custody bank panels head magazine
    demand reservations} : (State.mk pending now delay port notices config records line roster custody bank panels head
      magazine demand reservations).lockView = lockViewOf bank panels := rfl

@[simp] theorem lockViewOf_bank_panels (s : State) : lockViewOf s.bank s.panels = s.lockView := rfl

theorem State.lockView_congr {s t : State} (bank : t.bank = s.bank) (panels : t.panels = s.panels) :
    t.lockView = s.lockView := by
  simp only [State.lockView, bank, panels]

/-- A change of a pocket's entry that keeps its lock and its fault. -/
@[simp] theorem State.setPocket_lockView (s : State) (p : Nat) {f : Pocket → Pocket}
    (keeps : ∀ k, (f k).lock = k.lock ∧ (f k).fault = k.fault) : (s.setPocket p f).lockView = s.lockView := by
  have same : ∀ k, ((f k).lock, (f k).fault) = (k.lock, k.fault) := fun k => by rw [(keeps k).1, (keeps k).2]
  unfold State.setPocket
  split
  · rfl
  · simp only [State.lockView, lockViewOf, map_modify_of_keeps (g := fun k : Pocket => (k.lock, k.fault)) same]

/-- A change of a panel that keeps its operation. -/
@[simp] theorem State.setPanel_lockView (s : State) (i : PanelId) {f : Panel → Panel}
    (keeps : ∀ p, (f p).operation = p.operation) : (s.setPanel i f).lockView = s.lockView := by
  cases i <;> simp [State.setPanel, State.lockView, lockViewOf, keeps]

/-- Changes of the pockets' marks. -/
theorem State.lockView_of_plain {s t : State} (plain : t.plainPockets = s.plainPockets)
    (queue : t.bank.queue = s.bank.queue)
    (pullIns : t.bank.pullIns = s.bank.pullIns) (supply : t.bank.supply = s.bank.supply)
    (panels : t.panels = s.panels) :
    t.lockView = s.lockView := by
  have locks : t.bank.pockets.map (fun k => (k.lock, k.fault)) = s.bank.pockets.map (fun k => (k.lock, k.fault)) := by
    simpa only [State.plainPockets, List.map_map, Function.comp_def] using
      congrArg (List.map fun k : Pocket => (k.lock, k.fault)) plain
  simp only [State.lockView, lockViewOf, locks, queue, pullIns, supply, panels]

section
variable (s : State)

/-! ### Operations of all blocks -/

@[simp] theorem State.markingPass_lockView : s.markingPass.lockView = s.lockView :=
  State.lockView_of_plain s.markingPass_plainPockets rfl rfl rfl rfl
@[simp] theorem State.deleteRows_lockView (gone : Reservation → Bool) : (s.deleteRows gone).lockView = s.lockView :=
  State.lockView_of_plain (s.deleteRows_plainPockets gone) rfl rfl rfl rfl
@[simp] theorem State.post_lockView (k : NoticeKind) (o a : BitVec 32) : (s.post k o a).lockView = s.lockView :=
  State.lockView_congr (by simp) (by simp)
@[simp] theorem State.postChanged_lockView (tool : ToolId) : (s.postChanged tool).lockView = s.lockView :=
  State.lockView_congr (by simp) (by simp)
@[simp] theorem State.postDiscarded_lockView (f : TxFrame) (c : DiscardCause) :
    (s.postDiscarded f c).lockView = s.lockView := State.lockView_congr (by simp) (by simp)
@[simp] theorem State.postReferenceDone_lockView (o : RunOutcome) : (s.postReferenceDone o).lockView = s.lockView :=
  State.lockView_congr (by simp) (by simp)
@[simp] theorem State.postMeasureDone_lockView (tool : ToolId) (o : RunOutcome) (n : Nat) :
    (s.postMeasureDone tool o n).lockView = s.lockView := State.lockView_congr (by simp) (by simp)
@[simp] theorem State.updateRecord_lockView (tool : ToolId) (f : ToolRecord → ToolRecord) :
    (s.updateRecord tool f).lockView = s.lockView := rfl
@[simp] theorem State.setState_lockView (tool : ToolId) (st : RecordState) :
    (s.setState tool st).lockView = s.lockView := rfl
@[simp] theorem State.setImage_lockView (tool : ToolId) (f : Image → Image) :
    (s.setImage tool f).lockView = s.lockView := rfl
@[simp] theorem State.setSlot_lockView (n : Nat) (m : MagSlot) : (s.setSlot n m).lockView = s.lockView :=
  State.lockView_congr (by simp) (by simp)
@[simp] theorem State.setPeer_lockView (n : Nat) (f : Peer → Peer) : (s.setPeer n f).lockView = s.lockView := by
  unfold State.setPeer; split <;> rfl
@[simp] theorem State.unmark_lockView (p : Nat) : (s.unmark p).lockView = s.lockView := by simp [State.unmark]
@[simp] theorem State.startAttempt_lockView : s.startAttempt.lockView = s.lockView :=
  State.lockView_congr (by simp) (by simp)
@[simp] theorem State.offerFrame_lockView (f : TxFrame) : (s.offerFrame f).lockView = s.lockView :=
  State.lockView_congr (by simp) (by simp)
@[simp] theorem State.refreshDemand_lockView (again : Bool) : (s.refreshDemand again).lockView = s.lockView := rfl
@[simp] theorem State.offerPresence_lockView : s.offerPresence.lockView = s.lockView :=
  State.lockView_congr (by simp) (by simp)
@[simp] theorem State.offerDemand_lockView : s.offerDemand.lockView = s.lockView :=
  State.lockView_congr (by simp) (by simp)
@[simp] theorem State.closeCall_lockView (i : Nat) (o : CallOutcome) (n : Nat) :
    (s.closeCall i o n).lockView = s.lockView :=
  State.lockView_congr (by simp) (by simp)
@[simp] theorem State.withdrawCall_lockView (why : Purpose) : (s.withdrawCall why).lockView = s.lockView :=
  State.lockView_congr (by simp) (by simp)
@[simp] theorem State.freeOut_lockView (i : Nat) : (s.freeOut i).lockView = s.lockView := rfl
@[simp] theorem State.lapse_lockView (i : Nat) (c : DoubtCause) : (s.lapse i c).lockView = s.lockView :=
  State.lockView_congr (by simp) (by simp)
@[simp] theorem State.depart_lockView (tool : ToolId) (n : Nat) : (s.depart tool n).lockView = s.lockView :=
  State.lockView_congr (by simp) (by simp)
@[simp] theorem State.returnToPrior_lockView (tool : ToolId) (p : Prior) :
    (s.returnToPrior tool p).lockView = s.lockView := State.lockView_congr (by simp) (by simp)
@[simp] theorem State.reseat_lockView (tool : ToolId) : (s.reseat tool).lockView = s.lockView :=
  State.lockView_congr (by simp) (by simp)
@[simp] theorem State.endRun_lockView (o : RunOutcome) : (s.endRun o).lockView = s.lockView :=
  State.lockView_congr (by simp) (by simp)
@[simp] theorem State.idleRun_lockView : s.idleRun.lockView = s.lockView := rfl
@[simp] theorem State.enterListenOnly_lockView : s.enterListenOnly.lockView = s.lockView := rfl
@[simp] theorem State.stock_lockView (tool : ToolId) (p : Nat) : (s.stock tool p).lockView = s.lockView := by
  simp [State.stock]
@[simp] theorem State.unstock_lockView (tool : ToolId) (p : Nat) (st : RecordState) :
    (s.unstock tool p st).lockView = s.lockView := by simp [State.unstock]
@[simp] theorem State.lapseAll_lockView (test : OutSlot → Bool) (c : DoubtCause) :
    (s.lapseAll test c).lockView = s.lockView :=
  State.lapseAll_keeps State.lockView (fun u i => u.lapse_lockView i c) s test

/-! ### Roster and reservations -/

@[simp] theorem State.hear_lockView (n : Nat) (a : Option Announced) : (s.hear n a).lockView = s.lockView := by
  unfold State.hear
  split
  · rfl
  · dsimp only
    split <;> simp

@[simp] theorem State.strike_lockView (n kind : Nat) : (s.strike n kind).lockView = s.lockView := by
  unfold State.strike
  split
  · rfl
  · dsimp only
    split <;> simp

@[simp] theorem State.rosterTakes_lockView (f : RxFrame) (k : FrameKind) (ok : Bool) :
    (s.rosterTakes f k ok).lockView = s.lockView := by
  unfold State.rosterTakes State.clean
  cases ok <;> simp

@[simp] theorem postEnded_lockView (cause : EndCause) (rows : List Reservation) :
    (postEnded cause rows s).lockView = s.lockView := foldl_keeps _ (fun _ _ => by simp) _ _

@[simp] theorem State.goAbsent_lockView (n : Nat) (p : Peer) : (s.goAbsent n p).lockView = s.lockView := by
  simp [State.goAbsent, State.dropReservationsOf]

@[simp] theorem State.startCheck_lockView (n : Nat) (r : ToolRecord) : (s.startCheck n r).lockView = s.lockView := by
  unfold State.startCheck
  split <;> simp

@[simp] theorem State.presenceReport_lockView (n : Nat) : (s.presenceReport n).lockView = s.lockView := by
  unfold State.presenceReport
  split
  · exact foldl_keeps _ (fun u r => u.startCheck_lockView n r) _ _
  · rfl

@[simp] theorem State.postFate_lockView (n : Nat) (e : DemandEntry × EntryFate) :
    (s.postFate n e).lockView = s.lockView := by
  unfold State.postFate
  split <;> simp

@[simp] theorem State.takeDemand_lockView (f : RxFrame) : (s.takeDemand f).lockView = s.lockView := by
  unfold State.takeDemand State.applyDemand
  dsimp only
  split
  · rfl
  · refine (foldl_keeps State.lockView (fun u e => u.postFate_lockView _ e) _ _).trans ?_
    rw [postEnded_lockView, markingPass_lockView]
    exact s.deleteRows_lockView _

@[simp] theorem State.serveReservation_lockView (station cls : Nat) :
    (s.serveReservation station cls).lockView = s.lockView := by
  unfold State.serveReservation
  split
  · rfl
  · dsimp only
    split <;> simp

/-! ### Custody -/

@[simp] theorem State.reply_lockView (k : FrameKind) (n : Nat) (payload : List Byte) :
    (s.reply k n payload).lockView = s.lockView := s.offerFrame_lockView _

@[simp] theorem State.postDuplicate_lockView (tool : ToolId) (n : Nat) (k : FrameKind) :
    (s.postDuplicate tool n k).lockView = s.lockView := s.post_lockView _ _ _

@[simp] theorem State.here_lockView (n : Nat) (tool : ToolId) (why : BlockReason) :
    (s.here n tool why).lockView = s.lockView := s.reply_lockView _ _ _

@[simp] theorem State.decline_lockView (n : Nat) (tool : ToolId) (h : Byte) (why : DeclineReason) :
    (s.decline n tool h why).lockView = s.lockView := s.reply_lockView _ _ _

@[simp] theorem State.offerOrBusy_lockView (n : Nat) (r : ToolRecord) (p : Prior) :
    (s.offerOrBusy n r p).lockView = s.lockView := by
  unfold State.offerOrBusy
  split
  · simp
  · simp [State.beginOffer]

@[simp] theorem State.answerByState_lockView (n : Nat) (r : ToolRecord) :
    (s.answerByState n r).lockView = s.lockView := by
  unfold State.answerByState
  cases r.state with
  | outbound c p => dsimp only; split <;> simp
  | _ => simp

@[simp] theorem State.takeCall_lockView (f : RxFrame) : (s.takeCall f).lockView = s.lockView := by
  unfold State.takeCall
  dsimp only
  split
  · rfl
  split
  · rfl
  · split <;> simp

@[simp] theorem State.fillPlace_lockView (why : Purpose) (tool : ToolId) :
    (s.fillPlace why tool).lockView = s.lockView := by
  cases why <;> simp [State.fillPlace]

@[simp] theorem State.arrivalEffects_lockView (why : Purpose) (i : Image) :
    (s.arrivalEffects why i).lockView = s.lockView := by
  unfold State.arrivalEffects State.lowerDemand
  split
  · simp
  · split <;> simp
  · rfl

@[simp] theorem State.takeRecord_lockView (i : Nat) (c : CallSlot) (n : Nat) (h : Byte) (image : Image) :
    (s.takeRecord i c n h image).lockView = s.lockView := by
  simp only [State.takeRecord, arrivalEffects_lockView, closeCall_lockView, post_lockView, reply_lockView]
  exact (s.addRecord _).fillPlace_lockView _ _

@[simp] theorem State.takeOffer_lockView (f : RxFrame) : (s.takeOffer f).lockView = s.lockView := by
  unfold State.takeOffer State.decideOffer
  dsimp only
  split
  · rfl
  split
  · simp
  split
  · split <;> simp
  split
  · split
    · rfl
    · split <;> simp
  · split <;> simp

@[simp] theorem State.takeAccept_lockView (f : RxFrame) : (s.takeAccept f).lockView = s.lockView := by
  unfold State.takeAccept State.applyAccept
  split
  · simp
  · split <;> simp

@[simp] theorem State.declined_lockView (n : Nat) (tool : ToolId) (reason : Nat) :
    (s.declined n tool reason).lockView = s.lockView := by
  unfold State.declined
  cases (s.find tool).bind (·.state.prior) <;> dsimp only <;> split <;> simp

@[simp] theorem State.takeDecline_lockView (f : RxFrame) : (s.takeDecline f).lockView = s.lockView := by
  unfold State.takeDecline State.applyDecline
  split
  · simp
  · split <;> simp

@[simp] theorem State.takeHere_lockView (f : RxFrame) : (s.takeHere f).lockView = s.lockView := by
  unfold State.takeHere State.applyHere State.noteBusy
  split
  · split <;> simp
  · split <;> simp

@[simp] theorem State.takeCheck_lockView (f : RxFrame) : (s.takeCheck f).lockView = s.lockView := by
  unfold State.takeCheck
  dsimp only
  split <;> simp

@[simp] theorem State.takeCheckReply_lockView (f : RxFrame) : (s.takeCheckReply f).lockView = s.lockView := by
  unfold State.takeCheckReply State.applyCheckReply
  split
  · rfl
  · dsimp only
    split <;> simp

@[simp] theorem State.retryCall_lockView (i : Nat) (c : CallSlot) : (s.retryCall i c).lockView = s.lockView := by
  unfold State.retryCall
  dsimp only
  split <;> simp

@[simp] theorem State.retryOffer_lockView (i : Nat) (o : OutSlot) : (s.retryOffer i o).lockView = s.lockView := by
  unfold State.retryOffer
  dsimp only
  split
  · simp
  · split <;> simp

theorem State.openCall_lockView {s t : State} {tool : ToolId} {why : Purpose} (h : s.openCall tool why = .ok t) :
    t.lockView = s.lockView := by
  unfold State.openCall at h
  split at h
  · cases h
  split at h
  · cases h
  split at h
  · cases h
  split at h
  · cases h
  split at h
  · cases h
  · cases h
    simp

/-! ### Panels -/

@[simp] theorem State.closeWindow_lockView (i : PanelId) (c : CloseCause) :
    (s.closeWindow i c).lockView = s.lockView := by
  unfold State.closeWindow State.postClosed
  split <;> simp

@[simp] theorem State.openWindow_lockView (i : PanelId) (e : CodeEntry) (n : Nat) :
    (s.openWindow i e n).lockView = s.lockView := by simp [State.openWindow]

@[simp] theorem State.mismatch_lockView (i : PanelId) : (s.mismatch i).lockView = s.lockView := by
  unfold State.mismatch
  dsimp only
  split <;> simp

/-! ### The line and the demand sequencer -/

@[simp] theorem State.cyclePoint_lockView : s.cyclePoint.lockView = s.lockView := by
  unfold State.cyclePoint
  split <;> simp

@[simp] theorem State.stopCycles_lockView : s.stopCycles.lockView = s.lockView := by simp [State.stopCycles]

@[simp] theorem State.notQueued_lockView (f : TxFrame) : (s.notQueued f).lockView = s.lockView := by
  unfold State.notQueued
  split
  · split
    · split <;> simp
    · split <;> simp
    · rfl
  · rfl

@[simp] theorem State.abortAttempt_lockView (f : TxFrame) : (s.abortAttempt f).lockView = s.lockView := by
  unfold State.abortAttempt
  split
  · simp
  · split <;> simp

@[simp] theorem State.reportSent_lockView (f : TxFrame) : (s.reportSent f).lockView = s.lockView := by
  unfold State.reportSent State.demandSent
  split
  · split
    · rfl
    · dsimp only
      split <;> simp
  · rfl

@[simp] theorem State.takeValid_lockView (f : WireFrame) : (s.takeValid f).lockView = s.lockView := by
  unfold State.takeValid State.duplicateStation State.queueReceived
  split
  · rfl
  split
  · split <;> simp
  split
  · rfl
  · split <;> simp

/-! ### Slots, records, the head -/

@[simp] theorem State.loadHere_lockView (n : Nat) (tool : ToolId) (i : Image) :
    (s.loadHere n tool i).lockView = s.lockView := by
  unfold State.loadHere
  split <;> simp

@[simp] theorem State.unloadSlot_lockView (n : Nat) (m : MagSlot) : (s.unloadSlot n m).lockView = s.lockView := by
  unfold State.unloadSlot
  cases m <;> simp

@[simp] theorem State.postIf_lockView (c : Bool) (k : NoticeKind) (o a : BitVec 32) :
    (s.postIf c k o a).lockView = s.lockView := by
  unfold State.postIf
  split <;> simp

@[simp] theorem State.charge_lockView (tool : ToolId) (n : Nat) (i : Image) (seconds : Nat) :
    (s.charge tool n i seconds).lockView = s.lockView := by
  simp only [State.charge, State.postCharge, postIf_lockView]
  split <;> simp

@[simp] theorem State.loseFitness_lockView (r : ToolRecord) : (s.loseFitness r).lockView = s.lockView := by
  unfold State.loseFitness
  split <;> simp

@[simp] theorem State.vacate_lockView (r : ToolRecord) : (s.vacate r).lockView = s.lockView := by
  unfold State.vacate
  split <;> simp

@[simp] theorem State.arrive_lockView (r : ToolRecord) (n : Nat) : (s.arrive r n).lockView = s.lockView := by
  simp [State.arrive, State.addRecord]

@[simp] theorem State.putAt_lockView (i : Image) (place : Place) : (s.putAt i place).lockView = s.lockView := by
  cases place <;> simp [State.putAt]

@[simp] theorem State.restoreAt_lockView (i : Image) (st : RecordState) (place : Place) :
    (s.restoreAt i st place).lockView = s.lockView := by
  unfold State.restoreAt
  split <;> simp

@[simp] theorem State.displaceRun_lockView (place : Place) : (s.displaceRun place).lockView = s.lockView := by
  unfold State.displaceRun
  split
  · split <;> simp
  · rfl

@[simp] theorem State.takeSample_lockView (r : Run) : (s.takeSample r).lockView = s.lockView := by
  unfold State.takeSample State.completeMeasurement State.formReference
  dsimp only
  split
  · simp
  split
  · simp
  · split
    · simp
    · split <;> simp

@[simp] theorem State.postOutcome_lockView (r : Run) (o : RunOutcome) : (s.postOutcome r o).lockView = s.lockView := by
  unfold State.postOutcome
  split <;> simp

@[simp] theorem State.reseatRun_lockView (r : Run) : (s.reseatRun r).lockView = s.lockView := by
  unfold State.reseatRun
  split <;> simp

@[simp] theorem State.scaleError_lockView (scale : Scale) : (s.scaleError scale).lockView = s.lockView := by
  unfold State.scaleError
  dsimp only
  split
  · split <;> simp
  · simp

@[simp] theorem State.unseat_lockView : s.unseat.lockView = s.lockView := by
  have lifted : ∀ (u : State) (r : Option ToolRecord), (u.liftOff r).lockView = u.lockView := fun u r => by
    unfold State.liftOff
    split <;> simp
  have ended : ∀ u : State, u.unseatRun.lockView = u.lockView := fun u => by
    unfold State.unseatRun
    split <;> simp
  simp [State.unseat, lifted, ended]

@[simp] theorem State.rejoin_lockView : s.rejoin.lockView = s.lockView := by
  have unmarked : ∀ u : State, u.restartDemand.lockView = u.lockView := fun u =>
    State.lockView_of_plain (by simp [State.plainPockets, State.restartDemand]) rfl rfl rfl rfl
  have calls : ∀ u : State, u.abandonCalls.lockView = u.lockView := fun u => foldl_keeps _ (fun _ _ => by simp) _ _
  simp [State.rejoin, unmarked, State.restartCustody, calls, State.listen, State.restartLine]

end

end Sys2Proof.Machine
end

section
/-! SUPPORT. The commands and events that leave the view of the lock laws alone. -/

namespace Sys2Proof.Machine

/-- A next state with the same locks, faults, drive queue, pull-in slots, supply and operations. -/
def SameLocks (s t : State) : Prop := t.lockView = s.lockView

theorem SameLocks.refl (s : State) : SameLocks s s := rfl

theorem sameLocks_onlyIf {s t : State} {c : Prop} [Decidable c] (h : t.lockView = s.lockView) :
    Yields (SameLocks s) (if c then .next t else .next s) := by
  split
  · exact h
  · exact .refl s

theorem sameLocks_hostCommand {c : Instr} {body : State → CommandResult} {s : State}
    (ok : Answers (SameLocks s) (body s)) : Yields (SameLocks s) (hostCommand c body s) :=
  yields_hostCommand (.refl s) (fun _ _ h _ => h) ok

theorem sameLocks_deliver {kind : FrameKind} {act : State → RxFrame → State} {s : State}
    (taken : ∀ (u : State) (f : RxFrame), (act u f).lockView = u.lockView) :
    Yields (SameLocks s) (deliver kind act s) := by
  unfold deliver
  split
  · exact .refl s
  split
  · dsimp only [Yields, SameLocks]
    split <;> simp [taken]
  · exact .refl s

section
variable (s : State)

/-! ### Local port and roster -/

theorem execReadTransaction_sameLocks (n : Nat) : Yields (SameLocks s) (execReadTransaction n s) := by
  unfold execReadTransaction
  split
  · exact .refl s
  · split <;> exact SameLocks.refl s

theorem execReadNotice_sameLocks : Yields (SameLocks s) (execReadNotice s) := by
  refine sameLocks_hostCommand ?_
  unfold readNoticeBody
  split <;> exact SameLocks.refl s

theorem execJoin_sameLocks : Yields (SameLocks s) (execJoin s) :=
  sameLocks_hostCommand (.unless fun _ => .unless fun _ => .refl s)

theorem execRejoin_sameLocks : Yields (SameLocks s) (execRejoin s) :=
  sameLocks_hostCommand (.unless fun _ => .unless fun _ => s.rejoin_lockView)

theorem execReadPeer_sameLocks (b : Byte) : Yields (SameLocks s) (execReadPeer b s) := by
  refine sameLocks_hostCommand (.unless fun _ => .unless fun _ => ?_)
  split
  · exact trivial
  · exact SameLocks.refl s

theorem execPardon_sameLocks (b : Byte) : Yields (SameLocks s) (execPardon b s) :=
  sameLocks_hostCommand (.unless fun _ => .unless fun _ => s.setPeer_lockView _ _)

theorem execPeerAbsent_sameLocks (n : Nat) : Yields (SameLocks s) (execPeerAbsent n s) := by
  unfold execPeerAbsent
  split
  · exact .refl s
  · exact sameLocks_onlyIf (s.goAbsent_lockView _ _)

theorem execMalformedFrame_sameLocks : Yields (SameLocks s) (execMalformedFrame s) := by
  unfold execMalformedFrame
  split
  · exact .refl s
  · exact sameLocks_onlyIf (by simp)

/-! ### Custody waits -/

theorem execCallWaitExpiry_sameLocks (slot : Nat) : Yields (SameLocks s) (execCallWaitExpiry slot s) := by
  unfold execCallWaitExpiry
  split
  · exact .refl s
  split
  · exact .refl s
  split
  · exact .refl s
  split
  · exact s.retryCall_lockView _ _
  · exact s.closeCall_lockView _ _ _

theorem execOfferWaitExpiry_sameLocks (slot : Nat) : Yields (SameLocks s) (execOfferWaitExpiry slot s) := by
  unfold execOfferWaitExpiry
  split
  · exact .refl s
  split
  · exact .refl s
  split
  · exact .refl s
  split
  · exact s.retryOffer_lockView _ _
  · exact s.lapse_lockView _ _

theorem execCheckWaitExpiry_sameLocks (tool : ToolId) : Yields (SameLocks s) (execCheckWaitExpiry tool s) := by
  unfold execCheckWaitExpiry
  split
  · exact .refl s
  split
  · exact sameLocks_onlyIf rfl
  · exact .refl s

/-! ### Records -/

theorem execCreate_sameLocks (kind number : Byte) (bytes : List Byte) :
    Yields (SameLocks s) (execCreate kind number bytes s) :=
  sameLocks_hostCommand (createBody_answers fun _ _ => by simp [SameLocks])

theorem execRestore_sameLocks (state kind number prior counterpart handoff : Byte) (bytes : List Byte) :
    Yields (SameLocks s) (execRestore state kind number prior counterpart handoff bytes s) :=
  sameLocks_hostCommand (restoreBody_answers fun _ _ _ => s.restoreAt_lockView _ _ _)

theorem execDrop_sameLocks (tool : ToolId) : Yields (SameLocks s) (execDrop tool s) := by
  refine sameLocks_hostCommand (.unless fun _ => .unless fun _ => ?_)
  split
  · exact trivial
  · exact .unless fun _ => (State.markingPass_lockView _).trans
      ((State.depart_lockView _ _ _).trans (s.vacate_lockView _))

theorem execResolve_sameLocks (tool : ToolId) (choice : Byte) : Yields (SameLocks s) (execResolve tool choice s) := by
  refine sameLocks_hostCommand (.unless fun _ => .unless fun _ => ?_)
  split
  · exact trivial
  split
  · split
    · exact State.postChanged_lockView _ _
    · exact s.depart_lockView _ _
  · exact trivial

theorem execMarkDamaged_sameLocks (tool : ToolId) : Yields (SameLocks s) (execMarkDamaged tool s) :=
  sameLocks_hostCommand (markDamagedBody_answers (.refl s) fun _ => by simp [SameLocks])

theorem execRegrind_sameLocks (tool : ToolId) (len : Option (BitVec 24)) :
    Yields (SameLocks s) (execRegrind tool len s) :=
  sameLocks_hostCommand (regrindBody_answers fun _ _ _ => by simp [SameLocks])

theorem execReadRecord_sameLocks (tool : ToolId) : Yields (SameLocks s) (execReadRecord tool s) := by
  refine sameLocks_hostCommand (.unless fun _ => .unless fun _ => ?_)
  split
  · exact trivial
  · exact SameLocks.refl s

theorem execListRecords_sameLocks (start : Byte) : Yields (SameLocks s) (execListRecords start s) :=
  sameLocks_hostCommand (.unless fun _ => .refl s)

/-! ### Pockets and panels -/

theorem execReadPocket_sameLocks (b : Byte) : Yields (SameLocks s) (execReadPocket b s) := by
  refine sameLocks_hostCommand (.unless fun _ => ?_)
  split
  · exact trivial
  · exact SameLocks.refl s

theorem callCommand_sameLocks (tool : ToolId) (why : Purpose) : Answers (SameLocks s) (callCommand s tool why) := by
  unfold callCommand
  split
  · exact trivial
  · next opened => exact State.openCall_lockView opened

theorem execIdentifyPocket_sameLocks (b : Byte) (tool : ToolId) :
    Yields (SameLocks s) (execIdentifyPocket b tool s) := by
  refine sameLocks_hostCommand (.unless fun _ => ?_)
  split
  · exact trivial
  refine .unless fun _ => .unless fun _ => ?_
  split
  · exact callCommand_sameLocks s _ _
  split
  · exact .unless fun _ => (State.postChanged_lockView _ _).trans (s.stock_lockView _ _)
  · exact .unless fun _ => (State.postChanged_lockView _ _).trans (s.stock_lockView _ _)
  all_goals exact trivial

theorem execEnter_sameLocks (i : PanelId) : Yields (SameLocks s) (execEnter i s) := by
  have emptied : (s.setPanel i Panel.emptied).lockView = s.lockView := s.setPanel_lockView i fun _ => rfl
  unfold execEnter
  split
  · dsimp only
    split
    · exact emptied
    split
    · exact (State.openWindow_lockView _ _ _ _).trans emptied
    · exact (State.mismatch_lockView _ _).trans emptied
  · exact .refl s

theorem execClear_sameLocks (i : PanelId) : Yields (SameLocks s) (execClear i s) :=
  sameLocks_onlyIf ((State.closeWindow_lockView _ _ _).trans (s.setPanel_lockView i fun _ => rfl))

theorem execReadPanel_sameLocks (b : Byte) : Yields (SameLocks s) (execReadPanel b s) := by
  refine sameLocks_hostCommand (.unless fun _ => ?_)
  split
  · exact trivial
  · exact .unless fun _ => .refl s

/-! ### Demand and reservations -/

theorem execSetDemand_sameLocks (entries : List (BitVec 16 × Byte)) : Yields (SameLocks s) (execSetDemand entries s) :=
  sameLocks_hostCommand (.unless fun _ => .unless fun _ => .unless fun _ => .refl s)

theorem execStartDemand_sameLocks (m i t h : Byte) : Yields (SameLocks s) (execStartDemand m i t h s) := by
  refine sameLocks_hostCommand (.unless fun _ => ?_)
  split
  · exact trivial
  · exact .unless fun _ => .unless fun _ => .unless fun _ => State.cyclePoint_lockView _

theorem execStopDemand_sameLocks : Yields (SameLocks s) (execStopDemand s) :=
  sameLocks_hostCommand (.unless fun _ => .unless fun _ => .unless fun _ => s.stopCycles_lockView)

theorem execReadDemand_sameLocks : Yields (SameLocks s) (execReadDemand s) :=
  sameLocks_hostCommand (.unless fun _ => .unless fun _ => .refl s)

theorem execReadReservations_sameLocks : Yields (SameLocks s) (execReadReservations s) :=
  sameLocks_hostCommand (.unless fun _ => .refl s)

theorem execReservationExpiry_sameLocks (n cls : Nat) : Yields (SameLocks s) (execReservationExpiry n cls s) := by
  unfold execReservationExpiry
  split
  · exact .refl s
  · exact sameLocks_onlyIf (by simp)

/-! ### Hall line -/

theorem execBitError_sameLocks (mark : Bool) : Yields (SameLocks s) (execBitError mark s) := by
  unfold execBitError
  split
  · exact .refl s
  · exact State.abortAttempt_lockView _ _

theorem execFrameSent_sameLocks : Yields (SameLocks s) (execFrameSent s) := by
  unfold execFrameSent
  split
  · exact .refl s
  · exact (State.notQueued_lockView _ _).trans (State.reportSent_lockView _ _)

theorem execFrameReceived_sameLocks (f : WireFrame) : Yields (SameLocks s) (execFrameReceived f s) :=
  sameLocks_onlyIf (by split <;> simp)

theorem execLineHeld_sameLocks (ns : Nat) (asserting : Bool) : Yields (SameLocks s) (execLineHeld ns asserting s) :=
  sameLocks_onlyIf (by split <;> simp [State.driverFault])

theorem execLineReleased_sameLocks (ns : Nat) : Yields (SameLocks s) (execLineReleased ns s) :=
  sameLocks_onlyIf (by split <;> simp)

/-! ### Magazine and measuring head -/

theorem execLoad_sameLocks (b : Byte) (tool : ToolId) : Yields (SameLocks s) (execLoad b tool s) := by
  refine sameLocks_hostCommand (.unless fun _ => ?_)
  split
  · exact trivial
  refine .unless fun _ => .unless fun _ => .unless fun _ => ?_
  split
  · split
    · exact trivial
    · next opened => exact (State.setSlot_lockView _ _ _).trans (State.openCall_lockView opened)
  split
  · exact s.loadHere_lockView _ _ _
  all_goals exact trivial

theorem execUnload_sameLocks (b : Byte) : Yields (SameLocks s) (execUnload b s) := by
  refine sameLocks_hostCommand (.unless fun _ => ?_)
  split
  · exact trivial
  · exact s.unloadSlot_lockView _ _

theorem execCharge_sameLocks (b : Byte) (seconds : BitVec 16) : Yields (SameLocks s) (execCharge b seconds s) :=
  sameLocks_hostCommand (chargeBody_answers (fun _ _ _ => s.post_lockView _ _ _) (.refl s)
    fun _ _ _ => s.charge_lockView _ _ _ _)

theorem execReadSlot_sameLocks (b : Byte) : Yields (SameLocks s) (execReadSlot b s) := by
  refine sameLocks_hostCommand (.unless fun _ => ?_)
  split
  · exact trivial
  · exact SameLocks.refl s

theorem execIdentifyHead_sameLocks (tool : ToolId) : Yields (SameLocks s) (execIdentifyHead tool s) := by
  refine sameLocks_hostCommand (.unless fun _ => .unless fun _ => .unless fun _ => ?_)
  split
  · exact callCommand_sameLocks s _ _
  split
  · exact .unless fun _ => State.postChanged_lockView _ _
  · exact .unless fun _ => State.postChanged_lockView _ _
  all_goals exact trivial

theorem execMeasureReference_sameLocks (n : Byte) (t : BitVec 16) : Yields (SameLocks s) (execMeasureReference n t s) :=
  sameLocks_hostCommand (measureReferenceBody_answers fun _ => .refl s)

theorem execMeasure_sameLocks (tool : ToolId) (n : Byte) (t : BitVec 16) :
    Yields (SameLocks s) (execMeasure tool n t s) :=
  sameLocks_hostCommand (measureBody_answers fun _ => State.postChanged_lockView _ _)

theorem execAbortMeasure_sameLocks : Yields (SameLocks s) (execAbortMeasure s) :=
  sameLocks_hostCommand (.unless fun _ => .unless fun _ => .unless fun _ => s.endRun_lockView _)

theorem execReadHead_sameLocks : Yields (SameLocks s) (execReadHead s) :=
  sameLocks_hostCommand (.unless fun _ => .unless fun _ => .refl s)

theorem execScaleStep_sameLocks (scale : Scale) (up : Bool) : Yields (SameLocks s) (execScaleStep scale up s) := by
  unfold execScaleStep
  split
  · exact .refl s
  · cases scale <;> exact SameLocks.refl s

theorem execCapture_sameLocks (rising : Bool) : Yields (SameLocks s) (execCapture rising s) := by
  unfold execCapture
  split
  · exact .refl s
  split
  · exact s.post_lockView _ _ _
  · exact s.takeSample_lockView _

/-! ### Every command that moves no lock -/

/-- Whether a command or event can move a lock, change a fault or the supply, or start or end an operation. -/
def drivesLocks : Instr → Bool
  | .reset | .configure _ | .issue .. | .returnTool .. | .serviceOpen .. | .cancel _ | .clearPocketFault _
  | .pocketFirstReading .. | .pocketRemoval _ | .pocketInsertion _ | .currentSeen _ | .pullInExpiry _
  | .shortCurrent _ | .holdExpiry _ | .supplyLow | .supplyNormal => true
  | _ => false

theorem exec_sameLocks (c : Instr) (h : drivesLocks c = false) : Yields (SameLocks s) (exec c s) := by
  cases c with
  | reset | configure | issue | returnTool | serviceOpen | cancel | clearPocketFault | pocketFirstReading
  | pocketRemoval
  | pocketInsertion | currentSeen | pullInExpiry | shortCurrent | holdExpiry | supplyLow | supplyNormal => cases h
  | readTransaction n => exact execReadTransaction_sameLocks s n
  | commandCollision => exact sameLocks_onlyIf rfl
  | unknownCommand code payload => exact sameLocks_hostCommand trivial
  | readStatus => exact sameLocks_hostCommand (SameLocks.refl s)
  | readNotice => exact execReadNotice_sameLocks s
  | restore state kind number prior counterpart handoff image =>
    exact execRestore_sameLocks s state kind number prior counterpart handoff image
  | join => exact execJoin_sameLocks s
  | rejoin => exact execRejoin_sameLocks s
  | readPeer n => exact execReadPeer_sameLocks s n
  | pardon n => exact execPardon_sameLocks s n
  | create kind number image => exact execCreate_sameLocks s kind number image
  | drop tool => exact execDrop_sameLocks s tool
  | resolve tool choice => exact execResolve_sameLocks s tool choice
  | markDamaged tool => exact execMarkDamaged_sameLocks s tool
  | regrind tool len => exact execRegrind_sameLocks s tool len
  | readRecord tool => exact execReadRecord_sameLocks s tool
  | listRecords start => exact execListRecords_sameLocks s start
  | identifyPocket p tool => exact execIdentifyPocket_sameLocks s p tool
  | readPocket p => exact execReadPocket_sameLocks s p
  | readPanel i => exact execReadPanel_sameLocks s i
  | readReservations => exact execReadReservations_sameLocks s
  | identifyHead tool => exact execIdentifyHead_sameLocks s tool
  | measureReference n t => exact execMeasureReference_sameLocks s n t
  | measure tool n t => exact execMeasure_sameLocks s tool n t
  | abortMeasure => exact execAbortMeasure_sameLocks s
  | readHead => exact execReadHead_sameLocks s
  | load slot tool => exact execLoad_sameLocks s slot tool
  | unload slot => exact execUnload_sameLocks s slot
  | charge slot seconds => exact execCharge_sameLocks s slot seconds
  | readSlot slot => exact execReadSlot_sameLocks s slot
  | setDemand entries => exact execSetDemand_sameLocks s entries
  | startDemand mode interval target hold => exact execStartDemand_sameLocks s mode interval target hold
  | stopDemand => exact execStopDemand_sameLocks s
  | readDemand => exact execReadDemand_sameLocks s
  | lineIdle => exact sameLocks_onlyIf (State.startAttempt_lockView _)
  | arbitrationLost => exact sameLocks_onlyIf rfl
  | bitError mark => exact execBitError_sameLocks s mark
  | frameSent => exact execFrameSent_sameLocks s
  | frameReceived f => exact execFrameReceived_sameLocks s f
  | malformedFrame => exact execMalformedFrame_sameLocks s
  | presence => exact sameLocks_deliver fun u f => u.presenceReport_lockView f.source.toNat
  | call => exact sameLocks_deliver State.takeCall_lockView
  | offer => exact sameLocks_deliver State.takeOffer_lockView
  | accept => exact sameLocks_deliver State.takeAccept_lockView
  | decline => exact sameLocks_deliver State.takeDecline_lockView
  | here => exact sameLocks_deliver State.takeHere_lockView
  | check => exact sameLocks_deliver State.takeCheck_lockView
  | checkReply => exact sameLocks_deliver State.takeCheckReply_lockView
  | demand => exact sameLocks_deliver State.takeDemand_lockView
  | lineHeld ns asserting => exact execLineHeld_sameLocks s ns asserting
  | lineReleased ns => exact execLineReleased_sameLocks s ns
  | nodeOnline => exact sameLocks_onlyIf (by simp)
  | beaconExpiry => exact sameLocks_onlyIf s.offerPresence_lockView
  | peerAbsent n => exact execPeerAbsent_sameLocks s n
  | callWaitExpiry slot => exact execCallWaitExpiry_sameLocks s slot
  | offerWaitExpiry slot => exact execOfferWaitExpiry_sameLocks s slot
  | checkWaitExpiry tool => exact execCheckWaitExpiry_sameLocks s tool
  | digitKey i d => exact sameLocks_onlyIf (s.setPanel_lockView i fun _ => rfl)
  | enter i => exact execEnter_sameLocks s i
  | clear i => exact execClear_sameLocks s i
  | interKeyExpiry i => exact sameLocks_onlyIf (s.setPanel_lockView i fun _ => rfl)
  | lockoutExpiry i => exact sameLocks_onlyIf (s.setPanel_lockView i fun _ => rfl)
  | windowExpiry i => exact sameLocks_onlyIf (s.closeWindow_lockView i _)
  | scaleStep scale up => exact execScaleStep_sameLocks s scale up
  | scaleError scale => exact sameLocks_onlyIf (s.scaleError_lockView scale)
  | capture rising => exact execCapture_sameLocks s rising
  | captureTimeout => exact sameLocks_onlyIf (s.endRun_lockView _)
  | seatFirstReading high => exact sameLocks_onlyIf rfl
  | headSeated => exact sameLocks_onlyIf (State.post_lockView _ _ _ _)
  | headUnseated => exact sameLocks_onlyIf s.unseat_lockView
  | cycleExpiry => exact sameLocks_onlyIf (State.cyclePoint_lockView _)
  | triggerEdge high => exact sameLocks_onlyIf s.cyclePoint_lockView
  | reservationExpiry n cls => exact execReservationExpiry_sameLocks s n cls
  | dominantEdge => exact sameLocks_onlyIf rfl
  | startMarkRead width => exact sameLocks_onlyIf rfl
  | framingError cause => exact sameLocks_onlyIf rfl
  | resetEnds straps => exact sameLocks_onlyIf rfl

end

end Sys2Proof.Machine
end

section
/-! SUPPORT. The pocket table and the panels under their updates, and the start rule of the drive queue (R90). -/

namespace Sys2Proof.Machine

/-! ### Pockets and panels -/

section
variable {s t : State} {p q : Nat} {k : Pocket}

theorem State.pocket?_eq_some_iff : s.pocket? p = some k ↔ p ≠ 0 ∧ s.bank.pockets[p - 1]? = some k := by
  unfold State.pocket?
  split <;> simp [*]

/-- The entries of a pocket table as a view shows them. -/
theorem State.pocket?_map {α : Type} (g : Pocket → α) (s : State) (p : Nat) :
    (s.pocket? p).map g = if p = 0 then none else (s.bank.pockets.map g)[p - 1]? := by
  unfold State.pocket?
  split <;> simp

theorem State.pocket?_map_congr {α : Type} {g : Pocket → α}
    (same : t.bank.pockets.map g = s.bank.pockets.map g) (p : Nat) :
    (t.pocket? p).map g = (s.pocket? p).map g := by
  rw [State.pocket?_map, State.pocket?_map, same]

theorem State.pocket?_setPocket_self (s : State) (p : Nat) (f : Pocket → Pocket) :
    (s.setPocket p f).pocket? p = (s.pocket? p).map f := by
  unfold State.setPocket State.pocket?
  split <;> simp

/-- Two changes that agree on a pocket's entry. -/
theorem State.setPocket_congr {f g : Pocket → Pocket} (entry : s.pocket? p = some k) (same : f k = g k) :
    s.setPocket p f = s.setPocket p g := by
  obtain ⟨pos, entry⟩ := State.pocket?_eq_some_iff.mp entry
  have pockets : s.bank.pockets.modify (p - 1) f = s.bank.pockets.modify (p - 1) g := by
    refine List.ext_getElem? fun j => ?_
    by_cases here : p - 1 = j
    · subst here
      simp [entry, same]
    · simp [here]
  simp only [State.setPocket, pos, if_false, pockets]

@[simp] theorem State.setPocket_queue (f : Pocket → Pocket) : (s.setPocket p f).bank.queue = s.bank.queue := by
  unfold State.setPocket
  split <;> rfl

@[simp] theorem State.setPocket_supply (f : Pocket → Pocket) : (s.setPocket p f).bank.supply = s.bank.supply := by
  unfold State.setPocket
  split <;> rfl

@[simp] theorem State.markingPass_queue : s.markingPass.bank.queue = s.bank.queue := rfl
@[simp] theorem State.markingPass_pullIns : s.markingPass.bank.pullIns = s.bank.pullIns := rfl
@[simp] theorem State.markingPass_supply : s.markingPass.bank.supply = s.bank.supply := rfl

/-- A table's view after a change that it does not show. -/
theorem State.setPocket_map {α : Type} {g : Pocket → α} {f : Pocket → Pocket} (keeps : ∀ k, g (f k) = g k) :
    (s.setPocket p f).bank.pockets.map g = s.bank.pockets.map g := by
  unfold State.setPocket
  split
  · rfl
  · exact map_modify_of_keeps keeps _ _

@[simp] theorem State.panel_setPanel_same (s : State) (i : PanelId) (f : Panel → Panel) :
    (s.setPanel i f).panel i = f (s.panel i) := by cases i <;> rfl

theorem State.panel_setPanel_ne {i j : PanelId} (h : j ≠ i) (f : Panel → Panel) :
    (s.setPanel i f).panel j = s.panel j := by
  cases i <;> cases j <;> first | rfl | exact absurd rfl h

theorem State.panel_congr (h : t.panels = s.panels) (i : PanelId) : t.panel i = s.panel i := by
  cases i <;> simp only [State.panel, h]

end

/-! ### One start (R90, R91) -/

/-- A QUEUED lock in pull-in; any other as it is. -/
def Lock.pulled : Lock → Lock
  | .queued w => .pulling w false
  | l => l

/-- A pocket whose lock is in pull-in if it was QUEUED. -/
def Pocket.started (k : Pocket) : Pocket := { k with lock := k.lock.pulled }

/-- The pocket at the head of the drive queue in the pull-in slot at an index. -/
def State.started (s : State) (p : Nat) (rest : List Nat) (i : Nat) : State :=
  State.setPocket
    { s with bank := { s.bank with
      queue := rest
      pullIns := s.bank.pullIns.set i (some { pocket := p, deadline := after s.now s.config.pullInMs }) } }
    p Pocket.started

theorem Pocket.started_eq : Pocket.started = fun k : Pocket => match k.lock with
    | .queued w => { k with lock := .pulling w false }
    | _ => k := by
  funext ⟨presence, occupancy, lock, fault, mark⟩
  cases lock <;> rfl

section
variable {s t : State}

theorem State.startOne_eq {p i : Nat} {rest : List Nat} (queue : s.bank.queue = p :: rest)
    (free : s.bank.pullIns.findIdx? Option.isNone = some i) (few : s.bank.energised < Config.energisedMax) :
    s.startOne = some (s.started p rest i) := by
  unfold State.startOne State.started
  rw [queue, free, Pocket.started_eq]
  exact if_pos few

/-- What a start can be. -/
theorem State.startOne_cases (s : State) :
    (s.startOne = none ∧
      (s.bank.queue = [] ∨ s.bank.pullIns.findIdx? Option.isNone = none ∨ Config.energisedMax ≤ s.bank.energised))
    ∨ ∃ p rest i, s.bank.queue = p :: rest ∧ s.bank.pullIns.findIdx? Option.isNone = some i
      ∧ s.bank.energised < Config.energisedMax ∧ s.startOne = some (s.started p rest i) := by
  cases queue : s.bank.queue with
  | nil => exact .inl ⟨by simp [State.startOne, queue], .inl rfl⟩
  | cons p rest =>
    cases free : s.bank.pullIns.findIdx? Option.isNone with
    | none => exact .inl ⟨by simp [State.startOne, queue, free], .inr (.inl rfl)⟩
    | some i =>
      by_cases few : s.bank.energised < Config.energisedMax
      · exact .inr ⟨p, rest, i, rfl, rfl, few, State.startOne_eq queue free few⟩
      · exact .inl ⟨by simp [State.startOne, queue, free, few], .inr (.inr (Nat.not_lt.mp few))⟩

/-- A condition of the start rule that fails (R90). -/
theorem State.startOne_eq_none
    (h : s.bank.queue = [] ∨ s.bank.pullIns.findIdx? Option.isNone = none ∨ Config.energisedMax ≤ s.bank.energised) :
    s.startOne = none := by
  obtain ⟨none, -⟩ | ⟨p, rest, i, queue, free, few, -⟩ := s.startOne_cases
  · exact none
  · obtain empty | full | many := h
    · cases queue.symm.trans empty
    · cases free.symm.trans full
    · exact absurd few (Nat.not_lt.mpr many)

theorem State.startOne_started (h : s.startOne = some t) : ∃ p rest i, s.bank.queue = p :: rest
    ∧ s.bank.pullIns.findIdx? Option.isNone = some i ∧ s.bank.energised < Config.energisedMax
    ∧ t = s.started p rest i := by
  obtain ⟨none, -⟩ | ⟨p, rest, i, queue, free, few, e⟩ := s.startOne_cases
  · cases none.symm.trans h
  · exact ⟨p, rest, i, queue, free, few, Option.some.inj (h.symm.trans e)⟩

/-- A free pull-in slot is in the table. -/
theorem State.pullIns_free {i : Nat} (free : s.bank.pullIns.findIdx? Option.isNone = some i) :
    s.bank.pullIns[i]? = some none := by
  obtain ⟨inside, isNone, -⟩ := List.findIdx?_eq_some_iff_getElem.mp free
  rw [List.getElem?_eq_getElem inside, Option.isNone_iff_eq_none.mp isNone]

@[simp] theorem State.started_queue (p : Nat) (rest : List Nat) (i : Nat) : (s.started p rest i).bank.queue = rest :=
  State.setPocket_queue _

@[simp] theorem State.started_pullIns (p : Nat) (rest : List Nat) (i : Nat) : (s.started p rest i).bank.pullIns =
    s.bank.pullIns.set i (some { pocket := p, deadline := after s.now s.config.pullInMs }) :=
  State.setPocket_pullIns _ _ _

@[simp] theorem State.started_supply (p : Nat) (rest : List Nat) (i : Nat) :
    (s.started p rest i).bank.supply = s.bank.supply := State.setPocket_supply _

theorem State.started_pocket? {p : Nat} {k : Pocket} (entry : s.pocket? p = some k) (rest : List Nat) (i : Nat) :
    (s.started p rest i).pocket? p = some k.started := by
  unfold State.started
  exact State.pocket?_setPocket (by exact entry) _

theorem State.started_pocket?_ne {p q : Nat} (other : q ≠ p) (rest : List Nat) (i : Nat) :
    (s.started p rest i).pocket? q = s.pocket? q := by
  unfold State.started
  exact State.pocket?_setPocket_ne other _

theorem State.started_frame (p : Nat) (rest : List Nat) (i : Nat) : s.started p rest i = { s with bank := { s.bank with
    pockets := (s.started p rest i).bank.pockets, queue := (s.started p rest i).bank.queue
    pullIns := (s.started p rest i).bank.pullIns } } := by
  unfold State.started State.setPocket
  split <;> rfl

/-! ### The start rule (R90) -/

/-- What every start keeps, the start rule keeps. -/
theorem startUpTo_induction {P : State → Prop} (start : ∀ u p rest i, P u → u.bank.queue = p :: rest →
      u.bank.pullIns.findIdx? Option.isNone = some i → u.bank.energised < Config.energisedMax → P (u.started p rest i))
    (n : Nat) (h : P s) : P (startUpTo n s) := by
  induction n generalizing s with
  | zero => exact h
  | succ n ih =>
    unfold startUpTo
    split
    · exact h
    · next u one =>
      obtain ⟨p, rest, i, queue, free, few, rfl⟩ := State.startOne_started one
      exact ih (start s p rest i h queue free few)

theorem State.startRule_induction {P : State → Prop} (h : P s) (start : ∀ u p rest i, P u → u.bank.queue = p :: rest →
      u.bank.pullIns.findIdx? Option.isNone = some i → u.bank.energised < Config.energisedMax →
      P (u.started p rest i)) :
    P s.startRule := startUpTo_induction start _ h

theorem State.startRule_frame (s : State) : s.startRule = { s with bank := { s.bank with
    pockets := s.startRule.bank.pockets, queue := s.startRule.bank.queue, pullIns := s.startRule.bank.pullIns } } := by
  refine State.startRule_induction (P := fun u => u = { s with bank := { s.bank with
    pockets := u.bank.pockets, queue := u.bank.queue, pullIns := u.bank.pullIns } }) rfl ?_
  intro u p rest i frame _ _ _
  rw [u.started_frame, frame]

variable (s)

@[simp] theorem State.startRule_now : s.startRule.now = s.now := by rw [s.startRule_frame]
@[simp] theorem State.startRule_port : s.startRule.port = s.port := by rw [s.startRule_frame]
@[simp] theorem State.startRule_notices : s.startRule.notices = s.notices := by rw [s.startRule_frame]
@[simp] theorem State.startRule_config : s.startRule.config = s.config := by rw [s.startRule_frame]
@[simp] theorem State.startRule_records : s.startRule.records = s.records := by rw [s.startRule_frame]
@[simp] theorem State.startRule_line : s.startRule.line = s.line := by rw [s.startRule_frame]
@[simp] theorem State.startRule_custody : s.startRule.custody = s.custody := by rw [s.startRule_frame]
@[simp] theorem State.startRule_panels : s.startRule.panels = s.panels := by rw [s.startRule_frame]
@[simp] theorem State.startRule_head : s.startRule.head = s.head := by rw [s.startRule_frame]
@[simp] theorem State.startRule_magazine : s.startRule.magazine = s.magazine := by rw [s.startRule_frame]
@[simp] theorem State.startRule_reservations : s.startRule.reservations = s.reservations := by rw [s.startRule_frame]
@[simp] theorem State.startRule_supply : s.startRule.bank.supply = s.bank.supply := by rw [s.startRule_frame]

variable {s}

/-- What a start does not show of a pocket, the start rule does not show of the table. -/
theorem State.startRule_map {α : Type} {g : Pocket → α} (keeps : ∀ k : Pocket, g k.started = g k) (s : State) :
    s.startRule.bank.pockets.map g = s.bank.pockets.map g :=
  State.startRule_induction (P := fun u => u.bank.pockets.map g = s.bank.pockets.map g) rfl
    fun _ _ _ _ same _ _ _ => (State.setPocket_map keeps).trans same

/-- A lock that does not wait in the drive queue is not started. -/
theorem State.startRule_pocket? {p : Nat} {k : Pocket} (entry : s.pocket? p = some k) (idle : k.started = k) :
    s.startRule.pocket? p = some k := by
  refine State.startRule_induction (P := fun u => u.pocket? p = some k) entry ?_
  intro u q rest i entry _ _ _
  by_cases here : p = q
  · subst here
    exact (State.started_pocket? entry rest i).trans (congrArg some idle)
  · exact (State.started_pocket?_ne here rest i).trans entry

/-- The start rule takes pockets from the head of the drive queue. -/
theorem State.startRule_queue_suffix (s : State) : s.startRule.bank.queue <:+ s.bank.queue := by
  refine State.startRule_induction (P := fun u => u.bank.queue <:+ s.bank.queue) (List.suffix_refl _) ?_
  intro u p rest i suffix queue _ _
  rw [State.started_queue]
  exact ((List.suffix_cons p rest).trans (queue ▸ List.suffix_refl _)).trans suffix

/-- A pull-in slot that is taken after the start rule was so before, or holds a pocket of the drive queue. -/
theorem State.mem_startRule_pullIns {w : PullIn} (h : some w ∈ s.startRule.bank.pullIns) :
    some w ∈ s.bank.pullIns ∨ w.pocket ∈ s.bank.queue := by
  refine (State.startRule_induction (P := fun u => u.bank.queue <:+ s.bank.queue ∧ ∀ w, some w ∈ u.bank.pullIns →
    some w ∈ s.bank.pullIns ∨ w.pocket ∈ s.bank.queue) ⟨List.suffix_refl _, fun _ => .inl⟩ ?_).2 w h
  rintro u p rest i ⟨suffix, sub⟩ queue _ _
  have head : p ∈ s.bank.queue := suffix.subset (queue ▸ List.mem_cons_self)
  refine ⟨?_, fun w hw => ?_⟩
  · rw [State.started_queue]
    exact ((List.suffix_cons p rest).trans (queue ▸ List.suffix_refl _)).trans suffix
  · rw [State.started_pullIns] at hw
    obtain old | new := List.mem_or_eq_of_mem_set hw
    · exact sub w old
    · obtain rfl := Option.some.inj new
      exact .inr head

/-- Nothing starts where a condition of the start rule fails. -/
theorem State.startRule_eq_self
    (h : s.bank.queue = [] ∨ s.bank.pullIns.findIdx? Option.isNone = none ∨ Config.energisedMax ≤ s.bank.energised) :
    s.startRule = s := by
  unfold State.startRule
  cases s.bank.queue.length with
  | zero => rfl
  | succ n => simp only [startUpTo, State.startOne_eq_none h]

/-- After a start the rule is applied again. -/
theorem State.startRule_started {p i : Nat} {rest : List Nat} (queue : s.bank.queue = p :: rest)
    (free : s.bank.pullIns.findIdx? Option.isNone = some i) (few : s.bank.energised < Config.energisedMax) :
    s.startRule = (s.started p rest i).startRule := by
  unfold State.startRule
  rw [State.started_queue, queue, List.length_cons]
  simp only [startUpTo, State.startOne_eq queue free few]

/-- The start rule stops where one of its conditions fails. -/
theorem startUpTo_stops (n : Nat) (enough : s.bank.queue.length ≤ n) : (startUpTo n s).bank.queue = []
    ∨ (startUpTo n s).bank.pullIns.findIdx? Option.isNone = none
    ∨ Config.energisedMax ≤ (startUpTo n s).bank.energised := by
  induction n generalizing s with
  | zero => exact .inl (List.eq_nil_of_length_eq_zero (Nat.le_zero.mp enough))
  | succ n ih =>
    unfold startUpTo
    obtain ⟨none, stops⟩ | ⟨p, rest, i, queue, -, -, one⟩ := s.startOne_cases
    · simpa only [none] using stops
    · rw [queue, List.length_cons] at enough
      simpa only [one] using ih (s := s.started p rest i) (by rw [State.started_queue]; omega)

theorem State.startRule_stops (s : State) : s.startRule.bank.queue = []
    ∨ s.startRule.bank.pullIns.findIdx? Option.isNone = none ∨ Config.energisedMax ≤ s.startRule.bank.energised :=
  startUpTo_stops _ le_rfl

end

end Sys2Proof.Machine
end

section
/-! SUPPORT. O7: the driven-lock law and the pull-in law (R90, R92, R94). -/

namespace Sys2Proof.Machine

/-! ### Counting over a changed element -/

section
variable {α : Type} {q : α → Bool} {f : α → α}

theorem countP_modify_le {l : List α} {i : Nat} (h : ∀ a, l[i]? = some a → q (f a) = true → q a = true) :
    (l.modify i f).countP q ≤ l.countP q := by
  induction l generalizing i with
  | nil => simp
  | cons a l ih =>
    cases i with
    | zero =>
      have head := h a rfl
      simp only [List.modify_zero_cons, List.countP_cons]
      split <;> simp_all
    | succ i => simpa only [List.modify_succ_cons, List.countP_cons, Nat.add_le_add_iff_right] using ih h

theorem countP_modify_le_succ (l : List α) (i : Nat) : (l.modify i f).countP q ≤ l.countP q + 1 := by
  induction l generalizing i with
  | nil => simp
  | cons a l ih =>
    cases i with
    | zero =>
      simp only [List.modify_zero_cons, List.countP_cons]
      split <;> omega
    | succ i =>
      have rest := ih i
      simp only [List.modify_succ_cons, List.countP_cons]
      omega

end

/-! ### At most 4 locks pull in (R90) -/

theorem State.PullInLaw.pulling_le {s : State} (h : s.PullInLaw) : s.bank.pulling ≤ 4 := by
  let pulling := (numbered s.bank.pockets).filter (fun c => c.1.lock.isPulling)
  let holders := (s.bank.pullIns.filterMap id).map (·.pocket)
  have count : s.bank.pulling = (pulling.map (·.2)).length := by
    have split : s.bank.pulling = ((numbered s.bank.pockets).map (·.1)).countP (·.lock.isPulling) := by
      rw [numbered, List.zipIdx_map_fst]
      rfl
    rw [split, List.countP_map, List.countP_eq_length_filter, List.length_map]
    rfl
  have distinct : (pulling.map (·.2)).Nodup := by
    have numbers : ((numbered s.bank.pockets).map (·.2)).Nodup := by
      rw [numbered, List.zipIdx_map_snd]
      exact List.nodup_range'
    exact numbers.sublist (List.filter_sublist.map _)
  have held : pulling.map (·.2) ⊆ holders := by
    intro p hp
    obtain ⟨⟨k, n⟩, mem, rfl⟩ := List.mem_map.mp hp
    obtain ⟨entry, pulls⟩ := List.mem_filter.mp mem
    obtain ⟨pos, entry⟩ := List.mk_mem_zipIdx_iff_le_and_getElem?_sub.mp entry
    obtain ⟨w, slot, e⟩ := h.held n k (State.pocket?_eq_some_iff.mpr ⟨Nat.one_le_iff_ne_zero.mp pos, entry⟩) pulls
    exact List.mem_map.mpr ⟨w, List.mem_filterMap.mpr ⟨some w, slot, rfl⟩, e⟩
  calc
    s.bank.pulling ≤ holders.length := count ▸ (List.subperm_of_subset distinct held).length_le
    _ ≤ s.bank.pullIns.length := (List.length_map _).trans_le (List.length_filterMap_le _ _)
    _ = 4 := h.slots

/-! ### The relation -/

/-- The second state meets the driven-lock law and the pull-in law if the first one does. -/
structure KeepsDrive (s t : State) : Prop where
  drive : s.DriveLaw → t.DriveLaw
  pullIn : s.PullInLaw → t.PullInLaw

theorem KeepsDrive.refl (s : State) : KeepsDrive s s := ⟨id, id⟩

theorem KeepsDrive.trans {s t u : State} (h : KeepsDrive s t) (h' : KeepsDrive t u) : KeepsDrive s u :=
  ⟨h'.drive ∘ h.drive, h'.pullIn ∘ h.pullIn⟩

section
variable {s t u : State}

/-- The laws see the locks, the faults, the drive queue, the pull-in slots and the supply. -/
theorem KeepsDrive.sameLocks (h : KeepsDrive s t)
    (pockets : u.bank.pockets.map (fun k => (k.lock, k.fault)) = t.bank.pockets.map (fun k => (k.lock, k.fault)))
    (queue : u.bank.queue = t.bank.queue) (pullIns : u.bank.pullIns = t.bank.pullIns)
    (supply : u.bank.supply = t.bank.supply) : KeepsDrive s u := by
  have all : ∀ P : Lock × LockFault → Prop,
      (∀ k ∈ u.bank.pockets, P (k.lock, k.fault)) ↔ ∀ k ∈ t.bank.pockets, P (k.lock, k.fault) := fun P => by
    simpa only [List.forall_mem_map] using
      (Iff.of_eq (congrArg (fun l : List (Lock × LockFault) => ∀ x ∈ l, P x) pockets))
  refine h.trans ⟨fun z => ⟨?_, fun low => ?_, ?_⟩, fun z => ⟨pullIns ▸ z.slots, fun p k entry pulls => ?_⟩⟩
  · have count : u.bank.energised = t.bank.energised := by
      have shown := congrArg (List.countP fun x : Lock × LockFault => x.1.energised) pockets
      rwa [List.countP_map, List.countP_map] at shown
    exact count ▸ z.energised
  · obtain ⟨empty, closed⟩ := z.noSupply (supply ▸ low)
    exact ⟨queue.trans empty, (all (·.1 = .closed)).mpr closed⟩
  · exact (all fun x => x.2 ≠ .none → x.1 = .closed).mpr z.noFault
  · have shown := State.pocket?_map_congr pockets p
    rw [entry, Option.map_some, eq_comm, Option.map_eq_some_iff] at shown
    obtain ⟨k', entry', same⟩ := shown
    rw [pullIns]
    exact z.held p k' entry' (by rw [(Prod.mk.inj same).1]; exact pulls)

theorem KeepsDrive.sameView (h : KeepsDrive s t) (view : u.lockView = t.lockView) : KeepsDrive s u :=
  h.sameLocks (congrArg LockView.pockets view) (congrArg LockView.queue view) (congrArg LockView.pullIns view)
    (congrArg LockView.supply view)

theorem KeepsDrive.sameBank (h : KeepsDrive s t) (bank : u.bank = t.bank) : KeepsDrive s u :=
  h.sameLocks (by rw [bank]) (by rw [bank]) (by rw [bank]) (by rw [bank])

/-! ### Changes of one pocket -/

/-- A pocket of a changed table is an old one, or the changed one. -/
theorem State.mem_setPocket {p : Nat} {f : Pocket → Pocket} {k : Pocket} (h : k ∈ (s.setPocket p f).bank.pockets) :
    k ∈ s.bank.pockets ∨ ∃ k', s.pocket? p = some k' ∧ k = f k' := by
  unfold State.setPocket at h
  split at h
  · exact .inl h
  · next pos =>
    obtain ⟨j, hj⟩ := List.mem_iff_getElem?.mp h
    by_cases here : p - 1 = j
    · subst here
      rw [List.getElem?_modify_eq, Option.map_eq_map, Option.map_eq_some_iff] at hj
      obtain ⟨k', entry, rfl⟩ := hj
      exact .inr ⟨k', State.pocket?_eq_some_iff.mpr ⟨pos, entry⟩, rfl⟩
    · rw [List.getElem?_modify_ne _ _ here] at hj
      exact .inl (List.mem_of_getElem? hj)

theorem State.setPocket_energised_le {p : Nat} {f : Pocket → Pocket}
    (h : ∀ k, s.pocket? p = some k → (f k).lock.energised = true → k.lock.energised = true) :
    (s.setPocket p f).bank.energised ≤ s.bank.energised := by
  unfold State.setPocket
  split
  · exact le_rfl
  · next pos => exact countP_modify_le fun k entry => h k (State.pocket?_eq_some_iff.mpr ⟨pos, entry⟩)

theorem State.setPocket_energised_le_succ (s : State) (p : Nat) (f : Pocket → Pocket) :
    (s.setPocket p f).bank.energised ≤ s.bank.energised + 1 := by
  unfold State.setPocket
  split
  · exact Nat.le_succ _
  · exact countP_modify_le_succ _ _

/-- A pocket's lock goes on or closes: no lock is energised that was not, a CLOSED one stays so while the supply is
LOW, a faulted one is CLOSED, and a PULLING one was PULLING. -/
theorem KeepsDrive.setPocket (h : KeepsDrive s t) {p : Nat} {f : Pocket → Pocket}
    (energised : ∀ k, t.pocket? p = some k → (f k).lock.energised = true → k.lock.energised = true)
    (closed : ∀ k, t.bank.supply = .low → t.pocket? p = some k → k.lock = .closed → (f k).lock = .closed)
    (fault : ∀ k, t.pocket? p = some k → (k.fault ≠ .none → k.lock = .closed) →
      (f k).fault ≠ .none → (f k).lock = .closed)
    (pulls : ∀ k, t.pocket? p = some k → (f k).lock.isPulling = true → k.lock.isPulling = true) :
    KeepsDrive s (t.setPocket p f) := by
  have inside : ∀ k, t.pocket? p = some k → k ∈ t.bank.pockets := fun k entry =>
    List.mem_of_getElem? (State.pocket?_eq_some_iff.mp entry).2
  refine h.trans ⟨fun z => ⟨(State.setPocket_energised_le energised).trans z.energised, fun low => ?_, fun k mem => ?_⟩,
    fun z => ⟨by rw [State.setPocket_pullIns]; exact z.slots, fun q k entry => ?_⟩⟩
  · rw [State.setPocket_supply] at low
    obtain ⟨empty, all⟩ := z.noSupply low
    refine ⟨(State.setPocket_queue f).trans empty, fun k mem => ?_⟩
    obtain old | ⟨k', entry, rfl⟩ := State.mem_setPocket mem
    · exact all k old
    · exact closed k' low entry (all k' (inside k' entry))
  · obtain old | ⟨k', entry, rfl⟩ := State.mem_setPocket mem
    · exact z.noFault k old
    · exact fault k' entry (z.noFault k' (inside k' entry))
  · rw [State.setPocket_pullIns]
    by_cases here : q = p
    · subst here
      rw [State.pocket?_setPocket_self, Option.map_eq_some_iff] at entry
      obtain ⟨k', before, rfl⟩ := entry
      exact fun pulling => z.held q k' before (pulls k' before pulling)
    · rw [State.pocket?_setPocket_ne here] at entry
      exact z.held q k entry

/-! ### The operations of the drive -/

/-- A start takes a pocket that was QUEUED into a free slot, below 8 energised locks (R90). -/
theorem KeepsDrive.started (h : KeepsDrive s t) {p i : Nat} {rest : List Nat} (queue : t.bank.queue = p :: rest)
    (free : t.bank.pullIns.findIdx? Option.isNone = some i) (few : t.bank.energised < Config.energisedMax) :
    KeepsDrive s (t.started p rest i) := by
  have slot := State.pullIns_free free
  refine h.trans ⟨fun z => ⟨?_, fun low => ?_, fun k mem => ?_⟩, fun z => ⟨?_, fun q k entry pulling => ?_⟩⟩
  · exact (State.setPocket_energised_le_succ { t with bank := _ } p _).trans few
  · obtain ⟨empty, -⟩ := z.noSupply ((t.started_supply p rest i).symm.trans low)
    cases queue.symm.trans empty
  · obtain old | ⟨k', entry, rfl⟩ := State.mem_setPocket mem
    · exact z.noFault k old
    · intro fault
      have closed := z.noFault k' (List.mem_of_getElem? (State.pocket?_eq_some_iff.mp entry).2) fault
      simp [Pocket.started, Lock.pulled, closed]
  · rw [State.started_pullIns, List.length_set]
    exact z.slots
  · rw [State.started_pullIns]
    by_cases here : q = p
    · subst here
      exact ⟨_, List.mem_set (List.getElem?_eq_some_iff.mp slot).1 _, rfl⟩
    · rw [State.started_pocket?_ne here] at entry
      obtain ⟨w, held, e⟩ := z.held q k entry pulling
      obtain ⟨j, hj⟩ := List.mem_iff_getElem?.mp held
      have other : i ≠ j := fun same => by
        subst same
        cases slot.symm.trans hj
      exact ⟨w, List.mem_iff_getElem?.mpr ⟨j, (List.getElem?_set_ne other).trans hj⟩, e⟩

theorem KeepsDrive.startRule (h : KeepsDrive s t) : KeepsDrive s t.startRule :=
  State.startRule_induction (P := KeepsDrive s) h fun _ _ _ _ hu queue free few => hu.started queue free few

/-- A pull-in slot of a pocket whose lock is not PULLING falls free. -/
theorem KeepsDrive.freePullIn (h : KeepsDrive s t) {p : Nat}
    (idle : ∀ k, t.pocket? p = some k → k.lock.isPulling = false) :
    KeepsDrive s (t.freePullIn p) := by
  refine h.trans ⟨fun z => ⟨z.energised, z.noSupply, z.noFault⟩,
    fun z => ⟨(List.length_map _).trans z.slots, fun r k entry pulling => ?_⟩⟩
  obtain ⟨w, held, rfl⟩ := z.held r k entry pulling
  refine ⟨w, List.mem_map.mpr ⟨some w, held, if_neg fun here => ?_⟩, rfl⟩
  rw [idle k (here ▸ entry)] at pulling
  cases pulling

/-- Pockets leave the drive queue. -/
theorem KeepsDrive.leaveQueue (h : KeepsDrive s t) {l : List Nat} (sub : l.Sublist t.bank.queue) :
    KeepsDrive s { t with bank.queue := l } := by
  refine h.trans ⟨fun z => ⟨z.energised, fun low => ?_, z.noFault⟩, fun z => ⟨z.slots, z.held⟩⟩
  obtain ⟨empty, closed⟩ := z.noSupply low
  exact ⟨List.sublist_nil.mp (empty ▸ sub), closed⟩

/-- A lock closes, its pull-in slot falls free, and it leaves the drive queue. -/
theorem State.closeLock_eq (s : State) (p : Nat) : s.closeLock p =
    { (s.setPocket p (fun k => { k with lock := .closed })).freePullIn p with
      bank.queue := s.bank.queue.filter (· != p) } := by
  unfold State.closeLock State.setPocket
  split <;> rfl

theorem KeepsDrive.closeLock (h : KeepsDrive s t) {p : Nat} : KeepsDrive s (t.closeLock p) := by
  have closed : KeepsDrive s (t.setPocket p (fun k => { k with lock := .closed })) :=
    h.setPocket (fun _ _ e => nomatch e) (fun _ _ _ _ => rfl) (fun _ _ _ _ => rfl) (fun _ _ e => nomatch e)
  rw [State.closeLock_eq]
  refine (closed.freePullIn fun k entry => ?_).leaveQueue ?_
  · rw [State.pocket?_setPocket_self, Option.map_eq_some_iff] at entry
    obtain ⟨k', -, rfl⟩ := entry
    rfl
  · rw [show (State.freePullIn _ p).bank.queue = t.bank.queue from State.setPocket_queue _]
    exact List.filter_sublist

theorem Lock.isClosed_eq_true {l : Lock} : l.isClosed = true ↔ l = .closed := by
  cases l <;> simp [Lock.isClosed]

/-- An open request that is taken (R89): the supply is NORMAL, and the pocket is in service behind a CLOSED lock. -/
theorem State.openRequest_ok {why : Opening} {station : Option Nat} {p : Nat}
    (h : t.openRequest p why station = .ok u) :
    ∃ (k : Pocket) (mark : Pocket → Option Nat), t.pocket? p = some k ∧ t.bank.supply = .normal ∧ k.fault = .none
      ∧ k.lock = .closed ∧ u = State.startRule (State.setPocket { t with bank.queue := t.bank.queue ++ [p] } p
        (fun k => { k with lock := .queued why, reservedFor := mark k })) := by
  unfold State.openRequest at h
  split at h
  · cases h
  next k entry =>
  split at h
  · cases h
  next supply =>
  split at h
  · cases h
  next service =>
  split at h
  · cases h
  next closed =>
  have normal : t.bank.supply = .normal := by
    cases e : t.bank.supply with
    | normal => rfl
    | low => exact absurd e supply
  cases h
  exact ⟨k, fun k' => if why.purpose == .issue && k.reservedFor == station then k'.reservedFor else none, entry, normal,
    by simpa [Pocket.inService] using service, Lock.isClosed_eq_true.mp (by simpa using closed), rfl⟩

theorem KeepsDrive.openRequest (h : KeepsDrive s t) {why : Opening} {station : Option Nat} {p : Nat}
    (taken : t.openRequest p why station = .ok u) : KeepsDrive s u := by
  obtain ⟨k, mark, entry, supply, fault, -, rfl⟩ := State.openRequest_ok taken
  have notLow : t.bank.supply ≠ .low := by rw [supply]; decide
  have queued : KeepsDrive s { t with bank.queue := t.bank.queue ++ [p] } :=
    h.trans ⟨fun z => ⟨z.energised, fun low => absurd low notLow, z.noFault⟩, fun z => ⟨z.slots, z.held⟩⟩
  refine KeepsDrive.startRule (queued.setPocket (fun _ _ e => by cases e) (fun _ low => absurd low notLow)
    (fun k' entry' _ broken => ?_) (fun _ _ e => by cases e))
  obtain rfl := Option.some.inj (entry.symm.trans entry')
  exact absurd fault broken

end

end Sys2Proof.Machine
end

section
/-! SUPPORT. O7: the operations of the lock drive keep the driven-lock law and the pull-in law. -/

namespace Sys2Proof.Machine

section
variable {s t : State}

/-! ### Closing -/

theorem State.closeLock_pocket?_self (s : State) (p : Nat) :
    (s.closeLock p).pocket? p = (s.pocket? p).map (fun k => { k with lock := .closed }) := by
  unfold State.closeLock
  exact State.pocket?_setPocket_self _ p _

theorem KeepsDrive.markingPass (h : KeepsDrive s t) : KeepsDrive s t.markingPass := h.sameView t.markingPass_lockView

theorem KeepsDrive.post (h : KeepsDrive s t) {k : NoticeKind} {o a : BitVec 32} : KeepsDrive s (t.post k o a) :=
  h.sameView (t.post_lockView k o a)

theorem KeepsDrive.postChanged (h : KeepsDrive s t) {tool : ToolId} : KeepsDrive s (t.postChanged tool) :=
  h.sameView (t.postChanged_lockView tool)

theorem KeepsDrive.unstock (h : KeepsDrive s t) {tool : ToolId} {p : Nat} {st : RecordState} :
    KeepsDrive s (t.unstock tool p st) := h.sameView (t.unstock_lockView tool p st)

theorem KeepsDrive.setReading (h : KeepsDrive s t) {p : Nat} {r : Reading} : KeepsDrive s (t.setReading p r) :=
  h.sameView (t.setPocket_lockView p fun _ => ⟨rfl, rfl⟩)

theorem KeepsDrive.setOccupancy (h : KeepsDrive s t) {p : Nat} {o : Occupancy} : KeepsDrive s (t.setOccupancy p o) :=
  h.sameView (t.setPocket_lockView p fun _ => ⟨rfl, rfl⟩)

theorem KeepsDrive.report (h : KeepsDrive s t) {why : Opening} {p : Nat} {r : Report} :
    KeepsDrive s (t.report why p r) :=
  h.sameBank (t.report_bank why p r)

theorem KeepsDrive.endOperation (h : KeepsDrive s t) {i : PanelId} {o : OpOutcome} :
    KeepsDrive s (t.endOperation i o) :=
  h.sameBank (t.endOperation_bank i o)

theorem State.startOperation_bank (s : State) (i : PanelId) (kind : OpKind) (l : List Nat) :
    (s.startOperation i kind l).bank = s.bank := by
  unfold State.startOperation State.closeWindow State.postClosed
  split <;> simp

theorem KeepsDrive.startOperation (h : KeepsDrive s t) {i : PanelId} {kind : OpKind} {l : List Nat} :
    KeepsDrive s (t.startOperation i kind l) := h.sameBank (t.startOperation_bank i kind l)

theorem KeepsDrive.closeRequest (h : KeepsDrive s t) {p : Nat} : KeepsDrive s (t.closeRequest p) := by
  unfold State.closeRequest
  split
  · exact h
  · exact h.closeLock.report.startRule

theorem KeepsDrive.closeRequests (h : KeepsDrive s t) (l : List Nat) : KeepsDrive s (l.foldl State.closeRequest t) := by
  induction l generalizing t with
  | nil => exact h
  | cons p l ih => exact ih h.closeRequest

theorem KeepsDrive.openEach (h : KeepsDrive s t) {i : PanelId} {l : List Byte} :
    KeepsDrive s (Machine.openEach t i l).1 := by
  induction l generalizing t with
  | nil => exact h
  | cons b rest ih =>
    unfold Machine.openEach
    split
    · exact ih h
    · next taken => exact ih (h.openRequest taken)

/-! ### The course of a lock (R91, R92, R95, R98 to R101) -/

theorem KeepsDrive.latchFault (h : KeepsDrive s t) {p : Nat} {why : Opening} {f : LockFault} :
    KeepsDrive s (t.latchFault p why f) := by
  have latched : KeepsDrive s ((t.closeLock p).setPocket p (fun k => { k with fault := f, reservedFor := none })) := by
    refine h.closeLock.setPocket (fun _ _ => id) (fun _ _ _ => id) (fun k entry _ _ => ?_) (fun _ _ => id)
    rw [State.closeLock_pocket?_self, Option.map_eq_some_iff] at entry
    obtain ⟨k', -, rfl⟩ := entry
    rfl
  exact latched.post.report.startRule.markingPass

theorem KeepsDrive.endCourse (h : KeepsDrive s t) {p : Nat} {why : Opening} {r : Report} :
    KeepsDrive s (t.endCourse p why r) := h.closeLock.report.startRule.markingPass

theorem KeepsDrive.forcedRemoval (h : KeepsDrive s t) {p : Nat} {tool : ToolId} {lock : Lock} :
    KeepsDrive s (t.forcedRemoval p tool lock) := by
  unfold State.forcedRemoval
  dsimp only
  split
  · exact h.unstock.closeLock.postChanged.post.report.startRule.markingPass
  · exact h.unstock.postChanged.post.markingPass

theorem KeepsDrive.completeIssue (h : KeepsDrive s t) {p : Nat} {k : Pocket} {tool : ToolId} {why : Opening} :
    KeepsDrive s (t.completeIssue p k tool why) := by
  have taken : KeepsDrive s ((((t.closeLock p).unstock tool p .loose).postChanged tool).report why p .taken) :=
    h.closeLock.unstock.postChanged.report
  unfold State.completeIssue
  dsimp only
  split
  · split
    · exact (taken.sameView (State.serveReservation_lockView _ _ _)).startRule.markingPass
    · exact taken.startRule.markingPass
  · exact taken.startRule.markingPass

theorem KeepsDrive.removal (h : KeepsDrive s t) {p : Nat} {k : Pocket} : KeepsDrive s (t.removal p k) := by
  unfold State.removal State.heldRemoval State.serviceRemoval
  split
  · split
    · exact h.forcedRemoval
    · exact h.forcedRemoval
    all_goals split
    · exact h.completeIssue
    · exact h.unstock.postChanged.post.report.markingPass
    · exact h.completeIssue
    · exact h.unstock.postChanged.post.report.markingPass
  · exact (h.setOccupancy.sameView (State.withdrawCall_lockView _ _)).post
  · exact h

theorem KeepsDrive.insertion (h : KeepsDrive s t) {p : Nat} {lock : Lock} : KeepsDrive s (t.insertion p lock) := by
  unfold State.insertion
  split
  · exact h.post
  · exact h.closeLock.post.report.startRule.markingPass
  · exact h.closeLock.post.report.startRule.markingPass
  · split
    · exact h
    · exact h.endCourse

/-- A PULLING lock goes on to an energised phase. -/
theorem KeepsDrive.energise (h : KeepsDrive s t) {p : Nat} {k : Pocket} {lock : Lock} (entry : t.pocket? p = some k)
    (pulling : k.lock.isPulling = true) : KeepsDrive s (t.setPocket p (fun k => { k with lock := lock })) := by
  have only : ∀ k', t.pocket? p = some k' → k'.lock.isPulling = true := fun k' entry' => by
    rwa [Option.some.inj (entry'.symm.trans entry)]
  have moving : ∀ k', t.pocket? p = some k' → k'.lock ≠ .closed := fun k' entry' closed => by
    have := only k' entry'
    rw [closed] at this
    cases this
  refine h.setPocket (fun k' entry' _ => ?_) (fun k' _ entry' closed => absurd closed (moving k' entry'))
    (fun k' entry' law broken => absurd (law broken) (moving k' entry')) (fun k' entry' _ => only k' entry')
  have := only k' entry'
  cases e : k'.lock <;> simp_all [Lock.isPulling, Lock.energised]

theorem KeepsDrive.hold (h : KeepsDrive s t) {p : Nat} {k : Pocket} {why : Opening} (entry : t.pocket? p = some k)
    (pulling : k.lock.isPulling = true) : KeepsDrive s (t.hold p why) := by
  refine KeepsDrive.startRule (KeepsDrive.report (KeepsDrive.freePullIn (h.energise entry pulling) fun k' entry' => ?_))
  rw [State.pocket?_setPocket entry] at entry'
  cases entry'
  rfl

/-! ### Supply, faults and tables (R93, R94, R184) -/

/-- Where every lock is CLOSED and nothing waits while the supply is LOW, the laws hold. -/
theorem DriveLaw.of_closed (closed : ∀ k ∈ t.bank.pockets, k.lock = .closed)
    (queue : t.bank.supply = .low → t.bank.queue = []) :
    t.DriveLaw := by
  refine ⟨?_, fun low => ⟨queue low, closed⟩, fun k mem _ => closed k mem⟩
  have none : t.bank.energised = 0 := List.countP_eq_zero.mpr fun k mem => by simp [closed k mem, Lock.energised]
  omega

theorem PullInLaw.of_closed (closed : ∀ k ∈ t.bank.pockets, k.lock = .closed)
    (slots : t.bank.pullIns.length = Config.pullInSlots) : t.PullInLaw := by
  refine ⟨slots, fun p k entry pulling => ?_⟩
  rw [closed k (List.mem_of_getElem? (State.pocket?_eq_some_iff.mp entry).2)] at pulling
  cases pulling

theorem State.cutSupply_closed (s : State) : ∀ k ∈ s.cutSupply.bank.pockets, k.lock = .closed := fun k mem => by
  obtain ⟨_, -, rfl⟩ := List.mem_map.mp mem
  rfl

theorem KeepsDrive.cutSupply (s : State) : KeepsDrive s s.cutSupply :=
  ⟨fun _ => DriveLaw.of_closed s.cutSupply_closed fun _ => rfl,
    fun _ => PullInLaw.of_closed s.cutSupply_closed List.length_replicate⟩

theorem KeepsDrive.supplyLow (s : State) : KeepsDrive s s.supplyLow :=
  (KeepsDrive.cutSupply s).post.endOperation.endOperation.markingPass

theorem KeepsDrive.restoreSupply (s : State) : KeepsDrive s { s with bank.supply := .normal } :=
  ⟨fun z => ⟨z.energised, fun low => (nomatch low), z.noFault⟩, fun z => ⟨z.slots, z.held⟩⟩

theorem KeepsDrive.clearFault (h : KeepsDrive s t) {p : Nat} {k : Pocket} : KeepsDrive s (t.clearFault p k) := by
  have cleared : KeepsDrive s (t.setPocket p (fun k => { k with fault := .none })) :=
    h.setPocket (fun _ _ => id) (fun _ _ _ => id) (fun _ _ _ broken => absurd rfl broken) (fun _ _ => id)
  exact cleared.post.markingPass

theorem State.configure_closed (s : State) (c : NodeConfig) : ∀ k ∈ (s.configure c).bank.pockets, k.lock = .closed :=
  fun k mem => by
    rw [(List.mem_replicate.mp mem).2]
    rfl

theorem KeepsDrive.configure (s : State) (c : NodeConfig) : KeepsDrive s (s.configure c) :=
  ⟨fun z => DriveLaw.of_closed (s.configure_closed c) fun low => (z.noSupply low).1,
    fun z => PullInLaw.of_closed (s.configure_closed c) z.slots⟩

end

end Sys2Proof.Machine
end

section
/-! SUPPORT. O7: the operation law (R97, R112). A lock that is not CLOSED has a course: its opening, and whether it is
HOLDING; the law says that an operation holds each course. -/

namespace Sys2Proof.Machine

/-! ### Courses -/

/-- The opening of a lock that is not CLOSED, and whether the lock is HOLDING. -/
def Lock.course : Lock → Option (Opening × Bool)
  | .closed => none
  | .queued w | .pulling w _ => some (w, false)
  | .holding w _ => some (w, true)

theorem Lock.course_eq (l : Lock) : l.course = l.opening.map (fun w => (w, l.code == 3)) := by cases l <;> rfl

theorem Lock.course_pulled (l : Lock) : l.pulled.course = l.course := by cases l <;> rfl

/-- The course of a pocket's lock. -/
def State.course (s : State) (p : Nat) : Option (Opening × Bool) := (s.pocket? p).bind (·.lock.course)

/-- The operation of a course's panel has its purpose, and the pocket is OPEN in it while the lock is HOLDING, and
WAITING before. -/
def State.Holds (s : State) (p : Nat) (c : Opening × Bool) : Prop :=
  ∃ o q, (s.panel c.1.panel).operation = some o ∧ o.kind.purpose = c.1.purpose ∧ q ∈ o.pockets ∧ q.pocket = p
    ∧ q.status = if c.2 then .opened else .waiting

/-- No pocket twice, and one in an ISSUE and a RETURN. -/
def Operation.Single (o : Operation) : Prop :=
  (o.pockets.map (·.pocket)).Nodup ∧ (o.kind ≠ .service → ∃ q, o.pockets = [q])

section
variable {s t u : State} {p q : Nat} {c : Opening × Bool}

theorem State.course_eq_some_iff : s.course p = some c ↔
    ∃ k, s.pocket? p = some k ∧ k.lock.opening = some c.1 ∧ (k.lock.code == 3) = c.2 := by
  obtain ⟨why, b⟩ := c
  simp [State.course, Option.bind_eq_some_iff, Lock.course_eq]

theorem State.holdLaw_iff : s.HoldLaw ↔
    (∀ p c, s.course p = some c → s.Holds p c) ∧ ∀ i o, (s.panel i).operation = some o → o.Single := by
  constructor
  · refine fun h => ⟨fun p c course => ?_, h.single⟩
    obtain ⟨k, entry, opening, phase⟩ := State.course_eq_some_iff.mp course
    obtain ⟨o, q, op, purpose, mem, pocket, status⟩ := h.held p k c.1 entry opening
    refine ⟨o, q, op, purpose, mem, pocket, ?_⟩
    rw [status, ← phase]
    simp only [beq_iff_eq]
  · rintro ⟨held, single⟩
    refine ⟨fun p k why entry opening => ?_, single⟩
    obtain ⟨o, q, op, purpose, mem, pocket, status⟩ :=
      held p (why, k.lock.code == 3) (State.course_eq_some_iff.mpr ⟨k, entry, opening, rfl⟩)
    exact ⟨o, q, op, purpose, mem, pocket, by simpa only [beq_iff_eq] using status⟩

theorem State.HoldLaw.holds (h : s.HoldLaw) (course : s.course p = some c) : s.Holds p c :=
  (State.holdLaw_iff.mp h).1 p c course

/-- Tables that show the same courses. -/
theorem State.course_congr (same : t.bank.pockets.map (·.lock.course) = s.bank.pockets.map (·.lock.course)) (p : Nat) :
    t.course p = s.course p := by
  have shown : ∀ u : State, u.course p = ((u.pocket? p).map (·.lock.course)).join := fun u => by
    unfold State.course
    cases u.pocket? p <;> rfl
  rw [shown, shown, State.pocket?_map_congr same p]

theorem State.operation_congr (view : t.lockView = s.lockView) (i : PanelId) :
    (t.panel i).operation = (s.panel i).operation := by
  cases i
  · exact congrArg LockView.operationA view
  · exact congrArg LockView.operationB view

theorem State.course_sameView (view : t.lockView = s.lockView) (p : Nat) : t.course p = s.course p := by
  refine State.course_congr ?_ p
  have locks : t.bank.pockets.map (fun k => (k.lock, k.fault)) = s.bank.pockets.map (fun k => (k.lock, k.fault)) :=
    congrArg LockView.pockets view
  simpa only [List.map_map, Function.comp_def] using congrArg (List.map fun x : Lock × LockFault => x.1.course) locks

/-- The law is kept where courses end and the operations stay. -/
theorem State.HoldLaw.of_courses (h : s.HoldLaw) (courses : ∀ p c, t.course p = some c → s.course p = some c)
    (operations : ∀ i, (t.panel i).operation = (s.panel i).operation) : t.HoldLaw := by
  refine State.holdLaw_iff.mpr ⟨fun p c course => ?_, fun i o op => h.single i o ((operations i).symm.trans op)⟩
  obtain ⟨o, q, op, rest⟩ := h.holds (courses p c course)
  exact ⟨o, q, (operations _).trans op, rest⟩

theorem State.HoldLaw.sameView (h : s.HoldLaw) (view : t.lockView = s.lockView) : t.HoldLaw :=
  h.of_courses (fun p _ course => (State.course_sameView view p).symm.trans course) (State.operation_congr view)

/-! ### Courses under the operations of the drive -/

theorem State.course_setPocket_ne (other : q ≠ p) (f : Pocket → Pocket) : (s.setPocket p f).course q = s.course q := by
  simp only [State.course, State.pocket?_setPocket_ne other]

theorem State.course_setPocket_self (f : Pocket → Pocket) :
    (s.setPocket p f).course p = (s.pocket? p).bind (fun k => (f k).lock.course) := by
  rw [State.course, State.pocket?_setPocket_self, Option.bind_map]
  rfl

/-- The start rule moves QUEUED locks to PULLING, which is no change of a course. -/
theorem State.course_startRule (s : State) (p : Nat) : s.startRule.course p = s.course p :=
  State.course_congr (State.startRule_map (fun k => Lock.course_pulled k.lock) s) p

theorem State.course_closeLock (s : State) (p q : Nat) :
    (s.closeLock p).course q = if q = p then none else s.course q := by
  rw [State.closeLock_eq]
  by_cases here : q = p
  · subst here
    refine (State.course_setPocket_self (s := s) (p := q) _).trans ?_
    simp [Lock.course]
  · rw [if_neg here]
    exact State.course_setPocket_ne here _

theorem State.HoldLaw.startRule (h : s.HoldLaw) : s.startRule.HoldLaw :=
  h.of_courses (fun p _ course => (s.course_startRule p).symm.trans course)
    fun i => congrArg Panel.operation (State.panel_congr s.startRule_panels i)

theorem State.HoldLaw.closeLock (h : s.HoldLaw) (p : Nat) : (s.closeLock p).HoldLaw := by
  refine h.of_courses (fun q c course => ?_) fun i =>
    congrArg Panel.operation (State.panel_congr (s.closeLock_panels p) i)
  rw [State.course_closeLock] at course
  split at course
  · cases course
  · exact course

/-! ### Ended operations and reports (R97, R113) -/

@[simp] theorem State.panel_post (s : State) (k : NoticeKind) (o a : BitVec 32) (i : PanelId) :
    (s.post k o a).panel i = s.panel i := State.panel_congr (by simp) i

theorem State.endOperation_panel (s : State) (i : PanelId) (o : OpOutcome) :
    (s.endOperation i o).panel i = { s.panel i with operation := none } := by
  unfold State.endOperation
  split
  · next none => rw [← none]
  · simp

theorem State.endOperation_panel_ne {i j : PanelId} (h : j ≠ i) (o : OpOutcome) :
    (s.endOperation i o).panel j = s.panel j := by
  unfold State.endOperation
  split
  · rfl
  · rw [State.panel_post, State.panel_setPanel_ne h]

/-- What a report about one of its pockets makes of an operation. -/
def Operation.reported (o : Operation) (p : Nat) (r : Report) : Option Operation :=
  match r with
  | .opened | .serviceRemoved => some (o.after p r)
  | _ => if ((o.after p r).outcomeOn r).isSome then none else some (o.after p r)

theorem State.report_panel (s : State) (why : Opening) (p : Nat) (r : Report) :
    (s.report why p r).panel why.panel =
      { s.panel why.panel with operation := (s.panel why.panel).operation.bind (·.reported p r) } := by
  unfold State.report
  split
  · next op => rw [op, Option.bind_none, ← op]
  · next o op =>
    rw [op, Option.bind_some]
    dsimp only [Operation.reported]
    split
    · simp
    · simp
    · split
      · next outcome => simp [outcome, State.endOperation_panel]
      · next outcome => simp [outcome]

theorem State.report_panel_ne {why : Opening} {j : PanelId} (h : j ≠ why.panel) (p : Nat) (r : Report) :
    (s.report why p r).panel j = s.panel j := by
  have set : ∀ f, (s.setPanel why.panel f).panel j = s.panel j := State.panel_setPanel_ne h
  unfold State.report
  split
  · rfl
  dsimp only
  split
  · simp [set]
  · exact set _
  · split
    · rw [State.endOperation_panel_ne h, set]
    · exact set _

theorem State.course_report (s : State) (why : Opening) (p : Nat) (r : Report) (q : Nat) :
    (s.report why p r).course q = s.course q := State.course_congr (by simp) q

/-! ### Operations under a report -/

theorem OpPocket.after_pocket (k : OpPocket) (r : Report) : (k.after r).pocket = k.pocket := by cases r <;> rfl

section
variable {o o' : Operation} {r : Report} {x : OpPocket}

theorem Operation.after_numbers (o : Operation) (p : Nat) (r : Report) :
    (o.after p r).pockets.map (·.pocket) = o.pockets.map (·.pocket) := by
  rw [Operation.after, List.map_map]
  refine List.map_congr_left fun k _ => ?_
  dsimp only [Function.comp_apply]
  split
  · exact k.after_pocket r
  · rfl

theorem Operation.mem_after_of_ne (mem : x ∈ o.pockets) (other : x.pocket ≠ p) : x ∈ (o.after p r).pockets :=
  List.mem_map.mpr ⟨x, mem, if_neg other⟩

theorem Operation.Single.after (h : o.Single) (p : Nat) (r : Report) : (o.after p r).Single := by
  refine ⟨by rw [Operation.after_numbers]; exact h.1, fun kind => ?_⟩
  obtain ⟨x, one⟩ := h.2 kind
  exact ⟨_, by rw [Operation.after, one]; rfl⟩

theorem Operation.reported_eq (h : o.reported p r = some o') : o' = o.after p r := by
  unfold Operation.reported at h
  split at h
  · exact (Option.some.inj h).symm
  · exact (Option.some.inj h).symm
  · split at h
    · cases h
    · exact (Option.some.inj h).symm

/-- An operation with another pocket that runs goes on: it is a SERVICE operation. -/
theorem Operation.reported_of_other (single : o.Single) (own : ∃ y ∈ o.pockets, y.pocket = p) (mem : x ∈ o.pockets)
    (other : x.pocket ≠ p) (runs : x.status.isEnded = false) : o.reported p r = some (o.after p r) := by
  have service : o.kind = .service := by
    by_contra kind
    obtain ⟨z, one⟩ := single.2 kind
    obtain ⟨y, memY, rfl⟩ := own
    rw [one, List.mem_singleton] at mem memY
    exact other (by rw [mem, memY])
  have notAll : (o.after p r).pockets.all (·.status.isEnded) = false :=
    List.all_eq_false.mpr ⟨x, Operation.mem_after_of_ne mem other, by simp [runs]⟩
  have goesOn : (o.after p r).outcomeOn r = none := by
    unfold Operation.outcomeOn
    rw [show (o.after p r).kind = .service from service]
    simp [notAll]
  cases r <;> simp [Operation.reported, goesOn]

end

/-- A pocket that an operation holds a course with is WAITING or OPEN in it. -/
theorem isEnded_of_holds {x : OpPocket} {b : Bool} (status : x.status = if b then .opened else .waiting) :
    x.status.isEnded = false := by
  rw [status]
  cases b <;> rfl

/-- A report about a pocket whose lock is CLOSED: the other courses of the operation go on, or there were none. -/
theorem State.HoldLaw.report (h : s.HoldLaw) {why : Opening} {r : Report} (closed : s.course p = none)
    (own : ∀ o, (s.panel why.panel).operation = some o → ∃ y ∈ o.pockets, y.pocket = p) :
    (s.report why p r).HoldLaw := by
  have single := (State.holdLaw_iff.mp h).2
  refine State.holdLaw_iff.mpr ⟨fun q c course => ?_, fun i o op => ?_⟩
  · rw [State.course_report] at course
    obtain ⟨o, x, op, purpose, mem, rfl, status⟩ := h.holds course
    by_cases here : c.1.panel = why.panel
    · have other : x.pocket ≠ p := fun same => by
        rw [same, closed] at course
        cases course
      rw [here] at op
      refine ⟨o.after p r, x, ?_, purpose, Operation.mem_after_of_ne mem other, rfl, status⟩
      rw [here, State.report_panel, op]
      exact Operation.reported_of_other (single _ o op) (own o op) mem other (isEnded_of_holds status)
    · exact ⟨o, x, by rw [State.report_panel_ne here]; exact op, purpose, mem, rfl, status⟩
  · by_cases here : i = why.panel
    · subst here
      rw [State.report_panel] at op
      obtain ⟨o', before, reported⟩ := Option.bind_eq_some_iff.mp op
      rw [Operation.reported_eq reported]
      exact (single _ o' before).after p r
    · rw [State.report_panel_ne here] at op
      exact single i o op

/-- A lock is closed and its operation told (R95, R96, R101). -/
theorem State.HoldLaw.release (h : s.HoldLaw) (course : s.course p = some c)
    (view : t.lockView = (s.closeLock p).lockView)
    (r : Report) : (t.report c.1 p r).HoldLaw := by
  refine ((h.closeLock p).sameView view).report ?_ fun o op => ?_
  · rw [State.course_sameView view, State.course_closeLock, if_pos rfl]
  · obtain ⟨o', x, op', -, mem, pocket, -⟩ := h.holds course
    rw [State.operation_congr view, State.panel_congr (s.closeLock_panels p), op'] at op
    cases op
    exact ⟨x, mem, pocket⟩

/-- An operation without a course ends. -/
theorem State.HoldLaw.endOperation (h : s.HoldLaw) {i : PanelId} (idle : ∀ p c, s.course p = some c → c.1.panel ≠ i)
    (outcome : OpOutcome) : (s.endOperation i outcome).HoldLaw := by
  refine State.holdLaw_iff.mpr ⟨fun p c course => ?_, fun j o op => ?_⟩
  · rw [State.course_congr (s := s) (by rw [State.endOperation_bank])] at course
    obtain ⟨o, x, op, rest⟩ := h.holds course
    exact ⟨o, x, by rw [State.endOperation_panel_ne (idle p c course)]; exact op, rest⟩
  · by_cases here : j = i
    · subst here
      rw [State.endOperation_panel] at op
      cases op
    · rw [State.endOperation_panel_ne here] at op
      exact h.single j o op

/-- An operation starts on an idle panel, with the courses of its pockets (R112). -/
theorem State.HoldLaw.startOperation (h : s.HoldLaw) {i : PanelId} {kind : OpKind} {l : List Nat}
    (idle : (s.panel i).operation = none) (panels : t.panels = s.panels)
    (courses : ∀ p c, t.course p = some c →
      s.course p = some c ∨ p ∈ l ∧ c = ({ purpose := kind.purpose, panel := i }, false))
    (nodup : l.Nodup) (one : kind ≠ .service → ∃ p, l = [p]) : (t.startOperation i kind l).HoldLaw := by
  let begun : Operation := { kind := kind, pockets := l.map OpPocket.waiting }
  have view : (t.startOperation i kind l).lockView =
      (t.setPanel i (fun p => { p with operation := some begun })).lockView :=
    State.closeWindow_lockView _ i .used
  have here : ∀ f, ((t.setPanel i f).panel i) = f (t.panel i) := State.panel_setPanel_same t i
  refine State.HoldLaw.sameView (State.holdLaw_iff.mpr ⟨fun p c course => ?_, fun j o op => ?_⟩) view
  · rw [State.course_congr (s := t) (by rw [State.setPanel_bank])] at course
    obtain old | ⟨mem, rfl⟩ := courses p c course
    · obtain ⟨o, x, op, rest⟩ := h.holds old
      have other : c.1.panel ≠ i := fun same => by
        rw [same, idle] at op
        cases op
      exact ⟨o, x, by rw [State.panel_setPanel_ne other, State.panel_congr panels]; exact op, rest⟩
    · exact ⟨begun, OpPocket.waiting p, by simp, rfl, List.mem_map.mpr ⟨p, mem, rfl⟩, rfl, rfl⟩
  · by_cases same : j = i
    · subst same
      rw [here] at op
      cases op
      refine ⟨by simpa [List.map_map, Function.comp_def, OpPocket.waiting, begun] using nodup, fun notService => ?_⟩
      obtain ⟨p, rfl⟩ := one notService
      exact ⟨_, rfl⟩
    · rw [State.panel_setPanel_ne same, State.panel_congr panels] at op
      exact h.single j o op

end

end Sys2Proof.Machine
end

section
/-! SUPPORT. O7: the operations of the lock drive keep the operation law. -/

namespace Sys2Proof.Machine

section
variable {s t u : State} {p : Nat} {k : Pocket} {why : Opening} {c : Opening × Bool}

theorem State.course_of_entry (entry : s.pocket? p = some k) : s.course p = k.lock.course := by
  rw [State.course, entry, Option.bind_some]

/-- A change of a pocket that shows in no course. -/
theorem State.HoldLaw.setPocket (h : s.HoldLaw) {f : Pocket → Pocket}
    (keeps : ∀ k, s.pocket? p = some k → (f k).lock.course = k.lock.course) : (s.setPocket p f).HoldLaw := by
  refine h.of_courses (fun q _ course => ?_) fun i =>
    congrArg Panel.operation (State.panel_congr (s.setPocket_panels p f) i)
  by_cases here : q = p
  · subst here
    rw [State.course_setPocket_self] at course
    obtain ⟨k, entry, course⟩ := Option.bind_eq_some_iff.mp course
    rw [State.course_of_entry entry, ← keeps k entry]
    exact course
  · rwa [State.course_setPocket_ne here] at course

/-! ### The end of a course -/

theorem State.HoldLaw.markingPass (h : s.HoldLaw) : s.markingPass.HoldLaw := h.sameView s.markingPass_lockView

theorem State.HoldLaw.endCourse (h : s.HoldLaw) (course : s.course p = some c) (r : Report) :
    (s.endCourse p c.1 r).HoldLaw := (h.release course rfl r).startRule.markingPass

theorem State.HoldLaw.latchFault (h : s.HoldLaw) (course : s.course p = some c) (f : LockFault) :
    (s.latchFault p c.1 f).HoldLaw := by
  refine State.HoldLaw.markingPass (State.HoldLaw.startRule ?_)
  have closed : ((s.closeLock p).setPocket p (fun k => { k with fault := f, reservedFor := none })).HoldLaw :=
    (h.closeLock p).setPocket fun _ _ => rfl
  refine State.HoldLaw.report (closed.sameView (State.post_lockView _ _ _ _)) ?_ fun o op => ?_
  · rw [State.course_sameView (State.post_lockView _ _ _ _), State.course_setPocket_self, State.closeLock_pocket?_self,
      Option.bind_map]
    cases s.pocket? p <;> rfl
  · obtain ⟨o', x, op', -, mem, pocket, -⟩ := h.holds course
    rw [State.panel_congr (s := s) (by simp), op'] at op
    cases op
    exact ⟨x, mem, pocket⟩

theorem State.HoldLaw.forcedRemoval (h : s.HoldLaw) (entry : (s.pocket? p).map (·.lock) = some k.lock) (tool : ToolId) :
    (s.forcedRemoval p tool k.lock).HoldLaw := by
  have taken : (s.unstock tool p .missing).lockView = s.lockView := s.unstock_lockView tool p .missing
  unfold State.forcedRemoval
  dsimp only
  split
  · next why lock =>
    obtain ⟨k', entry, same⟩ := Option.map_eq_some_iff.mp entry
    have course : (s.unstock tool p .missing).course p = some (why, false) := by
      rw [State.course_sameView taken, State.course_of_entry entry, same, lock]
      rfl
    exact ((h.sameView taken).release course (by simp) .forced).startRule.markingPass
  · exact h.sameView (by simp)

theorem State.HoldLaw.completeIssue (h : s.HoldLaw) (course : s.course p = some c) (tool : ToolId) :
    (s.completeIssue p k tool c.1).HoldLaw := by
  have taken : ((((s.closeLock p).unstock tool p .loose).postChanged tool).report c.1 p .taken).HoldLaw :=
    h.release course (by simp) .taken
  unfold State.completeIssue
  dsimp only
  split
  · split
    · exact (taken.sameView (State.serveReservation_lockView _ _ _)).startRule.markingPass
    · exact taken.startRule.markingPass
  · exact taken.startRule.markingPass

/-- SERVICE_REMOVED changes no operation (R113). -/
theorem OpPocket.after_serviceRemoved (k : OpPocket) : k.after .serviceRemoved = k := rfl

theorem State.report_serviceRemoved_panels (s : State) (why : Opening) (p : Nat) :
    (s.report why p .serviceRemoved).panels = s.panels := by
  unfold State.report
  split
  · rfl
  · next o op =>
    have same : o.after p .serviceRemoved = o := by simp [Operation.after, OpPocket.after_serviceRemoved]
    dsimp only
    rw [same]
    obtain ⟨purpose, i⟩ := why
    cases i <;> simp only [State.setPanel, ← op] <;> rfl

theorem State.HoldLaw.serviceRemoval (h : s.HoldLaw) (tool : ToolId) : (s.serviceRemoval p tool why).HoldLaw := by
  have told : (((s.unstock tool p .loose).postChanged tool).post .serviceRemoved (num p) tool).HoldLaw :=
    h.sameView (by simp)
  exact (told.sameView (State.lockView_congr (State.report_bank ..)
    (State.report_serviceRemoved_panels _ why p))).markingPass

theorem State.HoldLaw.removal (h : s.HoldLaw) (entry : (s.pocket? p).map (·.lock) = some k.lock) :
    (s.removal p k).HoldLaw := by
  have course : ∀ c, k.lock.course = some c → s.course p = some c := fun c lock => by
    obtain ⟨k', entry, same⟩ := Option.map_eq_some_iff.mp entry
    rw [State.course_of_entry entry, same, lock]
  unfold State.removal State.heldRemoval
  split
  · next tool _ =>
    have open_ : ∀ why b, k.lock.course = some (why, b) →
        (if why.purpose = .issue then s.completeIssue p k tool why else s.serviceRemoval p tool why).HoldLaw := by
      intro why b lock
      split
      · exact h.completeIssue (course _ lock) tool
      · exact h.serviceRemoval tool
    split
    · exact h.forcedRemoval entry tool
    · exact h.forcedRemoval entry tool
    · next lock => exact open_ _ false (by rw [lock]; rfl)
    · next lock => exact open_ _ true (by rw [lock]; rfl)
  · exact h.sameView (((State.post_lockView _ _ _ _).trans (State.withdrawCall_lockView _ _)).trans
      (s.setPocket_lockView p fun _ => ⟨rfl, rfl⟩))
  · exact h

theorem State.HoldLaw.insertion (h : s.HoldLaw) (entry : (s.pocket? p).map (·.lock) = some k.lock) :
    (s.insertion p k.lock).HoldLaw := by
  have course : ∀ c, k.lock.course = some c → s.course p = some c := fun c lock => by
    obtain ⟨k', entry, same⟩ := Option.map_eq_some_iff.mp entry
    rw [State.course_of_entry entry, same, lock]
  have unexpected : ∀ why, k.lock.course = some (why, false) →
      (((((s.closeLock p).postInsert p k.lock).report why p .unexpectedInsert).startRule).markingPass).HoldLaw :=
    fun why lock => (h.release (course _ lock) (State.post_lockView _ _ _ _) .unexpectedInsert).startRule.markingPass
  unfold State.insertion
  split
  · exact h.sameView (State.post_lockView _ _ _ _)
  · next lock => exact unexpected _ (by rw [lock]; rfl)
  · next lock => exact unexpected _ (by rw [lock]; rfl)
  · next why d lock =>
    split
    · exact h
    · exact h.endCourse (course (why, true) (by rw [lock]; rfl)) .filled

/-! ### From pull-in to hold (R91) -/

theorem State.HoldLaw.hold (h : s.HoldLaw) {seen : Bool} (entry : s.pocket? p = some k)
    (pulling : k.lock = .pulling why seen) :
    (s.hold p why).HoldLaw := by
  have course : s.course p = some (why, false) := by rw [State.course_of_entry entry, pulling]; rfl
  refine State.HoldLaw.startRule ?_
  let v : State := State.freePullIn (s.setPocket p (fun k =>
    { k with lock := .holding why (after s.now (1000 * s.config.holdS)) })) p
  have panels : ∀ i, v.panel i = s.panel i := State.panel_congr (s.setPocket_panels p _)
  have here : v.course p = some (why, true) := by
    refine (State.course_setPocket_self (s := s) (p := p) _).trans ?_
    rw [entry]
    rfl
  have elsewhere : ∀ q, q ≠ p → v.course q = s.course q := fun q other => State.course_setPocket_ne other _
  have operation : ∀ o, (s.panel why.panel).operation = some o →
      ((v.report why p .opened).panel why.panel).operation = some (o.after p .opened) := fun o op => by
    rw [State.report_panel, panels, op]
    rfl
  refine State.holdLaw_iff.mpr ⟨fun q c course' => ?_, fun i o op => ?_⟩
  · rw [State.course_report] at course'
    by_cases same : q = p
    · subst same
      obtain ⟨o, x, op, purpose, mem, rfl, -⟩ := h.holds course
      cases here.symm.trans course'
      exact ⟨_, x.after .opened, operation o op, purpose, List.mem_map.mpr ⟨x, mem, if_pos rfl⟩, rfl, rfl⟩
    · rw [elsewhere q same] at course'
      obtain ⟨o, x, op, purpose, mem, rfl, status⟩ := h.holds course'
      by_cases panel : c.1.panel = why.panel
      · rw [panel] at op
        exact ⟨o.after p .opened, x, by rw [panel]; exact operation o op, purpose,
          Operation.mem_after_of_ne mem same, rfl, status⟩
      · exact ⟨o, x, by rw [State.report_panel_ne panel, panels]; exact op, purpose, mem, rfl, status⟩
  · by_cases panel : i = why.panel
    · subst panel
      rw [State.report_panel, panels] at op
      obtain ⟨o', before, reported⟩ := Option.bind_eq_some_iff.mp op
      rw [Operation.reported_eq reported]
      exact Operation.Single.after (h.single _ o' before) p .opened
    · rw [State.report_panel_ne panel, panels] at op
      exact h.single i o op

/-! ### Open requests (R89, R119) -/

/-- An open request that is taken gives its pocket, whose lock was CLOSED, a course. -/
theorem State.openRequest_course {station : Option Nat} (taken : s.openRequest p why station = .ok t) :
    s.course p = none ∧ t.panels = s.panels ∧ ∀ q, t.course q = if q = p then some (why, false) else s.course q := by
  obtain ⟨k, mark, entry, -, -, closed, rfl⟩ := State.openRequest_ok taken
  refine ⟨by rw [State.course_of_entry entry, closed]; rfl, by simp, fun q => ?_⟩
  rw [State.course_startRule]
  split
  · next here =>
    subst here
    refine (State.course_setPocket_self (s := { s with bank.queue := s.bank.queue ++ [q] }) _).trans ?_
    have entry' : ({ s with bank.queue := s.bank.queue ++ [q] } : State).pocket? q = some k := entry
    rw [entry']
    rfl
  · next other => exact State.course_setPocket_ne other _

/-- The pockets that a SERVICE_OPEN opens are distinct, their locks were CLOSED, and they alone gain a course. -/
theorem openEach_courses (s : State) (i : PanelId) (l : List Byte) :
    (openEach s i l).1.panels = s.panels ∧ (openEach s i l).2.1.Nodup ∧ (∀ q ∈ (openEach s i l).2.1, s.course q = none)
      ∧ ∀ q c, (openEach s i l).1.course q = some c →
          s.course q = some c ∨ q ∈ (openEach s i l).2.1 ∧ c = ({ purpose := .service, panel := i }, false) := by
  induction l generalizing s with
  | nil => exact ⟨rfl, List.nodup_nil, nofun, fun _ _ => .inl⟩
  | cons b rest ih =>
    unfold openEach
    split
    · exact ih s
    · next t taken =>
      obtain ⟨closed, panels, course⟩ := State.openRequest_course taken
      obtain ⟨panels', nodup, idle, course'⟩ := ih t
      have fresh : b.toNat ∉ (openEach t i rest).2.1 := fun mem => by
        have := idle _ mem
        rw [course, if_pos rfl] at this
        cases this
      refine ⟨panels'.trans panels, List.nodup_cons.mpr ⟨fresh, nodup⟩, fun q mem => ?_, fun q c last => ?_⟩
      · obtain rfl | mem := List.mem_cons.mp mem
        · exact closed
        · have := idle q mem
          rw [course] at this
          split at this
          · cases this
          · exact this
      · obtain old | ⟨mem, e⟩ := course' q c last
        · rw [course] at old
          split at old
          · next here => exact .inr ⟨List.mem_cons.mpr (.inl here), (Option.some.inj old).symm⟩
          · exact .inl old
        · exact .inr ⟨List.mem_cons_of_mem _ mem, e⟩

/-! ### CANCEL and the supply (R94, R96, R121) -/

theorem State.closeRequest_course (s : State) (p q : Nat) :
    (s.closeRequest p).course q = if q = p then none else s.course q := by
  unfold State.closeRequest
  split
  · next idle =>
    split
    · next here =>
      subst here
      cases e : s.course q with
      | none => rfl
      | some c =>
        obtain ⟨k, entry, opening, -⟩ := State.course_eq_some_iff.mp e
        rw [entry, Option.bind_some, opening] at idle
        cases idle
    · rfl
  · rw [State.course_startRule, State.course_report, State.course_closeLock]

theorem State.HoldLaw.closeRequest (h : s.HoldLaw) (p : Nat) : (s.closeRequest p).HoldLaw := by
  unfold State.closeRequest
  split
  · exact h
  · next why opening =>
    obtain ⟨k, entry, opening⟩ := Option.bind_eq_some_iff.mp opening
    have course : s.course p = some (why, k.lock.code == 3) := State.course_eq_some_iff.mpr ⟨k, entry, opening, rfl⟩
    exact (h.release course rfl .cancelled).startRule

theorem closeRequests_courses (s : State) (l : List Nat) (q : Nat) :
    (l.foldl State.closeRequest s).course q = if q ∈ l then none else s.course q := by
  induction l generalizing s with
  | nil => simp
  | cons p l ih =>
    rw [List.foldl_cons, ih, State.closeRequest_course]
    by_cases here : q = p <;> by_cases later : q ∈ l <;> simp [here, later]

theorem State.HoldLaw.closeRequests (h : s.HoldLaw) (l : List Nat) : (l.foldl State.closeRequest s).HoldLaw := by
  induction l generalizing s with
  | nil => exact h
  | cons p l ih => exact ih (h.closeRequest p)

/-- A pocket with a course is among the running ones of its operation. -/
theorem State.Holds.mem_running (h : s.Holds p c) : ∃ o, (s.panel c.1.panel).operation = some o ∧ p ∈ o.running := by
  obtain ⟨o, x, op, -, mem, rfl, status⟩ := h
  exact ⟨o, op, List.mem_map.mpr ⟨x, List.mem_filter.mpr ⟨mem, by rw [isEnded_of_holds status]; rfl⟩, rfl⟩⟩

/-- CANCEL closes every running pocket of its operation, and the operation ends without a course. -/
theorem State.HoldLaw.cancel (h : s.HoldLaw) {i : PanelId} {o : Operation} (op : (s.panel i).operation = some o) :
    ((o.running.foldl State.closeRequest s).endOperation i .cancelled).HoldLaw := by
  refine (h.closeRequests o.running).endOperation (fun p c course panel => ?_) .cancelled
  rw [closeRequests_courses] at course
  split at course
  · cases course
  · next other =>
    obtain ⟨o', op', running⟩ := (h.holds course).mem_running
    rw [panel, op] at op'
    cases op'
    exact other running

/-- Without a course the law speaks of the operations only. -/
theorem State.HoldLaw.of_closed (h : s.HoldLaw) (closed : ∀ k ∈ t.bank.pockets, k.lock = .closed)
    (panels : t.panels = s.panels) : t.HoldLaw := by
  refine h.of_courses (fun p c course => ?_) fun i => congrArg Panel.operation (State.panel_congr panels i)
  obtain ⟨k, entry, opening, -⟩ := State.course_eq_some_iff.mp course
  rw [closed k (List.mem_of_getElem? (State.pocket?_eq_some_iff.mp entry).2)] at opening
  cases opening

theorem State.HoldLaw.supplyLow (h : s.HoldLaw) : s.supplyLow.HoldLaw := by
  let cut := s.cutSupply.post .supplyLow 0 (num s.bank.moving)
  have closed : ∀ v : State, v.bank = cut.bank → ∀ p c, v.course p ≠ some c := fun v bank p c course => by
    obtain ⟨k, entry, opening, -⟩ := State.course_eq_some_iff.mp course
    have mem := List.mem_of_getElem? (State.pocket?_eq_some_iff.mp entry).2
    rw [bank, State.post_bank] at mem
    rw [s.cutSupply_closed k mem] at opening
    cases opening
  have lost : cut.HoldLaw := h.of_closed (by rw [State.post_bank]; exact s.cutSupply_closed) (State.post_panels ..)
  refine State.HoldLaw.markingPass (State.HoldLaw.endOperation (lost.endOperation ?_ _) ?_ _)
  · exact fun p c course => absurd course (closed cut rfl p c)
  · exact fun p c course => absurd course (closed _ (State.endOperation_bank ..) p c)

end

end Sys2Proof.Machine
end

section
/-! SUPPORT. O7: every step keeps the lock laws. -/

namespace Sys2Proof.Machine

/-- The second state meets each of the three lock laws that the first one does. -/
structure KeepsLocks (s t : State) : Prop extends KeepsDrive s t where
  hold : s.HoldLaw → t.HoldLaw

theorem KeepsLocks.refl (s : State) : KeepsLocks s s := ⟨.refl s, id⟩

theorem KeepsLocks.trans {s t u : State} (h : KeepsLocks s t) (h' : KeepsLocks t u) : KeepsLocks s u :=
  ⟨h.toKeepsDrive.trans h'.toKeepsDrive, h'.hold ∘ h.hold⟩

theorem KeepsLocks.of_sameView {s t : State} (view : t.lockView = s.lockView) : KeepsLocks s t :=
  ⟨(KeepsDrive.refl s).sameView view, fun z => z.sameView view⟩

theorem keepsLocks_hostCommand {c : Instr} {body : State → CommandResult} {s : State}
    (ok : Answers (KeepsLocks s) (body s)) : Yields (KeepsLocks s) (hostCommand c body s) :=
  yields_hostCommand (.refl s)
    (fun _ _ h _ => ⟨h.toKeepsDrive.sameBank rfl, fun z => (h.hold z).sameView rfl⟩) ok

section
variable (s : State)

/-! ### The port and the panels (R112 to R121, R184, R187) -/

theorem execReset_keepsLocks : Yields (KeepsLocks s) (execReset s) :=
  ⟨⟨fun _ => ⟨reset_driveLaw.energised, reset_driveLaw.noSupply, reset_driveLaw.noFault⟩,
    fun _ => ⟨reset_pullInLaw.slots, reset_pullInLaw.held⟩⟩, fun _ => ⟨reset_holdLaw.held, reset_holdLaw.single⟩⟩

theorem execConfigure_keepsLocks (payload : List Byte) : Yields (KeepsLocks s) (execConfigure payload s) :=
  keepsLocks_hostCommand (.unless fun _ => .unless fun _ => .unless fun _ =>
    ⟨.configure s _, fun z => z.of_closed (s.configure_closed _) rfl⟩)

/-- A panel that passes the common checks runs no operation (R112). -/
theorem State.cribCheck_idle {b : Byte} {inRange : Bool} {o : OpenPurpose} {i : PanelId}
    (h : s.cribCheck b inRange o = .ok i) : (s.panel i).operation = none := by
  unfold State.cribCheck at h
  split at h
  · cases h
  split at h
  · cases h
  split at h
  · cases h
  split at h
  · cases h
  split at h
  · cases h
  split at h
  · cases h
  next idle =>
  split at h
  · cases h
  · cases h
    simpa using idle

variable {s}

/-- An ISSUE or a RETURN with one pocket starts. -/
theorem KeepsLocks.startOne {t : State} {i : PanelId} {kind : OpKind} {p : Nat} {station : Option Nat}
    (idle : (s.panel i).operation = none)
    (taken : s.openRequest p { purpose := kind.purpose, panel := i } station = .ok t) :
    KeepsLocks s (t.startOperation i kind [p]) := by
  obtain ⟨-, panels, course⟩ := State.openRequest_course taken
  refine ⟨((KeepsDrive.refl s).openRequest taken).startOperation, fun z =>
    z.startOperation idle panels (fun q c after => ?_) (List.nodup_singleton p) fun _ => ⟨p, rfl⟩⟩
  rw [course] at after
  split at after
  · next here => exact .inr ⟨List.mem_singleton.mpr here, (Option.some.inj after).symm⟩
  · exact .inl after

theorem KeepsLocks.markingPass {t : State} (h : KeepsLocks s t) : KeepsLocks s t.markingPass :=
  ⟨h.toKeepsDrive.markingPass, fun z => (h.hold z).markingPass⟩

variable (s)

theorem execIssue_keepsLocks (b : Byte) (cls : BitVec 16) (n : Byte) : Yields (KeepsLocks s) (execIssue b cls n s) := by
  refine keepsLocks_hostCommand ?_
  unfold issueBody
  dsimp only
  split
  · exact trivial
  next checked =>
  split
  · exact trivial
  split
  · exact trivial
  next taken =>
  exact KeepsLocks.startOne (s.cribCheck_idle checked) taken

theorem execReturn_keepsLocks (b : Byte) (p : Option Byte) : Yields (KeepsLocks s) (execReturn b p s) := by
  refine keepsLocks_hostCommand ?_
  unfold returnBody
  split
  · exact trivial
  next checked =>
  split
  · exact trivial
  split
  · exact trivial
  next taken =>
  exact (KeepsLocks.startOne (kind := .ret) (s.cribCheck_idle checked) taken).markingPass

theorem execServiceOpen_keepsLocks (b : Byte) (l : List Byte) : Yields (KeepsLocks s) (execServiceOpen b l s) := by
  refine keepsLocks_hostCommand (.unless fun _ => ?_)
  split
  · exact trivial
  next i checked =>
  have drive := (KeepsDrive.refl s).openEach (i := i) (l := l)
  obtain ⟨panels, nodup, -, courses⟩ := openEach_courses s i l
  split
  · exact trivial
  next e =>
  rw [e] at drive panels nodup courses
  have started := fun z : s.HoldLaw =>
    z.startOperation (kind := .service) (s.cribCheck_idle checked) panels courses nodup (absurd rfl)
  exact KeepsLocks.markingPass ⟨drive.startOperation, started⟩

theorem execCancel_keepsLocks (b : Byte) : Yields (KeepsLocks s) (execCancel b s) := by
  refine keepsLocks_hostCommand (.unless fun _ => ?_)
  split
  · exact trivial
  refine .unless fun _ => ?_
  split
  · exact trivial
  · next op =>
    exact KeepsLocks.markingPass ⟨((KeepsDrive.refl s).closeRequests _).endOperation, fun z => z.cancel op⟩

/-! ### The pocket bank (R86 to R101) -/

theorem execClearPocketFault_keepsLocks (b : Byte) : Yields (KeepsLocks s) (execClearPocketFault b s) := by
  refine keepsLocks_hostCommand (.unless fun _ => ?_)
  split
  · exact trivial
  next k entry =>
  refine .unless fun _ => ?_
  split
  · exact KeepsLocks.refl s
  refine ⟨(KeepsDrive.refl s).clearFault, fun z => ?_⟩
  have cleared : (s.setPocket b.toNat (fun k => { k with fault := .none })).HoldLaw := z.setPocket fun _ _ => rfl
  exact State.HoldLaw.markingPass (cleared.sameView (State.post_lockView _ _ _ _))

/-- The lock of a pocket whose reading or occupancy changes. -/
theorem State.lock_setPocket {s : State} {p : Nat} {l : Lock} {f : Pocket → Pocket}
    (entry : (s.pocket? p).map (·.lock) = some l) (keeps : ∀ k, (f k).lock = k.lock) :
    ((s.setPocket p f).pocket? p).map (·.lock) = some l := by
  rw [State.pocket?_setPocket_self, Option.map_map, ← entry]
  exact congrArg (fun g => Option.map g (s.pocket? p)) (funext keeps)

/-- A reading settles, and what follows from it. -/
theorem KeepsLocks.read {p : Nat} {r : Reading} {t : State} (drive : KeepsDrive (s.setReading p r) t)
    (hold : (s.setReading p r).HoldLaw → t.HoldLaw) : KeepsLocks s t :=
  ⟨(KeepsDrive.refl s).setReading.trans drive, fun z => hold (z.sameView (s.setPocket_lockView p fun _ => ⟨rfl, rfl⟩))⟩

theorem execPocketFirstReading_keepsLocks (p : Nat) (high : Bool) :
    Yields (KeepsLocks s) (execPocketFirstReading p high s) := by
  unfold execPocketFirstReading
  split
  · exact KeepsLocks.refl s
  next k entry =>
  split
  · exact KeepsLocks.refl s
  dsimp only
  split
  · exact KeepsLocks.read s (.refl _) id
  split
  · exact KeepsLocks.read s (KeepsDrive.refl _).forcedRemoval
      fun z => z.forcedRemoval (State.lock_setPocket (congrArg _ entry) fun _ => rfl) _
  all_goals exact KeepsLocks.read s (KeepsDrive.refl _).setOccupancy (fun z => z.setPocket fun _ _ => rfl)

theorem execPocketRemoval_keepsLocks (p : Nat) : Yields (KeepsLocks s) (execPocketRemoval p s) := by
  unfold execPocketRemoval
  split
  · exact KeepsLocks.refl s
  next k entry =>
  split
  · exact KeepsLocks.read s (KeepsDrive.refl _).removal fun z =>
      z.removal (State.lock_setPocket (congrArg _ entry) fun _ => rfl)
  · exact KeepsLocks.refl s

theorem execPocketInsertion_keepsLocks (p : Nat) : Yields (KeepsLocks s) (execPocketInsertion p s) := by
  unfold execPocketInsertion
  split
  · exact KeepsLocks.refl s
  next k entry =>
  split
  · refine KeepsLocks.read s (KeepsDrive.refl _).setOccupancy.insertion fun z => ?_
    refine State.HoldLaw.insertion (z.setPocket fun _ _ => rfl) ?_
    exact State.lock_setPocket (State.lock_setPocket (congrArg _ entry) fun _ => rfl) fun _ => rfl
  · exact KeepsLocks.refl s

theorem execCurrentSeen_keepsLocks (p : Nat) : Yields (KeepsLocks s) (execCurrentSeen p s) := by
  unfold execCurrentSeen
  split
  · exact KeepsLocks.refl s
  next k entry =>
  split
  · next why seen lock =>
    refine ⟨(KeepsDrive.refl s).energise entry (by rw [lock]; rfl), fun z => ?_⟩
    refine z.setPocket fun k' entry' => ?_
    obtain rfl := Option.some.inj (entry.symm.trans entry')
    rw [lock]
    rfl
  · exact KeepsLocks.refl s

theorem execPullInExpiry_keepsLocks (p : Nat) : Yields (KeepsLocks s) (execPullInExpiry p s) := by
  unfold execPullInExpiry
  split
  · next k n w entry _ =>
    split
    · next why seen lock =>
      have course : s.course p = some (why, false) := by rw [State.course_of_entry entry, lock]; rfl
      split
      · exact KeepsLocks.refl s
      split
      · exact ⟨(KeepsDrive.refl s).hold entry (by rw [lock]; rfl), fun z => z.hold entry lock⟩
      · exact ⟨(KeepsDrive.refl s).latchFault, fun z => z.latchFault course .openLoad⟩
    · exact KeepsLocks.refl s
  · exact KeepsLocks.refl s

theorem execShortCurrent_keepsLocks (p : Nat) : Yields (KeepsLocks s) (execShortCurrent p s) := by
  unfold execShortCurrent
  split
  · exact KeepsLocks.refl s
  next k entry =>
  have latched : ∀ c, k.lock.course = some c → KeepsLocks s (s.latchFault p c.1 .short) := fun c lock =>
    ⟨(KeepsDrive.refl s).latchFault, fun z => z.latchFault ((State.course_of_entry entry).trans lock) .short⟩
  split
  · next why _ lock => exact latched (why, false) (by rw [lock]; rfl)
  · next why _ lock => exact latched (why, true) (by rw [lock]; rfl)
  · exact KeepsLocks.refl s

theorem execHoldExpiry_keepsLocks (p : Nat) : Yields (KeepsLocks s) (execHoldExpiry p s) := by
  unfold execHoldExpiry
  split
  · exact KeepsLocks.refl s
  next k entry =>
  split
  · next why d lock =>
    have course : s.course p = some (why, true) := by rw [State.course_of_entry entry, lock]; rfl
    split
    · exact ⟨(KeepsDrive.refl s).endCourse, fun z => z.endCourse course .holdExpired⟩
    · exact KeepsLocks.refl s
  · exact KeepsLocks.refl s

theorem execSupplyLow_keepsLocks : Yields (KeepsLocks s) (execSupplyLow s) := by
  unfold execSupplyLow
  split
  · exact ⟨.supplyLow s, fun z => z.supplyLow⟩
  · exact KeepsLocks.refl s

theorem execSupplyNormal_keepsLocks : Yields (KeepsLocks s) (execSupplyNormal s) := by
  unfold execSupplyNormal
  split
  · exact ⟨(KeepsDrive.restoreSupply s).post, fun z =>
      State.HoldLaw.sameView (s := { s with bank.supply := .normal }) ⟨z.held, z.single⟩ (State.post_lockView _ _ _ _)⟩
  · exact KeepsLocks.refl s

/-! ### Every command -/

theorem exec_keepsLocks (c : Instr) : Yields (KeepsLocks s) (exec c s) := by
  cases c with
  | reset => exact execReset_keepsLocks s
  | configure payload => exact execConfigure_keepsLocks s payload
  | issue b cls n => exact execIssue_keepsLocks s b cls n
  | returnTool b p => exact execReturn_keepsLocks s b p
  | serviceOpen b l => exact execServiceOpen_keepsLocks s b l
  | cancel b => exact execCancel_keepsLocks s b
  | clearPocketFault b => exact execClearPocketFault_keepsLocks s b
  | pocketFirstReading p high => exact execPocketFirstReading_keepsLocks s p high
  | pocketRemoval p => exact execPocketRemoval_keepsLocks s p
  | pocketInsertion p => exact execPocketInsertion_keepsLocks s p
  | currentSeen p => exact execCurrentSeen_keepsLocks s p
  | pullInExpiry p => exact execPullInExpiry_keepsLocks s p
  | shortCurrent p => exact execShortCurrent_keepsLocks s p
  | holdExpiry p => exact execHoldExpiry_keepsLocks s p
  | supplyLow => exact execSupplyLow_keepsLocks s
  | supplyNormal => exact execSupplyNormal_keepsLocks s
  | _ => exact (exec_sameLocks s _ rfl).mono fun _ => KeepsLocks.of_sameView

/-- Every step keeps the lock laws. -/
theorem step_keepsLocks {t : State} (h : step s = .next t) : KeepsLocks s t := by
  obtain rfl | rfl | ⟨c, rest, h⟩ | ⟨c, h⟩ := step_cases h
  · exact .refl t
  · exact .of_sameView rfl
  · exact KeepsLocks.trans (t := { s with pending := rest }) (.of_sameView rfl) ((exec_keepsLocks _ c).next h)
  · exact KeepsLocks.trans (t := { s with port := { s.port with commandSlot := none } }) (.of_sameView rfl)
      ((exec_keepsLocks _ c).next h)

end

end Sys2Proof.Machine

namespace Sys2Proof.Proofs

open Sys2Proof.Machine

/-- Settles O7: what drives a lock keeps the locks and the operations together, and no other command touches either. -/
theorem lockLawsKept : Obligations.LockLawsKept := by
  unfold Obligations.LockLawsKept
  exact ⟨fun s _ law h => (step_keepsLocks s h).drive law, fun s _ law h => (step_keepsLocks s h).pullIn law,
    fun _ => State.PullInLaw.pulling_le, fun s _ law h => (step_keepsLocks s h).hold law⟩

end Sys2Proof.Proofs
end

section
/-! O25: open requests and the start rule of the drive queue. -/

namespace Sys2Proof.Machine

section
variable {s : State}

/-- An open request by the supply, the fault and the lock phase (R89, R102). -/
theorem State.openRequest_cases {p : Nat} {k : Pocket} (entry : s.pocket? p = some k) (why : Opening)
    (station : Option Nat) :
    (s.bank.supply = .low → s.openRequest p why station = .error .supplyLow)
    ∧ (s.bank.supply = .normal → k.fault ≠ .none → s.openRequest p why station = .error .pocketFault)
    ∧ (s.bank.supply = .normal → k.fault = .none → k.lock ≠ .closed → s.openRequest p why station = .error .badState)
    ∧ (s.bank.supply = .normal → k.fault = .none → k.lock = .closed → s.openRequest p why station =
        .ok (State.startRule (State.setPocket { s with bank.queue := s.bank.queue ++ [p] } p (fun k' => { k' with
          lock := .queued why
          reservedFor := if why.purpose == .issue && k.reservedFor == station then k'.reservedFor else none })))) := by
  unfold State.openRequest
  rw [entry]
  refine ⟨fun supply => if_pos supply, fun supply fault => ?_, fun supply fault lock => ?_, fun supply fault lock => ?_⟩
  · simp [supply, Pocket.inService, fault]
  · simp [supply, Pocket.inService, fault, Lock.isClosed_eq_false.mpr lock]
  · simp [supply, Pocket.inService, fault, Lock.isClosed_eq_true.mpr lock]

theorem findIdx?_isNone_eq_none {α : Type} {l : List (Option α)} :
    l.findIdx? Option.isNone = none ↔ ∀ q ∈ l, q ≠ none := by
  rw [List.findIdx?_eq_none_iff]
  exact forall₂_congr fun q _ => by cases q <;> simp

/-- The lowest free place of a table. -/
theorem findIdx?_isNone_eq_some {α : Type} {l : List (Option α)} {i : Nat} (free : l[i]? = some none)
    (lowest : ∀ j, j < i → l[j]? ≠ some none) : l.findIdx? Option.isNone = some i := by
  obtain ⟨inside, e⟩ := List.getElem?_eq_some_iff.mp free
  refine List.findIdx?_eq_some_iff_getElem.mpr ⟨inside, by rw [e]; rfl, fun j before => ?_⟩
  have taken := lowest j before
  rw [List.getElem?_eq_getElem (before.trans inside)] at taken
  exact fun isNone => taken (congrArg some (Option.isNone_iff_eq_none.mp isNone))

theorem State.startRule_energised_le (h : s.bank.energised ≤ 8) : s.startRule.bank.energised ≤ 8 :=
  State.startRule_induction (P := fun u => u.bank.energised ≤ 8) h fun u p _ _ _ _ _ few =>
    (State.setPocket_energised_le_succ { u with bank := _ } p _).trans few

theorem Lock.opening_pulled (l : Lock) : l.pulled.opening = l.opening := by cases l <;> rfl

/-- The start rule changes no opening. -/
theorem State.startRule_opening {p : Nat} {k : Pocket} (entry : s.startRule.pocket? p = some k) :
    ∃ k', s.pocket? p = some k' ∧ k'.lock.opening = k.lock.opening := by
  have shown := State.pocket?_map_congr (State.startRule_map (g := (·.lock.opening))
    (fun k => Lock.opening_pulled k.lock) s) p
  rw [entry, Option.map_some, eq_comm] at shown
  exact Option.map_eq_some_iff.mp shown

end

end Sys2Proof.Machine

namespace Sys2Proof.Proofs

open Sys2Proof.Machine

/-- Settles O25: the branches of an open request, and the start rule as repeated starts from the head of the queue. -/
theorem openRequestsAndStartRule : Obligations.OpenRequestsAndStartRule := by
  unfold Obligations.OpenRequestsAndStartRule
  refine ⟨fun s p k why station entry => ?_, fun s => ?_, fun s => ⟨fun stops => ?_, ?_⟩⟩
  · obtain ⟨low, fault, moving, taken⟩ := State.openRequest_cases entry why station
    refine ⟨low, fault, moving, fun supply service closed => (taken supply service closed).trans ?_⟩
    rw [State.setPocket_congr (s := { s with bank.queue := s.bank.queue ++ [p] }) (k := k) entry]
    simp only [Bool.and_eq_true, beq_iff_eq]
  · obtain ⟨started, queue⟩ := s.startRule_queue_suffix
    refine ⟨started, queue.symm, ?_, s.startRule_frame, State.startRule_map (fun _ => rfl) s,
      fun _ _ entry _ => State.startRule_opening entry, State.startRule_energised_le⟩
    rw [← findIdx?_isNone_eq_none]
    exact s.startRule_stops
  · rw [← findIdx?_isNone_eq_none] at stops
    exact State.startRule_eq_self stops
  · intro p i rest k why queue free lowest few entry lock
    rw [State.startRule_started queue (findIdx?_isNone_eq_some free lowest) few, State.started]
    refine congrArg State.startRule (State.setPocket_congr (k := k) entry ?_)
    rw [Pocket.started, lock]
    rfl

end Sys2Proof.Proofs
end

section
/-! O27: CLEAR_POCKET_FAULT. -/

namespace Sys2Proof.Machine

/-- CLEAR_POCKET_FAULT's own rule at a pocket of a configured node (R93). -/
theorem clearPocketFaultBody_cases {s : State} {b : Byte} {k : Pocket} (configured : s.configured = true)
    (entry : s.pocket? b.toNat = some k) :
    (k.lock ≠ .closed → clearPocketFaultBody b s = .error .badState)
    ∧ (k.lock = .closed → k.fault = .none → clearPocketFaultBody b s = done s)
    ∧ (k.lock = .closed → k.fault ≠ .none → clearPocketFaultBody b s = done (s.clearFault b.toNat k)) := by
  unfold clearPocketFaultBody
  rw [entry]
  refine ⟨fun lock => ?_, fun lock fault => ?_, fun lock fault => ?_⟩
  · simp [configured, Lock.isClosed_eq_false.mpr lock]
  · simp [configured, Lock.isClosed_eq_true.mpr lock, Pocket.inService, fault]
  · simp [configured, Lock.isClosed_eq_true.mpr lock, Pocket.inService, fault]

end Sys2Proof.Machine

namespace Sys2Proof.Proofs

open Sys2Proof.Machine

/-- Settles O27: the branches of CLEAR_POCKET_FAULT's own rule. -/
theorem clearPocketFault : Obligations.ClearPocketFault := by
  unfold Obligations.ClearPocketFault
  refine fun b s free => ⟨fun fresh => ?_, fun known => ⟨fun outside => ?_, fun k entry => ?_⟩⟩
  · exact hostCommand_error free (by simp [clearPocketFaultBody, State.configured_eq_false fresh])
  · have none : s.pocket? b.toNat = none := State.pocket?_eq_none outside
    exact hostCommand_error free (by simp [clearPocketFaultBody, State.configured_eq_true known, none])
  · obtain ⟨moving, inService, faulted⟩ := clearPocketFaultBody_cases (State.configured_eq_true known) entry
    exact ⟨fun lock => hostCommand_error free (moving lock),
      fun lock fault => hostCommand_ok free (inService lock fault),
      fun lock fault => hostCommand_ok free (faulted lock fault)⟩

end Sys2Proof.Proofs
end

section
/-! O28: the supply events. -/

namespace Sys2Proof.Machine

section
variable {s t : State}

/-- An ending operation posts the same on equal panels, notices and counts. -/
theorem State.endOperation_notices_congr {i : PanelId} (panel : t.panel i = s.panel i) (notices : t.notices = s.notices)
    (now : t.now = s.now) (o : OpOutcome) : (t.endOperation i o).notices = (s.endOperation i o).notices := by
  unfold State.endOperation
  rw [panel]
  split
  · exact notices
  · exact State.post_notices_congr (by simpa using notices) (by simpa using now) _ _ _

/-- The panels' operations end SUPPLY_LOW with equal notices. -/
theorem State.supplyLow_notices (s : State) : s.supplyLow.notices =
    (((s.post .supplyLow 0 (num s.bank.moving)).endOperation .a .supplyLow).endOperation .b .supplyLow).notices := by
  have lost : (s.cutSupply.post .supplyLow 0 (num s.bank.moving)).notices =
      (s.post .supplyLow 0 (num s.bank.moving)).notices :=
    State.post_notices_congr (s := s) (t := s.cutSupply) rfl rfl _ _ _
  unfold State.supplyLow
  rw [State.markingPass_notices]
  refine State.endOperation_notices_congr ?_ ?_ (by simp [State.cutSupply]) _
  · rw [State.endOperation_panel_ne (by decide), State.endOperation_panel_ne (by decide), State.panel_post,
      State.panel_post]
    rfl
  · exact State.endOperation_notices_congr (by rw [State.panel_post, State.panel_post]; rfl) lost
      (by simp [State.cutSupply]) _

theorem State.supplyLow_plainPockets (s : State) :
    s.supplyLow.plainPockets = s.plainPockets.map (fun k => { k with lock := .closed }) := by
  unfold State.supplyLow
  rw [State.markingPass_plainPockets]
  simp [State.plainPockets, State.cutSupply, Function.comp_def]

theorem State.supplyLow_panel (s : State) (i : PanelId) :
    s.supplyLow.panel i = { s.panel i with operation := none } := by
  have ended : ∀ t : State, t.panels = s.panels →
      (((t.endOperation .a .supplyLow).endOperation .b .supplyLow).markingPass).panel i
        = { s.panel i with operation := none } := fun t panels => by
    rw [State.panel_congr (State.markingPass_panels _)]
    cases i
    · rw [State.endOperation_panel_ne (by decide), State.endOperation_panel, State.panel_congr panels]
    · rw [State.endOperation_panel, State.endOperation_panel_ne (by decide), State.panel_congr panels]
  exact ended _ (State.post_panels ..)

end

end Sys2Proof.Machine

namespace Sys2Proof.Proofs

open Sys2Proof.Machine

/-- Settles O28: a supply-low event cuts the drive and ends both operations in turn; a supply that comes back moves
nothing. -/
theorem supplyEvents : Obligations.SupplyEvents := by
  unfold Obligations.SupplyEvents
  refine ⟨fun s known pockets normal => ?_, fun s known pockets low => ?_⟩
  · have read : s.supplyRead = true := by
      simp [State.supplyRead, State.configured_eq_true known, Nat.pos_of_ne_zero pockets]
    refine ⟨s.supplyLow, by simp [exec, execSupplyLow, read, normal], ?_, ?_, ?_, s.supplyLow_plainPockets,
      s.supplyLow_panel .a, s.supplyLow_panel .b, s.supplyLow_notices, ?_, ?_, ?_, ?_, ?_, ?_⟩
    all_goals simp [State.supplyLow, State.cutSupply, Config.pullInSlots]
  · have read : s.supplyRead = true := by
      simp [State.supplyRead, State.configured_eq_true known, Nat.pos_of_ne_zero pockets]
    simp [exec, execSupplyNormal, read, low]

end Sys2Proof.Proofs
end

section
/-! SUPPORT. O26 and O29 to O31: what the start rule and the closing of a lock look at, the pockets that a marking pass
leaves unmarked, and the end of a pocket's course in its operation. -/

namespace Sys2Proof.Machine

/-! ### The drive queue and the pull-in slots depend on the locks alone (R90) -/

/-- A pocket's lock, and nothing else of it. -/
def Pocket.bare (k : Pocket) : Pocket := { Pocket.fresh with lock := k.lock }

/-- Two states that agree on what the start rule looks at, their pockets under a view. -/
structure SameDrive (g : Pocket → Pocket) (s t : State) : Prop where
  pockets : t.bank.pockets.map g = s.bank.pockets.map g
  queue : t.bank.queue = s.bank.queue
  pullIns : t.bank.pullIns = s.bank.pullIns
  now : t.now = s.now
  pullInMs : t.config.pullInMs = s.config.pullInMs

theorem map_modify_of_comm {α β : Type} {g : α → β} {f : α → α} {f' : β → β}
    (comm : ∀ a, g (f a) = f' (g a)) (l : List α)
    (i : Nat) : (l.modify i f).map g = (l.map g).modify i f' := by
  induction l generalizing i with
  | nil => simp
  | cons a l ih => cases i <;> simp [comm, ih]

section
variable {g : Pocket → Pocket} {s t : State} {p : Nat}

/-- A change of a pocket that its view follows. -/
theorem SameDrive.setPocket (h : SameDrive g s t) {f f' f'' : Pocket → Pocket} (left : ∀ k, g (f k) = f'' (g k))
    (right : ∀ k, g (f' k) = f'' (g k)) : SameDrive g (s.setPocket p f) (t.setPocket p f') := by
  refine ⟨?_, by simpa using h.queue, ?_, by simpa using h.now, by simpa using h.pullInMs⟩
  · unfold State.setPocket
    split
    · exact h.pockets
    · dsimp only
      rw [map_modify_of_comm right, map_modify_of_comm left, h.pockets]
  · rw [State.setPocket_pullIns, State.setPocket_pullIns]
    exact h.pullIns

theorem SameDrive.started (h : SameDrive g s t) (comm : ∀ k, g k.started = (g k).started) (rest : List Nat) (i : Nat) :
    SameDrive g (s.started p rest i) (t.started p rest i) := by
  unfold State.started
  refine SameDrive.setPocket ?_ comm comm
  exact ⟨h.pockets, rfl, by simp only [h.pullIns, h.now, h.pullInMs], h.now, h.pullInMs⟩

/-- The start rule treats states that agree alike. -/
theorem SameDrive.startUpTo (h : SameDrive g s t) (lock : ∀ k, (g k).lock = k.lock)
    (comm : ∀ k, g k.started = (g k).started) (n : Nat) : SameDrive g (startUpTo n s) (startUpTo n t) := by
  have energised : ∀ u : State, u.bank.energised = (u.bank.pockets.map g).countP (·.lock.energised) := fun u => by
    rw [List.countP_map]
    simp only [Function.comp_def, lock]
    rfl
  induction n generalizing s t with
  | zero => exact h
  | succ n ih =>
    have same : t.bank.energised = s.bank.energised := by rw [energised, energised, h.pockets]
    unfold Machine.startUpTo
    obtain ⟨none, stops⟩ | ⟨p, rest, i, queue, free, few, one⟩ := s.startOne_cases
    · have none' : t.startOne = .none := State.startOne_eq_none (by rwa [h.queue, h.pullIns, same])
      rw [none, none']
      exact h
    · rw [one, State.startOne_eq (h.queue.trans queue) (by rw [h.pullIns]; exact free) (same.trans_lt few)]
      exact ih (h.started comm rest i)

theorem SameDrive.startRule (h : SameDrive Pocket.bare s t) : SameDrive Pocket.bare s.startRule t.startRule := by
  unfold State.startRule
  rw [h.queue]
  refine h.startUpTo (fun _ => rfl) (fun k => ?_) _
  rfl

/-- The bank after the start rule depends on the bank, the count and the pull-in time. -/
theorem State.startRule_bank_congr (bank : t.bank = s.bank) (now : t.now = s.now) (config : t.config = s.config) :
    t.startRule.bank = s.startRule.bank := by
  have h : SameDrive id s t := ⟨by rw [bank], by rw [bank], by rw [bank], now, by rw [config]⟩
  have ruled : SameDrive id s.startRule t.startRule := by
    unfold State.startRule
    rw [bank]
    exact h.startUpTo (fun _ => rfl) (fun _ => rfl) _
  have supply : t.startRule.bank.supply = s.startRule.bank.supply := by
    rw [State.startRule_supply, State.startRule_supply, bank]
  have pockets : t.startRule.bank.pockets = s.startRule.bank.pockets := by simpa using ruled.pockets
  rw [show t.startRule.bank = ⟨_, _, _, _⟩ from rfl, pockets, ruled.queue, ruled.pullIns, supply]

theorem SameDrive.trans {u : State} (h : SameDrive g s t) (h' : SameDrive g t u) : SameDrive g s u :=
  ⟨h'.pockets.trans h.pockets, h'.queue.trans h.queue, h'.pullIns.trans h.pullIns, h'.now.trans h.now,
    h'.pullInMs.trans h.pullInMs⟩

theorem SameDrive.refl (g : Pocket → Pocket) (s : State) : SameDrive g s s := ⟨rfl, rfl, rfl, rfl, rfl⟩

theorem SameDrive.of_view (view : t.lockView = s.lockView) (now : t.now = s.now) (config : t.config = s.config) :
    SameDrive Pocket.bare s t := by
  have locks : t.bank.pockets.map (fun k => (k.lock, k.fault)) = s.bank.pockets.map (fun k => (k.lock, k.fault)) :=
    congrArg LockView.pockets view
  have bare := congrArg (List.map fun x : Lock × LockFault => ({ Pocket.fresh with lock := x.1 } : Pocket)) locks
  rw [List.map_map, List.map_map] at bare
  exact ⟨bare, congrArg LockView.queue view, congrArg LockView.pullIns view, now, by rw [config]⟩

/-- A change of a pocket but for its lock. -/
theorem SameDrive.keepLock {f : Pocket → Pocket} (h : SameDrive Pocket.bare s t) (keeps : ∀ k, (f k).lock = k.lock) :
    SameDrive Pocket.bare s (t.setPocket p f) := by
  refine h.trans ⟨State.setPocket_map fun k => ?_, by simp, State.setPocket_pullIns _ _ _, by simp, by simp⟩
  rw [Pocket.bare, keeps, Pocket.bare]

theorem SameDrive.post (h : SameDrive Pocket.bare s t) {k : NoticeKind} {o a : BitVec 32} :
    SameDrive Pocket.bare s (t.post k o a) :=
  h.trans ⟨by simp, by simp, by simp, by simp, by simp⟩

theorem SameDrive.closeLock (h : SameDrive Pocket.bare s t) :
    SameDrive Pocket.bare (s.closeLock p) (t.closeLock p) := by
  unfold State.closeLock
  refine SameDrive.setPocket (f'' := fun _ => { Pocket.fresh with lock := .closed }) ?_ (fun _ => rfl) fun _ => rfl
  exact ⟨h.pockets, by simp only [h.queue], by simp only [h.pullIns], h.now, h.pullInMs⟩

end

/-! ### Pockets that a marking pass leaves unmarked (R169) -/

/-- A pocket that no row may mark: it is out of service, or holds no tool. -/
def Pocket.Barred (k : Pocket) : Prop := k.fault ≠ .none ∨ ∀ tool, k.occupancy ≠ .held tool

theorem qualifies_of_barred {k : Pocket} (h : k.Barred) (records : List ToolRecord) (cls : Nat) :
    qualifies records cls k = false := by
  obtain fault | occupancy := h
  · simp [qualifies, Pocket.inService, fault]
  · have empty : recordIn records k = none := by
      unfold recordIn
      split
      · next tool held => exact absurd held (occupancy tool)
      · rfl
    simp [qualifies, holdsFit, empty]

theorem pickMost_mem {α : Type} {key : α → Nat} {l : List α} {a : α} (h : pickMost key l = some a) : a ∈ l := by
  induction l generalizing a with
  | nil => cases h
  | cons b rest ih =>
    unfold pickMost at h
    split at h
    · cases h
      exact List.mem_cons_self
    · next c picked =>
      split at h <;> cases h
      · exact List.mem_cons_of_mem _ (ih picked)
      · exact List.mem_cons_self

section
variable {records : List ToolRecord} {row : Reservation} {pockets : List Pocket} {j : Nat} {k : Pocket}

/-- A mark goes to another pocket. -/
theorem addMark_entry (entry : pockets[j]? = some k) (unfit : qualifies records row.cls k = false) :
    (addMark records row pockets)[j]? = some k := by
  unfold addMark
  split
  · exact entry
  · next c picked =>
    obtain ⟨mem, fits⟩ := List.mem_filter.mp (pickMost_mem picked)
    obtain ⟨-, source⟩ := List.mk_mem_zipIdx_iff_le_and_getElem?_sub.mp mem
    have other : c.2 - 1 ≠ j := fun here => by
      rw [here, entry] at source
      cases source
      rw [unfit] at fits
      cases fits
    rw [List.getElem?_modify_ne _ _ other, entry]

/-- An unmarked pocket has no mark to lose. -/
theorem dropMark_entry (entry : pockets[j]? = some k) (unmarked : k.reservedFor = none) :
    (dropMark records row pockets)[j]? = some k := by
  unfold dropMark
  split
  · exact entry
  · next c _ =>
    by_cases here : c.2 - 1 = j
    · obtain ⟨presence, occupancy, lock, fault, mark⟩ := k
      cases unmarked
      rw [here, List.getElem?_modify_eq, entry]
      rfl
    · rw [List.getElem?_modify_ne _ _ here, entry]

theorem times_induction {α : Type} {P : α → Prop} {f : α → α} (keeps : ∀ a, P a → P (f a)) (n : Nat) {a : α} (h : P a) :
    P (times f n a) := by
  induction n generalizing a with
  | zero => exact h
  | succ n ih => exact ih (keeps a h)

theorem passRow_entry (entry : pockets[j]? = some k) (unmarked : k.reservedFor = none) (barred : k.Barred) :
    (passRow records pockets row)[j]? = some k := by
  unfold passRow
  refine times_induction (P := fun l : List Pocket => l[j]? = some k)
    (fun _ entry => addMark_entry entry (qualifies_of_barred barred _ _)) _ ?_
  exact times_induction (P := fun l : List Pocket => l[j]? = some k)
      (fun _ entry => dropMark_entry entry unmarked) _ entry

end

theorem State.sweep_barred {s : State} {p : Nat} {k : Pocket} (entry : s.pocket? p = some k)
    (unmarked : k.reservedFor = none) (barred : k.Barred) : s.sweep.pocket? p = some k := by
  obtain ⟨pos, entry⟩ := State.pocket?_eq_some_iff.mp entry
  refine State.pocket?_eq_some_iff.mpr ⟨pos, ?_⟩
  unfold State.sweep
  dsimp only
  generalize s.bank.pockets = pockets at entry
  induction s.reservations generalizing pockets with
  | nil => exact entry
  | cons row rows ih => exact ih _ (passRow_entry entry unmarked barred)

/-- A marking pass leaves an unmarked pocket as it is where no row may mark it. -/
theorem State.markingPass_barred {s : State} {p : Nat} {k : Pocket} (entry : s.pocket? p = some k)
    (unmarked : k.reservedFor = none) (barred : k.Barred) : s.markingPass.pocket? p = some k :=
  State.sweep_barred (State.sweep_barred entry unmarked barred) unmarked barred

end Sys2Proof.Machine
end

section
/-! SUPPORT. O26 and O29 to O31: the end of a pocket's course, told to its operation (R97, R113), and what follows. -/

namespace Sys2Proof.Machine

/-! ### The operation's end (R113) -/

/-- Whether a report about one pocket ends that pocket's course. -/
def Report.closing : Report → Bool
  | .opened | .serviceRemoved | .supplyLow | .cancelled => false
  | _ => true

theorem OpPocket.after_closing {r : Report} (closing : r.closing = true) (x : OpPocket) :
    x.after r = { x with status := .ended r } := by
  cases r with
  | opened | serviceRemoved => cases closing
  | _ => rfl

section
variable {s t u posted : State} {why : Opening} {o : Operation} {p : Nat} {r : Report} {outcome : OpOutcome}

theorem Operation.after_closing (closing : r.closing = true) : (o.after p r).pockets =
    o.pockets.map (fun q => if q.pocket = p then { q with status := .ended r } else q) := by
  simp only [Operation.after, OpPocket.after_closing closing]

theorem Operation.reported_closing (closing : r.closing = true) :
    o.reported p r = if ((o.after p r).outcomeOn r).isSome then none else some (o.after p r) := by
  cases r with
  | opened | serviceRemoved => cases closing
  | _ => rfl

/-- A report that ends its operation posts the operation's notice. -/
theorem State.report_notices_ended (op : (s.panel why.panel).operation = some o) (closing : r.closing = true)
    (ends : (o.after p r).outcomeOn r = some outcome) : (s.report why p r).notices =
      (s.post ((o.after p r).doneNotice outcome).1 (num (panelCode why.panel))
          ((o.after p r).doneNotice outcome).2).notices := by
  unfold State.report
  rw [op]
  dsimp only
  split
  · cases closing
  · cases closing
  · rw [ends]
    unfold State.endOperation
    rw [State.panel_setPanel_same]
    exact State.post_notices_congr (by simp) (by simp) _ _ _

/-- A report that leaves its operation running posts nothing. -/
theorem State.report_notices_running (op : (s.panel why.panel).operation = some o) (closing : r.closing = true)
    (runs : (o.after p r).outcomeOn r = none) : (s.report why p r).notices = s.notices := by
  unfold State.report
  rw [op]
  dsimp only
  split
  · cases closing
  · cases closing
  · rw [runs]
    exact State.setPanel_notices ..

/-- The pocket of an ISSUE or a RETURN that has a course is its only one. -/
theorem Operation.pocket_of_single (single : o.Single) (kind : o.kind ≠ .service)
    (own : ∃ x ∈ o.pockets, x.pocket = p) (r : Report) : (o.after p r).pocket = p := by
  obtain ⟨x, one⟩ := single.2 kind
  obtain ⟨y, mem, rfl⟩ := own
  rw [one, List.mem_singleton] at mem
  subst mem
  simp [Operation.pocket, Operation.after, one, OpPocket.after_pocket]

/-- An operation's end: it is gone from its panel, and its notice follows the ones posted. -/
def OperationEnded (s posted t : State) (i : PanelId) (o : Operation) (outcome : OpOutcome) : Prop :=
  t.panel i = { s.panel i with operation := none }
    ∧ t.notices = (posted.post (o.doneNotice outcome).1 (num (panelCode i)) (o.doneNotice outcome).2).notices

theorem Operation.outcomeOn_service (kind : o.kind = .service) (closing : r.closing = true) : o.outcomeOn r =
    if o.pockets.all (·.status.isEnded) then some .completed else none := by
  unfold Operation.outcomeOn
  rw [kind]
  cases r with
  | supplyLow | cancelled => cases closing
  | _ => simp

/-- The end of a pocket's course, from what its report makes of the operation by the kind of it (R113, R120). -/
theorem pocketEnds_of_outcome {issue ret : Option Nat} (closing : r.closing = true) (single : o.Single)
    (own : ∃ x ∈ o.pockets, x.pocket = p)
    (ended : ∀ outcome, (o.after p r).outcomeOn r = some outcome →
      OperationEnded s posted t why.panel (o.after p r) outcome)
    (runs : (o.after p r).outcomeOn r = none →
      t.panel why.panel = { s.panel why.panel with operation := some (o.after p r) } ∧ t.notices = posted.notices)
    (issued : ∀ code, issue = some code → ∃ outcome, issueOutcome r = some outcome ∧ outcome.code = code)
    (returned : ∀ code, ret = some code → ∃ outcome, returnOutcome r = some outcome ∧ outcome.code = code) :
    PocketEnds s posted t why.panel o p r issue ret := by
  have sameKind : (o.after p r).kind = o.kind := rfl
  refine ⟨fun code h purpose => ?_, fun code h kind => ?_, fun kind => ?_⟩
  · obtain ⟨outcome, out, rfl⟩ := issued code h
    cases kind : o.kind with
    | ret | service =>
      rw [kind] at purpose
      cases purpose
    | issue cls station =>
      have pocket := Operation.pocket_of_single single (by rw [kind]; nofun) own r
      have done := ended outcome (by rw [Operation.outcomeOn, sameKind, kind]; exact out)
      rwa [OperationEnded, Operation.doneNotice, sameKind, kind, pocket] at done
  · obtain ⟨outcome, out, rfl⟩ := returned code h
    have pocket := Operation.pocket_of_single single (by rw [kind]; nofun) own r
    have done := ended outcome (by rw [Operation.outcomeOn, sameKind, kind]; exact out)
    rwa [OperationEnded, Operation.doneNotice, sameKind, kind, pocket] at done
  · have on := Operation.outcomeOn_service (sameKind.trans kind) closing
    rw [← Operation.after_closing closing]
    refine ⟨fun all => ?_, fun ⟨x, mem, goesOn⟩ => runs (on.trans (if_neg fun all => ?_))⟩
    · have done := ended .completed (on.trans (if_pos (List.all_eq_true.mpr all)))
      rwa [OperationEnded, Operation.doneNotice, sameKind, kind] at done
    · rw [List.all_eq_true.mp all x mem] at goesOn
      cases goesOn

/-- A report about a pocket that had a course ends it in its operation. -/
theorem pocketEnds_of_report {issue ret : Option Nat} {b : Bool} (law : s.HoldLaw) (course : s.course p = some (why, b))
    (op : (s.panel why.panel).operation = some o) (panels : u.panels = s.panels)
    (notices : u.notices = posted.notices) (now : u.now = posted.now) (closing : r.closing = true)
    (told : t.panel why.panel = (u.report why p r).panel why.panel) (heard : t.notices = (u.report why p r).notices)
    (issued : ∀ code, issue = some code → ∃ outcome, issueOutcome r = some outcome ∧ outcome.code = code)
    (returned : ∀ code, ret = some code → ∃ outcome, returnOutcome r = some outcome ∧ outcome.code = code) :
    PocketEnds s posted t why.panel o p r issue ret := by
  have panel : u.panel why.panel = s.panel why.panel := State.panel_congr panels _
  have op' : (u.panel why.panel).operation = some o := by rw [panel, op]
  have own : ∃ x ∈ o.pockets, x.pocket = p := by
    obtain ⟨o', x, here, -, mem, pocket, -⟩ := law.holds course
    cases op.symm.trans here
    exact ⟨x, mem, pocket⟩
  refine pocketEnds_of_outcome closing (law.single _ o op) own (fun outcome ends => ⟨?_, ?_⟩) (fun runs => ⟨?_, ?_⟩)
    issued returned
  · rw [told, State.report_panel, op', panel, Option.bind_some, Operation.reported_closing closing, ends]
    rfl
  · rw [heard, State.report_notices_ended op' closing ends]
    exact State.post_notices_congr notices now _ _ _
  · rw [told, State.report_panel, op', panel, Option.bind_some, Operation.reported_closing closing, runs]
    rfl
  · rw [heard, State.report_notices_running op' closing runs, notices]

end

/-! ### A lock closes, its panel is told, and the start rule and the marking pass follow -/

/-- What follows the closing of a lock (R92, R95, R98, R101). -/
def State.settle (s : State) (why : Opening) (p : Nat) (r : Report) : State :=
  ((s.report why p r).startRule).markingPass

section
variable {s u : State} {p : Nat} {k : Pocket}

theorem State.pocket?_report (s : State) (why : Opening) (p : Nat) (r : Report) (q : Nat) :
    (s.report why p r).pocket? q = s.pocket? q := State.pocket?_congr (by simp) q

theorem Pocket.started_of_closed (closed : k.lock = .closed) : k.started = k := by
  obtain ⟨presence, occupancy, lock, fault, mark⟩ := k
  cases closed
  rfl

/-- The pocket of a closed lock keeps all but its mark. -/
theorem State.settle_pocket? (entry : s.pocket? p = some k) (closed : k.lock = .closed) (why : Opening) (r : Report) :
    ∃ m, (s.settle why p r).pocket? p = some { k with reservedFor := m } := by
  refine State.pocket?_markingPass (State.startRule_pocket? ?_ (Pocket.started_of_closed closed))
  rw [State.pocket?_report, entry]

/-- The pocket of a closed lock that no row may mark stays as it is. -/
theorem State.settle_barred (entry : s.pocket? p = some k) (closed : k.lock = .closed) (unmarked : k.reservedFor = none)
    (barred : k.Barred) (why : Opening) (r : Report) : (s.settle why p r).pocket? p = some k := by
  refine State.markingPass_barred (State.startRule_pocket? ?_ (Pocket.started_of_closed closed)) unmarked barred
  rw [State.pocket?_report, entry]

theorem State.settle_panel (s : State) (why : Opening) (p : Nat) (r : Report) (i : PanelId) :
    (s.settle why p r).panel i = (s.report why p r).panel i := State.panel_congr (by simp [State.settle]) i

theorem State.settle_notices (s : State) (why : Opening) (p : Nat) (r : Report) :
    (s.settle why p r).notices = (s.report why p r).notices := by simp [State.settle]

theorem SameDrive.report (h : SameDrive Pocket.bare s u) (why : Opening) (p : Nat) (r : Report) :
    SameDrive Pocket.bare s (u.report why p r) :=
  h.trans ⟨by simp, by simp, by simp, by simp, by simp⟩

/-- The drive is as the closing of the lock and the start rule leave it. -/
theorem State.settle_driven (h : SameDrive Pocket.bare s u) (why : Opening) (p : Nat) (r : Report) :
    (u.settle why p r).bank.queue = s.startRule.bank.queue
      ∧ (u.settle why p r).bank.pullIns = s.startRule.bank.pullIns :=
  ⟨(h.report why p r).startRule.queue, (h.report why p r).startRule.pullIns⟩

@[simp] theorem State.closeLock_supply (s : State) (p : Nat) : (s.closeLock p).bank.supply = s.bank.supply := by
  unfold State.closeLock
  exact State.setPocket_supply _

theorem State.closeLock_queue (s : State) (p : Nat) : (s.closeLock p).bank.queue = s.bank.queue.filter (· != p) := by
  rw [State.closeLock_eq]

theorem State.closeLock_pullIns (s : State) (p : Nat) :
    (s.closeLock p).bank.pullIns = (s.freePullIn p).bank.pullIns := by
  unfold State.closeLock
  exact State.setPocket_pullIns _ _ _

/-- The pull-in slots after a pocket's has fallen free are the others. -/
theorem State.mem_freePullIn {w : PullIn} : some w ∈ (s.freePullIn p).bank.pullIns ↔
    some w ∈ s.bank.pullIns ∧ w.pocket ≠ p := by
  unfold State.freePullIn
  rw [List.mem_map]
  refine ⟨fun ⟨slot, mem, e⟩ => ?_, fun ⟨mem, other⟩ => ⟨some w, mem, if_neg other⟩⟩
  cases slot with
  | none => cases e
  | some v =>
    dsimp only at e
    split at e
    · cases e
    · next other =>
      obtain rfl := Option.some.inj e
      exact ⟨mem, other⟩

theorem State.not_mem_startRule_queue (s : State) (p : Nat) : p ∉ (s.closeLock p).startRule.bank.queue := fun mem => by
  have before := (State.startRule_queue_suffix _).subset mem
  rw [State.closeLock_queue] at before
  simp at before

/-- A pocket whose lock has closed holds no pull-in slot. -/
theorem State.ne_of_mem_startRule_pullIns {w : PullIn} (mem : some w ∈ (s.closeLock p).startRule.bank.pullIns) :
    w.pocket ≠ p := by
  obtain held | queued := State.mem_startRule_pullIns mem
  · rw [State.closeLock_pullIns] at held
    exact (State.mem_freePullIn.mp held).2
  · rw [State.closeLock_queue] at queued
    intro here
    simp [here] at queued

end

end Sys2Proof.Machine
end

section
/-! O26: a lock's course, and the latching of a fault. -/

namespace Sys2Proof.Machine

section
variable {s : State} {p : Nat} {k : Pocket} {why : Opening} {b : Bool} {f : LockFault}

/-! ### A latched fault (R92, R97) -/

/-- The state in which a latched fault is told to the panel. -/
def State.latched (s : State) (p : Nat) (why : Opening) (f : LockFault) : State :=
  ((s.closeLock p).setPocket p (fun k => { k with fault := f, reservedFor := none })).post .pocketFault (num p)
    (parts (byte f.code ++ byte why.purpose.code))

theorem State.latched_pocket? (entry : s.pocket? p = some k) :
    (s.latched p why f).pocket? p = some { k with lock := .closed, fault := f, reservedFor := none } := by
  rw [State.latched, State.pocket?_congr (congrArg Bank.pockets (State.post_bank ..))]
  exact State.pocket?_setPocket (by rw [State.closeLock_pocket?_self, entry]; rfl) _

theorem State.latched_drive (s : State) (p : Nat) (why : Opening) (f : LockFault) :
    SameDrive Pocket.bare (s.closeLock p) (s.latched p why f) := by
  refine SameDrive.post (SameDrive.keepLock (.refl _ _) ?_)
  exact fun _ => rfl

/-- What a latched fault leaves of the pocket, the drive and the rest. -/
theorem State.latchFault_pocket? (entry : s.pocket? p = some k) (fault : f ≠ .none) :
    (s.latchFault p why f).pocket? p = some { k with lock := .closed, fault := f, reservedFor := none } :=
  State.settle_barred (State.latched_pocket? entry) rfl rfl (.inl fault) why .driveFault

theorem State.latchFault_driven (s : State) (p : Nat) (why : Opening) (f : LockFault) :
    (s.latchFault p why f).bank.queue = (s.closeLock p).startRule.bank.queue
      ∧ (s.latchFault p why f).bank.pullIns = (s.closeLock p).startRule.bank.pullIns :=
  State.settle_driven (s.latched_drive p why f) why p .driveFault

theorem State.latchFault_frame (s : State) (p : Nat) (why : Opening) (f : LockFault) :
    (s.latchFault p why f).records = s.records ∧ (s.latchFault p why f).line = s.line
      ∧ (s.latchFault p why f).custody = s.custody ∧ (s.latchFault p why f).reservations = s.reservations
      ∧ (s.latchFault p why f).bank.supply = s.bank.supply := by
  simp [State.latchFault]

theorem State.latchFault_ends {o : Operation} (law : s.HoldLaw) (course : s.course p = some (why, b))
    (op : (s.panel why.panel).operation = some o) :
    PocketEnds s (s.post .pocketFault (num p) (parts (byte f.code ++ byte why.purpose.code))) (s.latchFault p why f)
      why.panel o p .driveFault (some 4) (some 4) := by
  refine pocketEnds_of_report (u := s.latched p why f) law course op ?_ ?_ ?_ rfl (State.settle_panel ..)
    (State.settle_notices ..) ?_ ?_
  · simp [State.latched]
  · exact State.post_notices_congr (by simp) (by simp) _ _ _
  · simp [State.latched]
  · rintro _ ⟨⟩
    exact ⟨.driveFault, rfl, rfl⟩
  · rintro _ ⟨⟩
    exact ⟨.driveFault, rfl, rfl⟩

/-! ### A hold that expires (R95) -/

theorem State.endCourse_pocket? (entry : s.pocket? p = some k) (why : Opening) (r : Report) :
    ∃ m, (s.endCourse p why r).pocket? p = some { k with lock := .closed, reservedFor := m } :=
  State.settle_pocket? (k := { k with lock := .closed }) (by rw [State.closeLock_pocket?_self, entry]; rfl) rfl why r

theorem State.endCourse_driven (s : State) (p : Nat) (why : Opening) (r : Report) :
    (s.endCourse p why r).bank.queue = (s.closeLock p).startRule.bank.queue
      ∧ (s.endCourse p why r).bank.pullIns = (s.closeLock p).startRule.bank.pullIns :=
  State.settle_driven (.refl _ _) why p r

/-! ### A clean pull-in (R91) -/

/-- The state in which a lock that holds is told to the panel. -/
def State.held (s : State) (p : Nat) (why : Opening) : State :=
  State.freePullIn (s.setPocket p (fun k => { k with lock := .holding why (after s.now (1000 * s.config.holdS)) })) p

theorem State.hold_eq (s : State) (p : Nat) (why : Opening) :
    s.hold p why = ((s.held p why).report why p .opened).startRule := rfl

theorem State.held_eq (s : State) (p : Nat) (why : Opening) : s.held p why =
    (s.freePullIn p).setPocket p (fun k => { k with lock := .holding why (after s.now (1000 * s.config.holdS)) }) := by
  unfold State.held State.freePullIn State.setPocket
  split <;> rfl

theorem State.hold_pocket? (entry : s.pocket? p = some k) : (s.hold p why).pocket? p =
    some { k with lock := .holding why (after s.now (1000 * s.config.holdS)) } := by
  refine State.startRule_pocket? ?_ rfl
  rw [State.pocket?_report]
  exact State.pocket?_setPocket entry _

theorem State.hold_bank (s : State) (p : Nat) (why : Opening) : (s.hold p why).bank = (s.held p why).startRule.bank :=
  State.startRule_bank_congr (s := s.held p why) (t := (s.held p why).report why p .opened) (by simp)
    (by simp) (by simp)

theorem State.hold_told {o : Operation} (op : (s.panel why.panel).operation = some o) :
    (s.hold p why).panel why.panel = { s.panel why.panel with operation := some (o.after p .opened) }
      ∧ (s.hold p why).notices =
        (s.post .pocketOpened (num p) (parts (byte (panelCode why.panel) ++ byte why.purpose.code))).notices := by
  have panel : (s.held p why).panel why.panel = s.panel why.panel := State.panel_congr (s.setPocket_panels p _) _
  have op' : ((s.held p why).panel why.panel).operation = some o := by rw [panel, op]
  constructor
  · rw [State.hold_eq, State.panel_congr (State.startRule_panels _), State.report_panel, op', panel]
    rfl
  · rw [State.hold_eq, State.startRule_notices, State.report, op']
    refine State.post_notices_congr ?_ ?_ _ _ _
    · exact (State.setPanel_notices ..).trans (State.setPocket_notices ..)
    · exact (State.setPanel_now ..).trans (State.setPocket_now ..)

end

end Sys2Proof.Machine

namespace Sys2Proof.Proofs

open Sys2Proof.Machine

/-- Settles O26: the branches of the currents and deadlines at a lock that moves, each by what it leaves of the
pocket, the drive and the operation. -/
theorem lockCourse : Obligations.LockCourse := by
  unfold Obligations.LockCourse
  intro s p k entry driven kept faulted
  have latched : ∀ why b f, k.lock.course = some (why, b) → f ≠ .none → faulted (s.latchFault p why f) why f :=
    fun why b f lock fault => by
      have drive := s.latchFault_driven p why f
      refine ⟨State.latchFault_pocket? entry fault, fun w mem => ?_, drive, s.latchFault_frame p why f, fun o law op =>
        State.latchFault_ends law ((State.course_of_entry entry).trans lock) op⟩
      rw [drive.2] at mem
      exact State.ne_of_mem_startRule_pullIns mem
  refine ⟨fun why seen lock => ⟨?_, ?_, fun n w slot due => ⟨?_, ?_⟩⟩, fun why d lock => ⟨?_, fun due => ?_⟩⟩
  case refine_1 => simp [exec, execCurrentSeen, entry, lock]
  case refine_2 =>
    refine ⟨_, ?_, latched why false .short (by rw [lock]; rfl) nofun⟩
    simp [exec, execShortCurrent, entry, lock]
  case refine_3 =>
    rintro rfl
    refine ⟨s.hold p why, by simp [exec, execPullInExpiry, entry, slot, lock, due], State.hold_pocket? entry, ?_, ?_,
      fun o _ op => State.hold_told op⟩
    · rw [State.hold_bank, State.held_eq]
      rfl
    · show kept _
      simp [kept, State.hold, State.freePullIn]
  case refine_4 =>
    rintro rfl
    refine ⟨_, ?_, latched why false .openLoad (by rw [lock]; rfl) nofun⟩
    simp [exec, execPullInExpiry, entry, slot, lock, due]
  case refine_5 =>
    refine ⟨_, ?_, latched why true .short (by rw [lock]; rfl) nofun⟩
    simp [exec, execShortCurrent, entry, lock]
  case refine_6 =>
    obtain ⟨m, pocket⟩ := State.endCourse_pocket? entry why .holdExpired
    refine ⟨s.endCourse p why .holdExpired, m, by simp [exec, execHoldExpiry, entry, lock, due], pocket,
      s.endCourse_driven p why .holdExpired, ?_, fun o law op => ?_⟩
    · show kept _
      simp [kept, State.endCourse]
    · have course : s.course p = some (why, true) := by
        rw [State.course_of_entry entry, lock]
        rfl
      refine pocketEnds_of_report (u := s.closeLock p) law course op (by simp) (by simp) (by simp) rfl
        (State.settle_panel ..) (State.settle_notices ..) ?_ ?_
      · rintro _ ⟨⟩
        exact ⟨.notTaken, rfl, rfl⟩
      · rintro _ ⟨⟩
        exact ⟨.notPlaced, rfl, rfl⟩

end Sys2Proof.Proofs
end

section
/-! O31: insertions. -/

namespace Sys2Proof.Machine

/-- A pocket whose sensor has settled PRESENT on an insertion (R101). -/
def Pocket.inserted (k : Pocket) : Pocket := { k with presence := .present, occupancy := .unknown }

theorem Pocket.barred_inserted (k : Pocket) : k.inserted.Barred := .inr nofun

section
variable {s u : State} {p : Nat} {k : Pocket} {why : Opening} {r : Report}

theorem execPocketInsertion_eq (entry : s.pocket? p = some k) (absent : k.presence = .absent) :
    exec (.pocketInsertion p) s = .next ((s.setPocket p Pocket.inserted).insertion p k.lock) := by
  have both : (s.setReading p .present).setOccupancy p .unknown = s.setPocket p Pocket.inserted :=
    State.setPocket_setPocket s p _ _
  simp [exec, execPocketInsertion, entry, absent, both]

/-- An insertion at a pocket whose lock is not CLOSED: a HOLDING one ends FILLED, another is unexpected (R101). -/
theorem State.insertion_moving {lock : Lock} (opening : lock.opening = some why)
    (met : why.purpose = .issue → lock.code ≠ 3) : s.insertion p lock =
      if lock.code = 3 then (s.closeLock p).settle why p .filled
      else ((s.closeLock p).postInsert p lock).settle why p .unexpectedInsert := by
  cases lock with
  | closed => cases opening
  | queued w =>
    cases opening
    rfl
  | pulling w seen =>
    cases opening
    rfl
  | holding w d =>
    cases opening
    exact if_neg fun issue => met issue rfl

/-- An inserted pocket whose lock has closed, and what follows. -/
theorem State.settle_inserted {posted : State} {b : Bool}
    (entry : u.pocket? p = some { k.inserted with lock := .closed })
    (drive : SameDrive Pocket.bare (s.closeLock p) u) (panels : u.panels = s.panels)
    (notices : u.notices = posted.notices)
    (now : u.now = posted.now) (course : s.course p = some (why, b)) (closing : r.closing = true)
    (placed : returnOutcome r = some .placed) :
    ∃ m, (u.settle why p r).pocket? p = some { k.inserted with lock := .closed, reservedFor := m }
      ∧ (k.reservedFor = none → m = none) ∧ (u.settle why p r).bank.queue = (s.closeLock p).startRule.bank.queue
      ∧ (u.settle why p r).bank.pullIns = (s.closeLock p).startRule.bank.pullIns
      ∧ ∀ o, s.HoldLaw → (s.panel why.panel).operation = some o →
        PocketEnds s posted (u.settle why p r) why.panel o p r none (some 7) := by
  obtain ⟨m, pocket⟩ := State.settle_pocket? entry rfl why r
  obtain ⟨queue, pullIns⟩ := State.settle_driven drive why p r
  refine ⟨m, pocket, fun unmarked => ?_, queue, pullIns, fun o law op => ?_⟩
  · have same := State.settle_barred entry rfl unmarked k.barred_inserted why r
    rw [pocket] at same
    exact (congrArg Pocket.reservedFor (Option.some.inj same)).trans unmarked
  · refine pocketEnds_of_report law course op panels notices now closing (State.settle_panel ..)
      (State.settle_notices ..)
      nofun ?_
    rintro _ ⟨⟩
    exact ⟨.placed, placed, rfl⟩

end

end Sys2Proof.Machine

namespace Sys2Proof.Proofs

open Sys2Proof.Machine

/-- Settles O31: an insertion posts, or closes the lock and tells the panel, by the lock's phase and purpose. -/
theorem insertions : Obligations.Insertions := by
  unfold Obligations.Insertions
  refine fun s p k entry absent => ⟨fun closed => ?_, fun why opening met => ?_⟩
  · rw [execPocketInsertion_eq entry absent, closed]
    rfl
  have course : s.course p = some (why, k.lock.code == 3) := State.course_eq_some_iff.mpr ⟨k, entry, opening, rfl⟩
  let v := (s.setPocket p Pocket.inserted).closeLock p
  have drive : SameDrive Pocket.bare (s.closeLock p) v := by
    refine SameDrive.closeLock (SameDrive.keepLock (.refl _ _) ?_)
    exact fun _ => rfl
  have pocket : v.pocket? p = some { k.inserted with lock := .closed } := by
    rw [State.closeLock_pocket?_self, State.pocket?_setPocket entry]
    rfl
  rw [execPocketInsertion_eq entry absent, State.insertion_moving opening met]
  by_cases holding : k.lock.code = 3
  · rw [if_pos holding]
    obtain ⟨m, entry', mark, queue, pullIns, ends⟩ := State.settle_inserted (posted := s) (r := .filled) pocket drive
      (by simp [v]) (by simp [v]) (by simp [v]) course rfl rfl
    exact ⟨_, m, rfl, entry', mark, queue, pullIns, by simp [State.settle], by simp [State.settle],
      by simp [State.settle], by simp [State.settle],
      fun o law op => ⟨fun _ => ends o law op, fun other => absurd holding other⟩⟩
  · rw [if_neg holding]
    have told : (v.postInsert p k.lock).notices = (s.post .unexpectedInsert (num p) (num k.lock.code)).notices :=
      State.post_notices_congr (by simp [v]) (by simp [v]) _ _ _
    obtain ⟨m, entry', mark, queue, pullIns, ends⟩ := State.settle_inserted (k := k) (u := v.postInsert p k.lock)
      (r := .unexpectedInsert) ((State.pocket?_congr (by simp [State.postInsert]) p).trans pocket) drive.post
      (by simp [v, State.postInsert]) told (by simp [v, State.postInsert]) course rfl rfl
    exact ⟨_, m, rfl, entry', mark, queue, pullIns, by simp [State.settle, State.postInsert],
      by simp [State.settle, State.postInsert], by simp [State.settle, State.postInsert],
      by simp [State.settle, State.postInsert],
      fun o law op => ⟨fun here => absurd here holding, fun _ => ends o law op⟩⟩

end Sys2Proof.Proofs
end

section
/-! O29: first readings and forced removals. -/

namespace Sys2Proof.Machine

section
variable {s u : State} {p : Nat} {k : Pocket} {tool : ToolId} {r : ToolRecord} {st : RecordState}

/-! ### A tool leaves its pocket (R88, R98) -/

theorem State.unstock_pocket? (entry : s.pocket? p = some k) (tool : ToolId) (st : RecordState) :
    (s.unstock tool p st).pocket? p = some { k with occupancy := .empty, reservedFor := none } :=
  State.pocket?_setPocket (s := s.setState tool st) entry _

theorem State.unstock_records (s : State) (tool : ToolId) (p : Nat) (st : RecordState) :
    (s.unstock tool p st).records =
      s.records.map (fun q => if q.image.toolId = tool then { q with state := st } else q) := by
  simp [State.unstock, State.setState, State.updateRecord]

theorem SameDrive.unstock (h : SameDrive Pocket.bare s u) : SameDrive Pocket.bare s (u.unstock tool p st) := by
  refine SameDrive.keepLock ⟨h.pockets, h.queue, h.pullIns, h.now, h.pullInMs⟩ ?_
  exact fun _ => rfl

theorem SameDrive.postChanged (h : SameDrive Pocket.bare s u) : SameDrive Pocket.bare s (u.postChanged tool) :=
  h.trans ⟨by simp, by simp, by simp, by simp, by simp⟩

/-- RECORD_CHANGED after a change of state shows the new state (R13). -/
theorem State.postChanged_notices (find : s.find tool = some r) (records : u.records = (s.setState tool st).records)
    (notices : u.notices = s.notices) (now : u.now = s.now) : (u.postChanged tool).notices =
      (s.post .recordChanged tool (parts (byte st.code ++ byte st.placeCode.1 ++ byte st.placeCode.2))).notices := by
  have found : u.find tool = some { r with state := st } :=
    (State.find_congr records tool).trans (State.find_setState find st)
  rw [State.postChanged_eq found]
  exact State.post_notices_congr notices now _ _ _

/-- A pocket that a held tool has left (R98, R99). -/
def Pocket.left (k : Pocket) : Pocket := { k with presence := .absent, occupancy := .empty, reservedFor := none }

theorem Pocket.barred_left (k : Pocket) : k.left.Barred := .inr nofun

/-! ### Forced removals (R98) -/

/-- The notices of a forced removal (R98). -/
def State.forcedNotices (s : State) (p : Nat) (tool : ToolId) : State :=
  (s.post .recordChanged tool (parts (byte 6 ++ byte 0 ++ byte 0))).post .forcedRemoval (num p) tool

/-- The state in which the notices of a forced removal are posted, with a QUEUED lock closed or not. -/
def State.forcedFrom (s : State) (p : Nat) (tool : ToolId) : State :=
  (s.postChanged tool).post .forcedRemoval (num p) tool

theorem State.forcedFrom_notices (find : s.find tool = some r)
    (records : u.records = (s.setState tool .missing).records) (notices : u.notices = s.notices) (now : u.now = s.now) :
    (u.forcedFrom p tool).notices = (s.forcedNotices p tool).notices :=
  State.post_notices_congr (State.postChanged_notices find records notices now) (by simpa using now) _ _ _

theorem State.forcedFrom_pocket? (s : State) (p : Nat) (tool : ToolId) (q : Nat) :
    (s.forcedFrom p tool).pocket? q = s.pocket? q := State.pocket?_congr (by simp [State.forcedFrom]) q

theorem State.forcedRemoval_closed (s : State) (p : Nat) (tool : ToolId) : s.forcedRemoval p tool .closed =
    ((s.unstock tool p .missing).forcedFrom p tool).markingPass := rfl

theorem State.forcedRemoval_queued (s : State) (p : Nat) (tool : ToolId) (why : Opening) :
    s.forcedRemoval p tool (.queued why) =
      (((s.unstock tool p .missing).closeLock p).forcedFrom p tool).settle why p .forced := rfl

/-- What a forced removal leaves of the pocket and the records, where the reading has settled ABSENT. -/
theorem State.forcedRemoval_pocket? (entry : s.pocket? p = some k)
    (lock : k.lock = .closed ∨ ∃ why, k.lock = .queued why)
    (tool : ToolId) : ((s.setReading p .absent).forcedRemoval p tool k.lock).pocket? p =
      some { k.left with lock := .closed } := by
  have gone : ((s.setReading p .absent).unstock tool p .missing).pocket? p = some k.left :=
    State.unstock_pocket? (State.pocket?_setPocket entry _) tool .missing
  obtain closed | ⟨why, queued⟩ := lock
  · rw [closed, State.forcedRemoval_closed]
    have same : k.left = { k.left with lock := .closed } := by rw [← closed]; rfl
    rw [← same]
    exact State.markingPass_barred ((State.forcedFrom_pocket? ..).trans gone) rfl k.barred_left
  · rw [queued, State.forcedRemoval_queued]
    refine State.settle_barred (k := { k.left with lock := .closed }) ((State.forcedFrom_pocket? ..).trans ?_) rfl rfl
      k.barred_left why .forced
    rw [State.closeLock_pocket?_self, gone]
    rfl

theorem State.forcedRemoval_records (s : State) (p : Nat) (tool : ToolId) (lock : Lock) :
    (s.forcedRemoval p tool lock).records =
      s.records.map (fun q => if q.image.toolId = tool then { q with state := .missing } else q) := by
  unfold State.forcedRemoval
  dsimp only
  split <;> simp [State.unstock_records]

/-- A forced removal from a CLOSED pocket posts its two notices and moves no lock. -/
theorem State.forcedRemoval_notices (find : s.find tool = some r) (p : Nat) :
    ((s.setReading p .absent).forcedRemoval p tool .closed).notices = (s.forcedNotices p tool).notices := by
  rw [State.forcedRemoval_closed, State.markingPass_notices]
  exact State.forcedFrom_notices find (by simp [State.setReading, State.unstock, State.setState, State.updateRecord])
    (by simp [State.setReading]) (by simp [State.setReading])

/-- A forced removal at a QUEUED lock withdraws the request: its panel is told behind the two notices (R98, R113). -/
theorem State.forcedRemoval_queued_ends {why : Opening} {o : Operation} (entry : s.pocket? p = some k)
    (queued : k.lock = .queued why) (find : s.find tool = some r) (law : s.HoldLaw)
    (op : (s.panel why.panel).operation = some o) : PocketEnds s (s.forcedNotices p tool)
      ((s.setReading p .absent).forcedRemoval p tool (.queued why)) why.panel o p .forced (some 3) none := by
  have course : s.course p = some (why, false) := by
    rw [State.course_of_entry entry, queued]
    rfl
  rw [State.forcedRemoval_queued]
  refine pocketEnds_of_report law course op ?_ ?_ ?_ rfl (State.settle_panel ..) (State.settle_notices ..) ?_ nofun
  · simp [State.forcedFrom, State.setReading]
  · exact State.forcedFrom_notices find (by simp [State.setReading, State.unstock, State.setState, State.updateRecord])
      (by simp [State.setReading]) (by simp [State.setReading])
  · simp [State.forcedFrom, State.setReading, State.forcedNotices]
  · rintro _ ⟨⟩
    exact ⟨.forced, rfl, rfl⟩

/-- Without an operation on the panel a report does nothing. -/
theorem State.report_idle {why : Opening} (idle : (s.panel why.panel).operation = none) (p : Nat) (r : Report) :
    s.report why p r = s := by
  unfold State.report
  rw [idle]

/-- A forced removal at a QUEUED lock whose panel runs no operation posts the two notices. -/
theorem State.forcedRemoval_queued_idle {why : Opening} (find : s.find tool = some r)
    (idle : (s.panel why.panel).operation = none) (p : Nat) :
    ((s.setReading p .absent).forcedRemoval p tool (.queued why)).notices = (s.forcedNotices p tool).notices := by
  rw [State.forcedRemoval_queued, State.settle_notices, State.report_idle]
  · exact State.forcedFrom_notices find (by simp [State.setReading, State.unstock, State.setState, State.updateRecord])
      (by simp [State.setReading]) (by simp [State.setReading])
  · rw [State.panel_congr (s := s) (by simp [State.forcedFrom, State.setReading]), idle]

/-- The drive after a forced removal at a QUEUED lock. -/
theorem State.forcedRemoval_queued_queue (s : State) (p : Nat) (tool : ToolId) (why : Opening) :
    ((s.setReading p .absent).forcedRemoval p tool (.queued why)).bank.queue =
        (s.closeLock p).startRule.bank.queue := by
  rw [State.forcedRemoval_queued]
  refine (State.settle_driven (SameDrive.post (SameDrive.postChanged ?_)) why p .forced).1
  refine SameDrive.closeLock (SameDrive.unstock (SameDrive.keepLock (.refl _ _) ?_))
  exact fun _ => rfl

end

end Sys2Proof.Machine

namespace Sys2Proof.Proofs

open Sys2Proof.Machine

/-- Settles O29: a first reading only sets the pocket, but for a held tool that is not there; that, and the removal of a
held tool behind a CLOSED or QUEUED lock, is forced. -/
theorem readingsAndForcedRemovals : Obligations.ReadingsAndForcedRemovals := by
  unfold Obligations.ReadingsAndForcedRemovals
  refine ⟨fun s p k high entry unsettled =>
      ⟨fun level => ?_, fun level vacant => ?_, fun tool r level held closed find => ?_⟩,
    fun s p k tool r entry present held find lock => ?_⟩
  case refine_1 =>
    simp [exec, execPocketFirstReading, entry, unsettled, levelReading, level, State.setReading]
  case refine_2 =>
    have absent : levelReading s.config.sensorHigh high = .absent := if_neg (Ne.symm level)
    have emptied : exec (.pocketFirstReading p high) s = .next ((s.setReading p .absent).setOccupancy p .empty) := by
      simp only [exec, execPocketFirstReading, entry, unsettled, absent]
      cases occupancy : k.occupancy with
      | held tool => exact absurd occupancy (vacant tool)
      | _ => rfl
    have both : (s.setReading p .absent).setOccupancy p .empty =
        s.setPocket p (fun k => { k with presence := .absent, occupancy := .empty }) := State.setPocket_setPocket s p _ _
    rw [emptied, both]
  case refine_3 =>
    have absent : levelReading s.config.sensorHigh high = .absent := if_neg (Ne.symm level)
    refine ⟨(s.setReading p .absent).forcedRemoval p tool k.lock, ?_, ?_, ?_, ?_⟩
    · simp [exec, execPocketFirstReading, entry, unsettled, absent, held]
    · rw [State.forcedRemoval_pocket? entry (.inl closed), ← closed]
      rfl
    · rw [State.forcedRemoval_records]
      simp [State.setReading]
    · rw [closed]
      exact State.forcedRemoval_notices find p
  case refine_4 =>
    refine ⟨(s.setReading p .absent).forcedRemoval p tool k.lock, ?_, State.forcedRemoval_pocket? entry lock tool, ?_,
      fun closed => ?_, fun why queued => ?_, ?_⟩
    · obtain closed | ⟨why, queued⟩ := lock
      · simp [exec, execPocketRemoval, entry, present, State.removal, held, State.heldRemoval, closed]
      · simp [exec, execPocketRemoval, entry, present, State.removal, held, State.heldRemoval, queued]
    · rw [State.forcedRemoval_records]
      simp [State.setReading]
    · rw [closed]
      exact ⟨by simp [State.forcedRemoval, State.setReading, State.unstock, State.setState, State.updateRecord],
        State.forcedRemoval_notices find p, by simp [State.forcedRemoval, State.setReading]⟩
    · rw [queued]
      refine ⟨?_, fun idle => State.forcedRemoval_queued_idle find idle p,
        fun o law op => State.forcedRemoval_queued_ends entry queued find law op⟩
      rw [State.forcedRemoval_queued_queue]
      exact State.not_mem_startRule_queue s p
    · unfold State.forcedRemoval
      dsimp only
      split <;> simp [State.setReading]

end Sys2Proof.Proofs
end

section
/-! O30: removals at a pulling or holding pocket, and of an unknown tool. -/

namespace Sys2Proof.Machine

section
variable {s u w : State} {p : Nat} {k : Pocket} {tool : ToolId} {r : ToolRecord} {why : Opening} {o : Operation}
  {station cls : Nat}

/-! ### A reservation is served (R171) -/

/-- A served issue changes its row, marks and notices, and nothing else. -/
theorem State.serveReservation_frame (s : State) (station cls : Nat) :
    (s.serveReservation station cls).records = s.records ∧ (s.serveReservation station cls).line = s.line
      ∧ (s.serveReservation station cls).custody = s.custody ∧ (s.serveReservation station cls).magazine = s.magazine
      ∧ (s.serveReservation station cls).panels = s.panels ∧ (s.serveReservation station cls).now = s.now
      ∧ (s.serveReservation station cls).config = s.config := by
  unfold State.serveReservation
  split
  · exact ⟨rfl, rfl, rfl, rfl, rfl, rfl, rfl⟩
  · dsimp only
    split <;> simp

theorem State.deleteRows_unmarked (entry : s.pocket? p = some k) (unmarked : k.reservedFor = none)
    (gone : Reservation → Bool) : (s.deleteRows gone).pocket? p = some k := by
  obtain ⟨pos, entry⟩ := State.pocket?_eq_some_iff.mp entry
  refine State.pocket?_eq_some_iff.mpr ⟨pos, ?_⟩
  have same : { k with reservedFor := none } = k := by rw [← unmarked]
  simp only [State.deleteRows, List.getElem?_map, entry, Option.map_some, same, ite_self]

theorem State.serveReservation_unmarked (entry : s.pocket? p = some k) (unmarked : k.reservedFor = none) :
    (s.serveReservation station cls).pocket? p = some k := by
  unfold State.serveReservation
  split
  · exact entry
  · dsimp only
    rw [State.pocket?_congr (congrArg Bank.pockets (State.post_bank ..))]
    split
    · exact State.deleteRows_unmarked entry unmarked _
    · exact entry

theorem Reservation.isFor_iff {row : Reservation} :
    row.isFor station cls = true ↔ row.requester = station ∧ row.cls = cls := by
  simp [Reservation.isFor]

/-- The row of a served issue is lowered by 1, and goes at 0. -/
theorem State.serveReservation_row {row : Reservation}
    (found : s.reservations.find? (fun x => x.requester == station && x.cls == cls) = some row) :
    (s.serveReservation station cls).reservations =
        (if row.wanted ≤ 1 then s.reservations.filter (fun x => !(x.requester == station && x.cls == cls))
        else s.reservations.map (fun x => if x.requester = station ∧ x.cls = cls then
          { x with wanted := x.wanted - 1 } else x))
      ∧ (s.serveReservation station cls).notices =
        (s.post .reservationServed (num station) (parts (beBytes 2 cls ++ byte (row.wanted - 1)))).notices := by
  have found' : s.reservations.find? (fun row => row.isFor station cls) = some row := found
  unfold State.serveReservation
  rw [found']
  dsimp only
  split
  · exact ⟨State.post_reservations .., State.post_notices_congr (by simp) (by simp) _ _ _⟩
  · refine ⟨(State.post_reservations ..).trans ?_, State.post_notices_congr (by rfl) (by rfl) _ _ _⟩
    simp only [Reservation.isFor_iff]

theorem SameDrive.serveReservation (h : SameDrive Pocket.bare s u) :
    SameDrive Pocket.bare s (u.serveReservation station cls) := by
  obtain ⟨-, -, -, -, -, now, config⟩ := u.serveReservation_frame station cls
  exact h.trans (SameDrive.of_view (u.serveReservation_lockView station cls) now config)

/-! ### A completed issue (R99, R113, R116) -/

theorem State.issueStation_eq (op : (s.panel why.panel).operation = some o) (kind : o.kind = .issue cls station) :
    s.issueStation why.panel = some station := by
  obtain ⟨_, pockets⟩ := o
  cases kind
  rw [State.issueStation, op]

theorem classIn_held (held : k.occupancy = .held tool) (find : s.find tool = some r) :
    classIn s.records k = r.image.cls := by
  unfold State.find at find
  simp [classIn, recordIn, held, find]

/-- The state in which an issue has completed, before its reservation is served. -/
def State.issued (s : State) (p : Nat) (tool : ToolId) (why : Opening) : State :=
  ((((s.setReading p .absent).closeLock p).unstock tool p .loose).postChanged tool).report why p .taken

theorem State.issued_pocket? (entry : s.pocket? p = some k) (tool : ToolId) (why : Opening) :
    (s.issued p tool why).pocket? p = some { k.left with lock := .closed } := by
  rw [State.issued, State.pocket?_report, State.pocket?_congr (congrArg Bank.pockets (State.postChanged_bank ..))]
  refine State.unstock_pocket? (k := { k with presence := .absent, lock := .closed }) ?_ tool .loose
  rw [State.closeLock_pocket?_self, State.setReading, State.pocket?_setPocket entry]
  rfl

theorem State.issued_drive (s : State) (p : Nat) (tool : ToolId) (why : Opening) :
    SameDrive Pocket.bare (s.closeLock p) (s.issued p tool why) := by
  have read : SameDrive Pocket.bare s (s.setReading p .absent) := SameDrive.keepLock (.refl _ _) fun _ => rfl
  exact read.closeLock.unstock.postChanged.report why p .taken

theorem State.issued_frame (s : State) (p : Nat) (tool : ToolId) (why : Opening) :
    (s.issued p tool why).line = s.line ∧ (s.issued p tool why).custody = s.custody
      ∧ (s.issued p tool why).magazine = s.magazine ∧ (s.issued p tool why).reservations = s.reservations
      ∧ (s.issued p tool why).now = s.now := by
  simp [State.issued, State.setReading]

theorem State.issued_records (s : State) (p : Nat) (tool : ToolId) (why : Opening) : (s.issued p tool why).records =
    s.records.map (fun q => if q.image.toolId = tool then { q with state := .loose } else q) := by
  simp [State.issued, State.unstock_records, State.setReading]

/-- RECORD_CHANGED with LOOSE and no place. -/
def State.loosened (s : State) (tool : ToolId) : State :=
  s.post .recordChanged tool (parts (byte 5 ++ byte 0 ++ byte 0))

/-- The notices of a completed issue (R99, R113). -/
def State.issueNotices (s : State) (p : Nat) (tool : ToolId) (i : PanelId) : State :=
  (s.loosened tool).post .issueDone (num (panelCode i)) (parts (byte 1 ++ byte p))

/-- The operation of a completed issue ends TAKEN behind RECORD_CHANGED. -/
theorem State.issued_told (law : s.HoldLaw) (entry : s.pocket? p = some k) (opening : k.lock.opening = some why)
    (op : (s.panel why.panel).operation = some o) (kind : o.kind = .issue cls station) (find : s.find tool = some r) :
    (s.issued p tool why).panel why.panel = { s.panel why.panel with operation := none }
      ∧ (s.issued p tool why).notices = (s.issueNotices p tool why.panel).notices := by
  have course : s.course p = some (why, k.lock.code == 3) := State.course_eq_some_iff.mpr ⟨k, entry, opening, rfl⟩
  have changed : ((((s.setReading p .absent).closeLock p).unstock tool p .loose).postChanged tool).notices
      = (s.loosened tool).notices :=
    State.postChanged_notices (st := .loose) find
      (by simp [State.setReading, State.unstock, State.setState, State.updateRecord])
      (by simp [State.setReading]) (by simp [State.setReading])
  have ends : PocketEnds s (s.loosened tool) (s.issued p tool why) why.panel o p .taken (some 1) none := by
    refine pocketEnds_of_report law course op ?_ changed ?_ rfl rfl rfl ?_ nofun
    · simp [State.setReading]
    · simp [State.setReading, State.loosened]
    · rintro _ ⟨⟩
      exact ⟨.taken, rfl, rfl⟩
  exact ends.1 1 rfl (by rw [kind]; rfl)

/-- The state after a completed issue, its reservation served where the pocket carried the for-station's mark. -/
def State.issuedServed (s : State) (p : Nat) (k : Pocket) (tool : ToolId) (why : Opening) (station cls : Nat) : State :=
  if k.reservedFor = some station then (s.issued p tool why).serveReservation station cls else s.issued p tool why

theorem State.completeIssue_eq (held : k.occupancy = .held tool) (find : s.find tool = some r)
    (op : (s.panel why.panel).operation = some o) (kind : o.kind = .issue cls station) :
    (s.setReading p .absent).completeIssue p k tool why =
      ((s.issuedServed p k tool why station r.image.cls).startRule).markingPass := by
  have op' : ((s.setReading p .absent).panel why.panel).operation = some o :=
    (congrArg Panel.operation (State.panel_congr (s.setPocket_panels p _) _)).trans op
  have sameClass : classIn (s.setReading p .absent).records k = r.image.cls :=
    (congrArg (classIn · k) (s.setPocket_records p _)).trans (classIn_held held find)
  unfold State.completeIssue State.issuedServed
  rw [State.issueStation_eq op' kind, sameClass]
  cases mark : k.reservedFor with
  | none => rfl
  | some n =>
    by_cases same : station = n
    · subst same
      simp [State.issued]
    · simp [State.issued, same, Ne.symm same]

/-- The drive and the pocket after a completed issue. -/
theorem State.issuedServed_settled (entry : s.pocket? p = some k) (tool : ToolId) (why : Opening) (station cls : Nat) :
    let t := ((s.issuedServed p k tool why station cls).startRule).markingPass
    t.pocket? p = some { k.left with lock := .closed } ∧ t.bank.queue = (s.closeLock p).startRule.bank.queue
      ∧ t.bank.pullIns = (s.closeLock p).startRule.bank.pullIns := by
  have pocket := State.issued_pocket? entry tool why
  have drive := s.issued_drive p tool why
  have both : (s.issuedServed p k tool why station cls).pocket? p = some { k.left with lock := .closed }
      ∧ SameDrive Pocket.bare (s.closeLock p) (s.issuedServed p k tool why station cls) := by
    unfold State.issuedServed
    split
    · exact ⟨State.serveReservation_unmarked pocket rfl, drive.serveReservation⟩
    · exact ⟨pocket, drive⟩
  exact ⟨State.markingPass_barred (State.startRule_pocket? both.1 (Pocket.started_of_closed rfl)) rfl k.barred_left,
    both.2.startRule.queue, both.2.startRule.pullIns⟩

/-- What a served reservation leaves of a completed issue. -/
theorem State.issuedServed_frame (s : State) (p : Nat) (k : Pocket) (tool : ToolId) (why : Opening)
    (station cls : Nat) :
    (s.issuedServed p k tool why station cls).records = (s.issued p tool why).records
      ∧ (s.issuedServed p k tool why station cls).panels = (s.issued p tool why).panels
      ∧ (s.issuedServed p k tool why station cls).line = s.line
      ∧ (s.issuedServed p k tool why station cls).custody = s.custody
      ∧ (s.issuedServed p k tool why station cls).magazine = s.magazine := by
  obtain ⟨records, line, custody, magazine, panels, -, -⟩ := (s.issued p tool why).serveReservation_frame station cls
  obtain ⟨line', custody', magazine', -, -⟩ := s.issued_frame p tool why
  unfold State.issuedServed
  split
  · exact ⟨records, panels, line.trans line', custody.trans custody', magazine.trans magazine'⟩
  · exact ⟨rfl, rfl, line', custody', magazine'⟩

/-! ### A tool leaves a SERVICE pocket (R99) -/

theorem State.serviceRemoval_pocket? (entry : s.pocket? p = some k) (absent : k.presence = .absent) (tool : ToolId)
    (why : Opening) : (s.serviceRemoval p tool why).pocket? p = some k.left := by
  have same : k.left = { k with occupancy := .empty, reservedFor := none } := by rw [Pocket.left, ← absent]
  refine State.markingPass_barred ?_ rfl k.barred_left
  rw [State.pocket?_report, State.pocket?_congr (congrArg Bank.pockets (State.post_bank ..)),
    State.pocket?_congr (congrArg Bank.pockets (State.postChanged_bank ..)), same]
  exact State.unstock_pocket? entry tool .loose

theorem State.report_serviceRemoved_notices (s : State) (why : Opening) (p : Nat) :
    (s.report why p .serviceRemoved).notices = s.notices := by
  unfold State.report
  split
  · rfl
  · exact State.setPanel_notices ..

theorem State.serviceRemoval_notices (find : s.find tool = some r) (p : Nat) (why : Opening) :
    ((s.setReading p .absent).serviceRemoval p tool why).notices =
      ((s.loosened tool).post .serviceRemoved (num p) tool).notices := by
  rw [State.serviceRemoval, State.markingPass_notices, State.report_serviceRemoved_notices]
  refine State.post_notices_congr (State.postChanged_notices (st := .loose) find ?_ ?_ ?_) ?_ _ _ _
  · simp [State.setReading, State.unstock, State.setState, State.updateRecord]
  · simp [State.setReading]
  · simp [State.setReading]
  · simp [State.setReading]

/-- A pocket and a record change; the drive, the panels and the rest stay. -/
theorem State.serviceRemoval_frame (s : State) (p : Nat) (tool : ToolId) (why : Opening) :
    (s.serviceRemoval p tool why).panels = s.panels ∧ (s.serviceRemoval p tool why).bank.queue = s.bank.queue
      ∧ (s.serviceRemoval p tool why).bank.pullIns = s.bank.pullIns
      ∧ (s.serviceRemoval p tool why).reservations = s.reservations
      ∧ (s.serviceRemoval p tool why).line = s.line ∧ (s.serviceRemoval p tool why).custody = s.custody := by
  simp [State.serviceRemoval, State.report_serviceRemoved_panels, State.unstock, State.setPocket_pullIns,
    State.setState, State.updateRecord]

/-! ### An unknown tool leaves its pocket (R68, R100) -/

/-- The call for a place, where one is open. -/
theorem State.call?_of_callAt {i : Nat} {place : Purpose} (h : s.callAt place = some i) :
    ∃ c, s.call? i = some c ∧ c.purpose = place := by
  obtain ⟨inside, found, -⟩ := List.findIdx?_eq_some_iff_getElem.mp h
  unfold State.call?
  rw [List.getElem?_eq_getElem inside]
  split at found
  · next c slot => exact ⟨c, by rw [slot]; rfl, beq_iff_eq.mp found⟩
  · cases found

theorem State.withdrawCall_pocket_magazine (s : State) (p : Nat) :
    (s.withdrawCall (.pocket p)).magazine = s.magazine := by
  unfold State.withdrawCall
  split
  · next i here =>
    obtain ⟨c, call, purpose⟩ := State.call?_of_callAt here
    rw [State.closeCall_magazine call, purpose, State.leavePlace_elsewhere (fun m e => by cases e)]
  · rfl

theorem State.withdrawCall_none {place : Purpose} (vacant : s.callAt place = none) : s.withdrawCall place = s := by
  rw [State.withdrawCall, vacant]

theorem State.withdrawCall_some {place : Purpose} {i : Nat} {c : CallSlot} (here : s.callAt place = some i)
    (call : s.call? i = some c) :
    (s.withdrawCall place).custody = { s.custody with calls := s.custody.calls.set i none }
      ∧ (s.withdrawCall place).notices = (s.post .callDone c.tool (parts (byte 4 ++ byte 0 ++ byte 0))).notices := by
  rw [State.withdrawCall, here]
  exact ⟨State.closeCall_custody call _ _, State.closeCall_notices call _ _⟩

theorem State.callAt_congr (custody : u.custody = s.custody) (place : Purpose) : u.callAt place = s.callAt place := by
  rw [State.callAt, custody, State.callAt]

theorem State.call?_congr (custody : u.custody = s.custody) (i : Nat) : u.call? i = s.call? i := by
  rw [State.call?, custody, State.call?]

/-- A pocket that an unknown tool has left. -/
def Pocket.emptied (k : Pocket) : Pocket := { k with presence := .absent, occupancy := .empty }

theorem execPocketRemoval_unknown (entry : s.pocket? p = some k) (present : k.presence = .present)
    (unknown : k.occupancy = .unknown) : exec (.pocketRemoval p) s =
      .next (((s.setPocket p Pocket.emptied).withdrawCall (.pocket p)).post .pocketEmptied (num p) 0) := by
  have both : (s.setReading p .absent).setOccupancy p .empty = s.setPocket p Pocket.emptied :=
    State.setPocket_setPocket s p _ _
  simp [exec, execPocketRemoval, entry, present, State.removal, unknown, both]

/-- A removal of a held tool at a lock that is PULLING or HOLDING, by the purpose of its opening (R99). -/
theorem execPocketRemoval_energised (entry : s.pocket? p = some k) (present : k.presence = .present)
    (held : k.occupancy = .held tool) (energised : k.lock.energised = true) (opening : k.lock.opening = some why) :
    exec (.pocketRemoval p) s = .next (if why.purpose = .issue
      then (s.setReading p .absent).completeIssue p k tool why
      else (s.setReading p .absent).serviceRemoval p tool why) := by
  have moved : (s.setReading p .absent).heldRemoval p k tool = if why.purpose = .issue
      then (s.setReading p .absent).completeIssue p k tool why
      else (s.setReading p .absent).serviceRemoval p tool why := by
    unfold State.heldRemoval
    cases lock : k.lock with
    | closed | queued w =>
      rw [lock] at energised
      cases energised
    | pulling w seen | holding w d =>
      rw [lock] at opening
      cases opening
      rfl
  simp [exec, execPocketRemoval, entry, present, State.removal, held, moved]

end

end Sys2Proof.Machine

namespace Sys2Proof.Proofs

open Sys2Proof.Machine

/-- Settles O30: a held tool taken from an energised lock completes its ISSUE or leaves its SERVICE pocket; an unknown
one only empties its pocket. -/
theorem removalsFromOpenAndUnknownPockets : Obligations.RemovalsFromOpenAndUnknownPockets := by
  unfold Obligations.RemovalsFromOpenAndUnknownPockets
  refine ⟨fun s p k tool r why o law entry present held find energised opening op =>
    ⟨fun cls station purpose kind => ?_, fun purpose => ?_⟩, fun s p k entry present unknown => ?_⟩
  case refine_1 =>
    obtain ⟨panel, notices⟩ := State.issued_told law entry opening op kind find
    obtain ⟨pocket, queue, pullIns⟩ := State.issuedServed_settled entry tool why station r.image.cls
    obtain ⟨records, panels, line, custody, magazine⟩ := s.issuedServed_frame p k tool why station r.image.cls
    obtain ⟨-, -, -, rows, now⟩ := s.issued_frame p tool why
    refine ⟨((s.issuedServed p k tool why station r.image.cls).startRule).markingPass, ?_, pocket, ?_, ?_,
      queue, pullIns, fun other => ?_, fun row mark found => ?_, ?_, ?_, ?_⟩
    · rw [execPocketRemoval_energised entry present held energised opening, if_pos purpose,
        State.completeIssue_eq held find op kind]
    · rw [State.markingPass_records, State.startRule_records, records, State.issued_records]
    · rw [State.panel_congr (State.markingPass_panels _), State.panel_congr (State.startRule_panels _),
        State.panel_congr panels, panel]
    · rw [State.issuedServed, if_neg other, State.markingPass_reservations, State.startRule_reservations,
        State.markingPass_notices, State.startRule_notices]
      exact ⟨rows, notices⟩
    · rw [← rows] at found
      obtain ⟨lowered, told⟩ := State.serveReservation_row found
      rw [State.issuedServed, if_pos mark, State.markingPass_reservations, State.startRule_reservations,
        State.markingPass_notices, State.startRule_notices, lowered, told, rows]
      refine ⟨rfl, State.post_notices_congr notices ?_ _ _ _⟩
      rw [now, State.issueNotices, State.post_now, State.loosened, State.post_now]
    · rw [State.markingPass_line, State.startRule_line, line]
    · rw [State.markingPass_custody, State.startRule_custody, custody]
    · rw [State.markingPass_magazine, State.startRule_magazine, magazine]
  case refine_2 =>
    have notIssue : why.purpose ≠ .issue := by rw [purpose]; decide
    obtain ⟨panels, queue, pullIns, reservations, line, custody⟩ :=
      (s.setReading p .absent).serviceRemoval_frame p tool why
    refine ⟨(s.setReading p .absent).serviceRemoval p tool why, ?_, ?_, ?_, panels.trans (State.setPocket_panels ..),
      queue.trans (State.setPocket_queue ..), pullIns.trans (State.setPocket_pullIns ..),
      reservations.trans (State.setPocket_reservations ..), line.trans (State.setPocket_line ..),
      custody.trans (State.setPocket_custody ..), State.serviceRemoval_notices find p why⟩
    · rw [execPocketRemoval_energised entry present held energised opening, if_neg notIssue]
    · exact State.serviceRemoval_pocket? (State.pocket?_setPocket entry _) rfl tool why
    · simp [State.serviceRemoval, State.unstock_records, State.setReading]
  case refine_3 =>
    let v := s.setPocket p Pocket.emptied
    have custody : v.custody = s.custody := State.setPocket_custody ..
    refine ⟨(v.withdrawCall (.pocket p)).post .pocketEmptied (num p) 0,
      execPocketRemoval_unknown entry present unknown, ?_, by simp [v], by simp [v], by simp [v], ?_, fun vacant => ?_,
      fun i c here call => ?_⟩
    · rw [State.pocket?_congr (congrArg Bank.pockets ((State.post_bank ..).trans (State.withdrawCall_bank ..)))]
      exact State.pocket?_setPocket entry _
    · rw [State.post_magazine, State.withdrawCall_pocket_magazine, State.setPocket_magazine]
    · have idle := State.withdrawCall_none ((State.callAt_congr custody _).trans vacant)
      rw [idle]
      exact ⟨by simp [v], State.post_notices_congr (by simp [v]) (by simp [v]) _ _ _⟩
    · obtain ⟨closed, told⟩ :=
        State.withdrawCall_some ((State.callAt_congr custody _).trans here) ((State.call?_congr custody i).trans call)
      refine ⟨?_, State.post_notices_congr (told.trans (State.post_notices_congr ?_ ?_ _ _ _)) ?_ _ _ _⟩
      · rw [State.post_custody, closed, custody]
      all_goals simp [v]

end Sys2Proof.Proofs
end

section
/-! SUPPORT. O32 to O37: panels under their updates, access windows, and the searches in numbered tables. -/

namespace Sys2Proof.Machine

/-! ### Numbered tables -/

/-- The first of the numbered elements that passes a test: the element at the lowest place that does. -/
theorem find?_zipIdx_eq_some {α : Type} {l : List α} {test : α → Bool} {n : Nat} {a : α} (k : Nat)
    (entry : l[n]? = some a) (passes : test a = true) (lowest : ∀ m b, m < n → l[m]? = some b → test b = false) :
    (l.zipIdx k).find? (fun c => test c.1) = some (a, k + n) := by
  obtain ⟨inside, rfl⟩ := List.getElem?_eq_some_iff.mp entry
  refine List.find?_eq_some_iff_getElem.mpr ⟨passes, n, by simpa using inside, by simp, fun m before => ?_⟩
  simp [lowest m l[m] before (List.getElem?_eq_getElem (before.trans inside))]

theorem find?_zipIdx_eq_none {α : Type} {l : List α} {test : α → Bool} (k : Nat) (fails : ∀ a ∈ l, test a = false) :
    (l.zipIdx k).find? (fun c => test c.1) = none := by
  refine List.find?_eq_none.mpr fun c mem => ?_
  simp [fails c.1 (List.fst_mem_of_mem_zipIdx mem)]

/-! ### Panels -/

section
variable {s : State} {i : PanelId}

theorem State.setPanel_setPanel (s : State) (i : PanelId) (f g : Panel → Panel) :
    (s.setPanel i f).setPanel i g = s.setPanel i (fun p => g (f p)) := by cases i <;> rfl

/-- Two changes that make the same of a panel. -/
theorem State.setPanel_congr {f g : Panel → Panel} (same : f (s.panel i) = g (s.panel i)) :
    s.setPanel i f = s.setPanel i g := by
  cases i
  · exact congrArg (fun p => ({ s with panels.a := p } : State)) same
  · exact congrArg (fun p => ({ s with panels.b := p } : State)) same

/-- Which panels take keys (R104, R106). -/
theorem State.takesKeys_iff : s.takesKeys i = true ↔
    s.port.nodeState ≠ .unconfigured ∧ s.config.pocketCount ≠ 0 ∧ (s.panel i).lockout = none := by
  simp [State.takesKeys, State.configured, Nat.pos_iff_ne_zero, and_assoc]

/-! ### The access window closes (R109 to R112) -/

theorem State.closeWindow_shut (shut : (s.panel i).window = none) (cause : CloseCause) : s.closeWindow i cause = s := by
  simp [State.closeWindow, shut]

theorem State.closeWindow_open (isOpen : (s.panel i).window ≠ none) (cause : CloseCause) : s.closeWindow i cause =
    (s.setPanel i (fun p => { p with window := none })).post .accessClosed (num (panelCode i)) (num cause.code) :=
  if_pos (Option.isSome_iff_ne_none.mpr isOpen)

theorem State.closeWindow_panel (s : State) (i : PanelId) (cause : CloseCause) :
    (s.closeWindow i cause).panel i = { s.panel i with window := none } := by
  by_cases shut : (s.panel i).window = none
  · rw [State.closeWindow_shut shut, ← shut]
  · rw [State.closeWindow_open shut, State.panel_post, State.panel_setPanel_same]

theorem State.closeWindow_notices (s : State) (i : PanelId) (cause : CloseCause) :
    (s.closeWindow i cause).notices = (if (s.panel i).window = none then s
      else s.post .accessClosed (num (panelCode i)) (num cause.code)).notices := by
  split
  · next shut => rw [State.closeWindow_shut shut]
  · next isOpen =>
    rw [State.closeWindow_open isOpen]
    exact State.post_notices_congr (by simp) (by simp) _ _ _

/-- A closing window changes the panels and the notices only. -/
theorem State.closeWindow_frame (s : State) (i : PanelId) (cause : CloseCause) : s.closeWindow i cause =
    { s with panels := (s.closeWindow i cause).panels, notices := (s.closeWindow i cause).notices } := by
  unfold State.closeWindow State.postClosed State.post
  split
  · split <;> cases i <;> rfl
  · rfl

end

end Sys2Proof.Machine
end

section
/-! O32: the keypad (R106 to R111). -/

namespace Sys2Proof.Machine

section
variable {s : State} {i : PanelId}

/-- An entry of the code table that these digits match (R108). -/
def CodeEntry.Fits (e : CodeEntry) (keys : List Nat) : Prop := e.enabled = true ∧ e.digits = keys

theorem CodeEntry.fits_iff {e : CodeEntry} {keys : List Nat} :
    (e.enabled && e.digits == keys) = true ↔ e.Fits keys := by
  simp [CodeEntry.Fits]

theorem CodeEntry.not_fits_iff {e : CodeEntry} {keys : List Nat} :
    (e.enabled && e.digits == keys) = false ↔ ¬ e.Fits keys := by
  rw [← CodeEntry.fits_iff, Bool.not_eq_true]

theorem matchCode_eq_some {table : List CodeEntry} {keys : List Nat} {n : Nat} {e : CodeEntry}
    (entry : table[n]? = some e) (fits : e.Fits keys)
    (lowest : ∀ m e', m < n → table[m]? = some e' → ¬ e'.Fits keys) : matchCode table keys = some (e, n + 1) := by
  rw [Nat.add_comm]
  exact find?_zipIdx_eq_some (test := fun e : CodeEntry => e.enabled && e.digits == keys) 1 entry
    (CodeEntry.fits_iff.mpr fits) fun m e' before here => CodeEntry.not_fits_iff.mpr (lowest m e' before here)

theorem matchCode_eq_none {table : List CodeEntry} {keys : List Nat} (none : ∀ e ∈ table, ¬ e.Fits keys) :
    matchCode table keys = .none :=
  find?_zipIdx_eq_none (test := fun e : CodeEntry => e.enabled && e.digits == keys) 1
    fun e mem => CodeEntry.not_fits_iff.mpr (none e mem)

/-! ### ENTER (R108, R109) -/

theorem execEnter_empty (takes : s.takesKeys i = true) (empty : (s.panel i).keys = []) :
    exec (.enter i) s = .next (s.setPanel i (fun p => { p with interKey := none })) := by
  have same : s.setPanel i Panel.emptied = s.setPanel i (fun p => { p with interKey := none }) :=
    State.setPanel_congr (by rw [Panel.emptied, ← empty])
  simp [exec, execEnter, takes, empty, same]

theorem execEnter_match {e : CodeEntry} {n : Nat} (takes : s.takesKeys i = true) (keys : (s.panel i).keys ≠ [])
    (found : matchCode s.config.codeTable (s.panel i).keys = some (e, n)) :
    exec (.enter i) s = .next ((s.setPanel i Panel.emptied).openWindow i e n) := by
  simp [exec, execEnter, takes, keys, found]

theorem execEnter_mismatch (takes : s.takesKeys i = true) (keys : (s.panel i).keys ≠ [])
    (found : matchCode s.config.codeTable (s.panel i).keys = none) :
    exec (.enter i) s = .next ((s.setPanel i Panel.emptied).mismatch i) := by
  simp [exec, execEnter, takes, keys, found]

/-- A panel whose buffer is emptied and whose mismatch count has risen. -/
def Panel.denied (p : Panel) : Panel := { p with keys := [], interKey := none, mismatches := p.mismatches + 1 }

/-- The mismatch of an emptied buffer, told (R109). -/
def State.deny (s : State) (i : PanelId) : State :=
  (s.setPanel i Panel.denied).post .accessDenied (num (panelCode i)) (num ((s.panel i).mismatches + 1))

/-- The panel locked out, told (R109). -/
def State.lockOut (s : State) (i : PanelId) : State :=
  (s.setPanel i (fun p => { p with lockout := some (s.now + 60000) })).post .keypadLocked (num (panelCode i))
    (num 60000)

theorem State.deny_eq (s : State) (i : PanelId) :
    ((s.setPanel i Panel.emptied).setPanel i
      (fun p => { p with mismatches := ((s.setPanel i Panel.emptied).panel i).mismatches + 1 })).post .accessDenied
        (num (panelCode i)) (num (((s.setPanel i Panel.emptied).panel i).mismatches + 1)) = s.deny i := by
  rw [State.setPanel_setPanel, State.panel_setPanel_same]
  refine congrArg (fun u => State.post u _ _ _) (State.setPanel_congr ?_)
  rfl

theorem State.mismatch_few (few : (s.panel i).mismatches + 1 < 3) :
    (s.setPanel i Panel.emptied).mismatch i = s.deny i := by
  unfold State.mismatch
  dsimp only
  rw [State.deny_eq, State.panel_setPanel_same]
  exact if_pos few

theorem State.mismatch_third (third : 3 ≤ (s.panel i).mismatches + 1) :
    (s.setPanel i Panel.emptied).mismatch i = ((s.deny i).lockOut i).closeWindow i .lockout := by
  have now : (s.deny i).now = (s.setPanel i Panel.emptied).now := by simp [State.deny]
  unfold State.mismatch
  dsimp only
  rw [State.deny_eq, State.panel_setPanel_same, State.lockOut, now]
  exact if_neg (not_lt.mpr third)

/-- The panel of a lockout, with its notices (R109). -/
theorem State.lockOut_panel (s : State) (i : PanelId) : ((s.deny i).lockOut i).panel i =
    { (s.panel i).denied with lockout := some (s.now + 60000) } := by
  have now : (s.deny i).now = s.now := by simp [State.deny]
  rw [State.lockOut, State.panel_post, State.panel_setPanel_same, State.deny, State.panel_post,
    State.panel_setPanel_same]
  simp

theorem State.lockOut_notices (s : State) (i : PanelId) : ((s.deny i).lockOut i).notices =
    ((s.post .accessDenied (num (panelCode i)) (num ((s.panel i).mismatches + 1))).post .keypadLocked
      (num (panelCode i)) (num 60000)).notices := by
  refine State.post_notices_congr ?_ (by simp [State.deny]) _ _ _
  rw [State.setPanel_notices]
  exact State.post_notices_congr (by simp) (by simp) _ _ _

end

end Sys2Proof.Machine

namespace Sys2Proof.Proofs

open Sys2Proof.Machine

/-- Settles O32: each key and expiry by its branch, ENTER by the code table and the mismatch count. -/
theorem keysAndWindows : Obligations.KeysAndWindows := by
  unfold Obligations.KeysAndWindows
  refine ⟨fun i s => ⟨fun known pockets unlocked => ?_, fun l locked => ?_, fun d held expired => ?_,
    fun w isOpen expired => ?_⟩, fun i s known pockets unlocked => ?_⟩
  · have takes : s.takesKeys i = true := State.takesKeys_iff.mpr ⟨known, pockets, unlocked⟩
    have cleared : exec (.clear i) s = .next ((s.setPanel i Panel.emptied).closeWindow i .clear) := if_pos takes
    have window : ((s.setPanel i Panel.emptied).panel i).window = (s.panel i).window := by
      rw [State.panel_setPanel_same]
      rfl
    refine ⟨fun d digit room => ?_, fun d digit full => ?_, fun shut => ?_, fun isOpen => ?_⟩
    · simp only [exec, execDigitKey, takes, digit, decide_true, Bool.and_self, if_true]
      refine congrArg Host.Outcome.next (State.setPanel_congr ?_)
      simp [Config.keysMax, room, after, Config.interKeyMs]
    · simp only [exec, execDigitKey, takes, digit, decide_true, Bool.and_self, if_true]
      refine congrArg Host.Outcome.next (State.setPanel_congr ?_)
      simp [Config.keysMax, not_lt.mpr full, after, Config.interKeyMs]
    · rw [cleared, State.closeWindow_shut (window.trans shut)]
      rfl
    · rw [cleared, State.closeWindow_open (window.trans_ne isOpen), State.setPanel_setPanel]
      rfl
  · have ignores : s.takesKeys i = false := by simp [State.takesKeys, locked]
    refine ⟨fun d => ?_, ?_, ?_, fun expired => ?_⟩
    · simp [exec, execDigitKey, ignores]
    · simp [exec, execEnter, ignores]
    · simp [exec, execClear, ignores]
    · simp [exec, execLockoutExpiry, locked, due, expired]
  · simp only [exec, execInterKeyExpiry, held, due, expired, if_true]
    rfl
  · have opened : (s.panel i).window ≠ none := by simp [isOpen]
    simp only [exec, execWindowExpiry, isOpen, Option.map_some, due, expired, if_true, State.closeWindow_open opened]
    rfl
  have takes : s.takesKeys i = true := State.takesKeys_iff.mpr ⟨known, pockets, unlocked⟩
  refine ⟨execEnter_empty takes, fun n e keys entry fits lowest => ?_,
    fun keys none => ⟨fun few => ?_, fun third => ?_⟩⟩
  · rw [execEnter_match takes keys (matchCode_eq_some entry fits lowest), State.openWindow, State.setPanel_setPanel]
    simp [after, Config.windowMs, Panel.emptied]
  · rw [execEnter_mismatch takes keys (matchCode_eq_none none), State.mismatch_few few]
    refine congrArg (fun u => Host.Outcome.next (State.post u _ _ _)) (State.setPanel_congr ?_)
    rfl
  · refine ⟨_, execEnter_mismatch takes keys (matchCode_eq_none none), ?_⟩
    have panel := s.lockOut_panel i
    have told := s.lockOut_notices i
    rw [State.mismatch_third third]
    refine ⟨?_, ?_, ?_, ?_⟩
    · rw [State.closeWindow_panel, panel]
      rfl
    · rw [State.closeWindow_notices, panel]
      by_cases shut : (s.panel i).window = .none
      · simpa [shut, Panel.denied] using told
      · simp only [Panel.denied, shut, if_false]
        exact State.post_notices_congr told (by simp [State.lockOut, State.deny]) _ _ _
    · rw [State.closeWindow_frame]
      simp [State.lockOut, State.deny]
    · rw [State.closeWindow_frame]
      simp [State.lockOut, State.deny]

end Sys2Proof.Proofs
end

section
/-! O33: the pocket chosen for an ISSUE (R114, R115). -/

namespace Sys2Proof.Machine

/-! ### The first of the greatest -/

section
variable {α : Type} {key : α → Nat} {l : List α} {a : α}

theorem pickMost_eq_none : pickMost key l = none ↔ l = [] := by
  cases l with
  | nil => simp [pickMost]
  | cons a rest =>
    unfold pickMost
    split <;> (try split) <;> simp

/-- The element picked has the greatest key, and is the first with it in a list that a relation orders. -/
theorem pickMost_best {R : α → α → Prop} (ordered : l.Pairwise R) (picked : pickMost key l = some a) :
    ∀ b ∈ l, key b ≤ key a ∧ (key b = key a → b = a ∨ R a b) := by
  induction l generalizing a with
  | nil => cases picked
  | cons c rest ih =>
    obtain ⟨before, ordered⟩ := List.pairwise_cons.mp ordered
    unfold pickMost at picked
    split at picked
    · next none =>
      cases picked
      simp [pickMost_eq_none.mp none]
    · next d found =>
      have best := ih ordered found
      split at picked <;> cases picked
      · next less =>
        refine List.forall_mem_cons.mpr ⟨⟨less.le, fun same => absurd same less.ne⟩, best⟩
      · next most =>
        refine List.forall_mem_cons.mpr ⟨⟨le_rfl, fun _ => .inl rfl⟩, fun b mem => ?_⟩
        exact ⟨(best b mem).1.trans (not_lt.mp most), fun _ => .inr (before b mem)⟩

end

/-! ### Pockets with their numbers -/

theorem State.mem_numbered {s : State} {k : Pocket} {p : Nat} :
    (k, p) ∈ numbered s.bank.pockets ↔ s.pocket? p = some k := by
  rw [numbered, List.mk_mem_zipIdx_iff_le_and_getElem?_sub, State.pocket?_eq_some_iff, Nat.one_le_iff_ne_zero]

theorem numbered_ordered (pockets : List Pocket) : (numbered pockets).Pairwise (fun c d => c.2 < d.2) := by
  rw [← List.pairwise_map, numbered, List.zipIdx_map_snd]
  exact List.pairwise_lt_range'

/-! ### Candidates and their rank -/

section
variable {s : State} {cls station : Nat} {k : Pocket} {records : List ToolRecord}

/-- A candidate (R114): in service and CLOSED, unmarked or marked for the station, with a FIT record of the class. -/
def State.Candidate (s : State) (cls station : Nat) (k : Pocket) : Prop :=
  k.fault = .none ∧ k.lock = .closed ∧ (k.reservedFor = none ∨ k.reservedFor = some station)
    ∧ ∃ tool r p, k.occupancy = .held tool ∧ s.find tool = some r ∧ r.state = .stocked p
        ∧ r.image.fit = true ∧ r.image.cls = cls

theorem Pocket.inService_iff : k.inService = true ↔ k.fault = .none := beq_iff_eq

theorem RecordState.code_eq_one {st : RecordState} : st.code = 1 ↔ ∃ p, st = .stocked p := by
  cases st <;> simp [RecordState.code]

theorem State.recordIn_eq_some {r : ToolRecord} : recordIn s.records k = some r ↔
    ∃ tool, k.occupancy = .held tool ∧ s.find tool = some r := by
  unfold recordIn State.find
  split
  · next tool held => simp [held]
  · next other => simpa using fun tool held => absurd held (other tool)

theorem State.holdsFit_iff : holdsFit s.records cls k = true ↔
    ∃ tool r p, k.occupancy = .held tool ∧ s.find tool = some r ∧ r.state = .stocked p
      ∧ r.image.fit = true ∧ r.image.cls = cls := by
  have shown : holdsFit s.records cls k = true ↔
      ∃ r, recordIn s.records k = some r ∧ r.state.code = 1 ∧ r.image.fit = true ∧ r.image.cls = cls := by
    unfold holdsFit
    split <;> simp [*, and_assoc]
  simp only [shown, State.recordIn_eq_some, RecordState.code_eq_one]
  constructor
  · rintro ⟨r, ⟨tool, held, found⟩, ⟨p, stocked⟩, rest⟩
    exact ⟨tool, r, p, held, found, stocked, rest⟩
  · rintro ⟨tool, r, p, held, found, stocked, rest⟩
    exact ⟨r, ⟨tool, held, found⟩, ⟨p, stocked⟩, rest⟩

theorem State.candidate_iff : candidate s.records cls station k = true ↔ s.Candidate cls station k := by
  simp only [candidate, State.Candidate, Bool.and_eq_true, Bool.or_eq_true, Pocket.inService_iff,
    Lock.isClosed_eq_true, State.holdsFit_iff, Option.isNone_iff_eq_none, beq_iff_eq]
  tauto

/-- Remaining life is at most the greatest life limit. -/
theorem lifeIn_le {bound : Nat} (limits : ∀ r ∈ records, r.image.lifeLimit ≤ bound) (k : Pocket) :
    lifeIn records k ≤ bound := by
  unfold lifeIn
  split
  · next r found =>
    have mem : r ∈ records := by
      unfold recordIn at found
      split at found
      · exact List.mem_of_find?_eq_some found
      · cases found
    exact (Nat.sub_le _ _).trans (limits r mem)
  · exact Nat.zero_le _

/-- A mark for the station outranks every remaining life. -/
theorem marked_of_issueRank_le {k' : Pocket} (limits : ∀ r ∈ records, r.image.lifeLimit ≤ 4194303)
    (rank : issueRank records station k' ≤ issueRank records station k) (mark : k'.reservedFor = some station) :
    k.reservedFor = some station := by
  by_contra unmarked
  have life := lifeIn_le limits k
  simp only [issueRank, mark, unmarked, if_true, if_false] at rank
  omega

theorem issueRank_eq {k' : Pocket} (alike : k.reservedFor = some station ↔ k'.reservedFor = some station) :
    issueRank records station k = (if k'.reservedFor = some station then 2 ^ 32 else 0) + lifeIn records k := by
  simp only [issueRank, alike]

theorem State.mem_candidates {p : Nat} : (k, p) ∈ (numbered s.bank.pockets).filter
    (fun c => candidate s.records cls station c.1) ↔ s.pocket? p = some k ∧ s.Candidate cls station k := by
  rw [List.mem_filter, State.mem_numbered, State.candidate_iff]

/-- The chosen pocket is a candidate (R114). -/
theorem State.choosePocket_candidate {p : Nat} (chosen : s.choosePocket cls station = some (k, p)) :
    s.pocket? p = some k ∧ s.Candidate cls station k :=
  State.mem_candidates.mp (pickMost_mem chosen)

theorem State.choosePocket_eq_none : s.choosePocket cls station = none ↔
    ∀ q k', s.pocket? q = some k' → ¬ s.Candidate cls station k' := by
  rw [State.choosePocket, pickMost_eq_none, List.eq_nil_iff_forall_not_mem]
  refine ⟨fun none q k' entry fits => none (k', q) (State.mem_candidates.mpr ⟨entry, fits⟩), fun none ⟨k', q⟩ mem => ?_⟩
  obtain ⟨entry, fits⟩ := State.mem_candidates.mp mem
  exact none q k' entry fits

/-- No candidate outranks the chosen pocket, and one of its rank has no lower number (R115). -/
theorem State.choosePocket_best {p q : Nat} {k' : Pocket} (chosen : s.choosePocket cls station = some (k, p))
    (entry : s.pocket? q = some k') (fits : s.Candidate cls station k') :
    issueRank s.records station k' ≤ issueRank s.records station k
      ∧ (issueRank s.records station k' = issueRank s.records station k → p ≤ q) := by
  have ordered := (numbered_ordered s.bank.pockets).filter (fun c => candidate s.records cls station c.1)
  obtain ⟨most, first⟩ := pickMost_best ordered chosen (k', q) (State.mem_candidates.mpr ⟨entry, fits⟩)
  refine ⟨most, fun same => ?_⟩
  obtain here | before := first same
  · cases here
    exact le_rfl
  · exact Nat.le_of_lt before

end

end Sys2Proof.Machine

namespace Sys2Proof.Proofs

open Sys2Proof.Machine

/-- Settles O33: the rank puts the mark above every life, and the search takes the first of the greatest. -/
theorem issueChoosesTheBestPocket : Obligations.IssueChoosesTheBestPocket := by
  unfold Obligations.IssueChoosesTheBestPocket
  intro s cls station limits
  refine ⟨fun k p chosen => ?_, State.choosePocket_eq_none⟩
  obtain ⟨entry, fits⟩ := State.choosePocket_candidate chosen
  refine ⟨entry, fits, fun q k' entry' fits' => ?_⟩
  obtain ⟨most, first⟩ := State.choosePocket_best chosen entry' fits'
  refine ⟨marked_of_issueRank_le limits most, fun alike => ?_⟩
  rw [issueRank_eq alike, issueRank] at most first
  exact ⟨Nat.le_of_add_le_add_left most, fun same => first (congrArg _ same)⟩

end Sys2Proof.Proofs
end

section
/-! SUPPORT. O34 to O36: what a crib operation leaves alone, the checks of R112, open requests, and the start of an
operation. -/

namespace Sys2Proof.Machine

/-! ### The rest of the node -/

/-- The second state is the first but for the bank, the panels and the notices. -/
def SameElsewhere (s t : State) : Prop := t = { s with bank := t.bank, panels := t.panels, notices := t.notices }

section
variable {s t u : State} {i : PanelId} {p q : Nat} {k : Pocket} {why : Opening}

theorem SameElsewhere.refl (s : State) : SameElsewhere s s := rfl

theorem SameElsewhere.trans (h : SameElsewhere s t) (h' : SameElsewhere t u) : SameElsewhere s u :=
  Eq.trans h' (congrArg (fun v : State => { v with bank := u.bank, panels := u.panels, notices := u.notices }) h)

theorem SameElsewhere.markingPass (h : SameElsewhere s t) : SameElsewhere s t.markingPass := h.trans rfl

theorem SameElsewhere.startRule (h : SameElsewhere s t) : SameElsewhere s t.startRule := by
  refine h.trans ?_
  rw [SameElsewhere, t.startRule_frame]

theorem SameElsewhere.setPocket (h : SameElsewhere s t) (f : Pocket → Pocket) : SameElsewhere s (t.setPocket p f) := by
  refine h.trans ?_
  unfold SameElsewhere State.setPocket
  split <;> rfl

theorem SameElsewhere.setPanel (h : SameElsewhere s t) (f : Panel → Panel) : SameElsewhere s (t.setPanel i f) := by
  refine h.trans ?_
  cases i <;> rfl

theorem SameElsewhere.post (h : SameElsewhere s t) (kind : NoticeKind) (o a : BitVec 32) :
    SameElsewhere s (t.post kind o a) := by
  refine h.trans ?_
  unfold SameElsewhere State.post
  split <;> rfl

theorem SameElsewhere.closeWindow (h : SameElsewhere s t) (cause : CloseCause) :
    SameElsewhere s (t.closeWindow i cause) := h.trans (by rw [SameElsewhere, t.closeWindow_frame])

theorem SameElsewhere.now (h : SameElsewhere s t) : t.now = s.now := (congrArg State.now h :)
theorem SameElsewhere.config (h : SameElsewhere s t) : t.config = s.config := (congrArg State.config h :)
theorem SameElsewhere.records (h : SameElsewhere s t) : t.records = s.records := (congrArg State.records h :)
theorem SameElsewhere.line (h : SameElsewhere s t) : t.line = s.line := (congrArg State.line h :)
theorem SameElsewhere.roster (h : SameElsewhere s t) : t.roster = s.roster := (congrArg State.roster h :)
theorem SameElsewhere.custody (h : SameElsewhere s t) : t.custody = s.custody := (congrArg State.custody h :)
theorem SameElsewhere.head (h : SameElsewhere s t) : t.head = s.head := (congrArg State.head h :)
theorem SameElsewhere.magazine (h : SameElsewhere s t) : t.magazine = s.magazine := (congrArg State.magazine h :)
theorem SameElsewhere.demand (h : SameElsewhere s t) : t.demand = s.demand := (congrArg State.demand h :)
theorem SameElsewhere.reservations (h : SameElsewhere s t) : t.reservations = s.reservations :=
  (congrArg State.reservations h :)

theorem State.panel_markingPass (s : State) (i : PanelId) : s.markingPass.panel i = s.panel i :=
  State.panel_congr s.markingPass_panels i

/-! ### The checks of R112 -/

theorem State.fieldReady_iff : s.fieldReady = true ↔ s.port.nodeState = .online ∨ s.port.nodeState = .listenOnly := by
  simp [State.fieldReady]

theorem State.configured_of_fieldReady (ready : s.port.nodeState = .online ∨ s.port.nodeState = .listenOnly) :
    s.configured = true := by
  refine State.configured_eq_true fun e => ?_
  rw [e] at ready
  exact absurd ready (by decide)

theorem Panel.allowed_eq_false {pn : Panel} {o : OpenPurpose} : pn.allowed o = false ↔
    ∀ w, pn.window = some w → w.privilege.allows o = false := by
  unfold Panel.allowed
  cases pn.window <;> simp

section
variable {b : Byte} {inRange : Bool} {o : OpenPurpose}

theorem State.cribCheck_unconfigured (unknown : s.port.nodeState = .unconfigured) :
    s.cribCheck b inRange o = .error .notConfigured := by
  simp [State.cribCheck, State.configured_eq_false unknown]

theorem State.cribCheck_outOfRange (known : s.configured = true)
    (out : panelOf b = none ∨ s.config.pocketCount = 0 ∨ inRange = false) :
    s.cribCheck b inRange o = .error .outOfRange := by
  unfold State.cribCheck
  rw [if_neg (by simp [known])]
  split
  · rfl
  · next panel => exact if_pos (by simpa [panel] using out)

/-- The checks of a configured node with pockets, for a panel and parameters in range. -/
theorem State.cribCheck_inRange (known : s.configured = true) (panel : panelOf b = some i)
    (pockets : s.config.pocketCount ≠ 0) (inside : inRange = true) : s.cribCheck b inRange o =
      if s.fieldReady = false then .error .notOnline
      else if (s.panel i).allowed o = false then .error .noAccess
      else if (s.panel i).operation ≠ none then .error .busy
      else if s.bank.supply = .low then .error .supplyLow
      else .ok i := by
  simp [State.cribCheck, known, panel, pockets, inside, Option.isSome_iff_ne_none]

/-- The checks pass (R112). -/
theorem State.cribCheck_ok {w : Window} (ready : s.port.nodeState = .online ∨ s.port.nodeState = .listenOnly)
    (panel : panelOf b = some i) (pockets : s.config.pocketCount ≠ 0) (inside : inRange = true)
    (window : (s.panel i).window = some w) (allowed : w.privilege.allows o = true)
    (idle : (s.panel i).operation = none) (supply : s.bank.supply = .normal) : s.cribCheck b inRange o = .ok i := by
  rw [State.cribCheck_inRange (State.configured_of_fieldReady ready) panel pockets inside]
  simp [State.fieldReady_iff.mpr ready, Panel.allowed, window, allowed, idle, supply]

/-- The refusals of R112 in their order. -/
def State.CribRefusals (s : State) (c : Instr) (b : Byte) (inside : Prop) (allows : Privilege → Prop) : Prop :=
  let answer (r : HostResult) : Prop := exec c s = .next (s.answered r [])
  (s.port.nodeState = .unconfigured → answer .notConfigured)
  ∧ (s.port.nodeState ≠ .unconfigured →
    (panelOf b = none ∨ s.config.pocketCount = 0 ∨ ¬ inside → answer .outOfRange)
    ∧ (∀ i, panelOf b = some i → s.config.pocketCount ≠ 0 → inside →
      (s.port.nodeState ≠ .online → s.port.nodeState ≠ .listenOnly → answer .notOnline)
      ∧ (s.port.nodeState = .online ∨ s.port.nodeState = .listenOnly →
        ((∀ w, (s.panel i).window = some w → ¬ allows w.privilege) → answer .noAccess)
        ∧ (∀ w, (s.panel i).window = some w → allows w.privilege →
          ((s.panel i).operation ≠ none → answer .busy)
          ∧ ((s.panel i).operation = none → s.bank.supply = .low → answer .supplyLow)))))

/-- A command that answers what the checks refuse has the refusals of R112. -/
theorem State.cribRefusals {c : Instr} {inside : Prop} {allows : Privilege → Prop} (within : inRange = true ↔ inside)
    (privileges : ∀ v : Privilege, v.allows o = true ↔ allows v)
    (refuses : ∀ r, s.cribCheck b inRange o = .error r → exec c s = .next (s.answered r [])) :
    s.CribRefusals c b inside allows := by
  refine ⟨fun unknown => refuses _ (State.cribCheck_unconfigured unknown), fun known => ⟨fun out => ?_,
    fun i panel pockets range => ?_⟩⟩
  · rw [← within, Bool.not_eq_true] at out
    exact refuses _ (State.cribCheck_outOfRange (State.configured_eq_true known) out)
  have check := State.cribCheck_inRange (o := o) (State.configured_eq_true known) panel pockets (within.mpr range)
  refine ⟨fun notOnline notListening => refuses _ (check.trans (if_pos ?_)), fun ready => ?_⟩
  · simp [State.fieldReady, notOnline, notListening]
  rw [State.fieldReady_iff.mpr ready, if_neg Bool.noConfusion] at check
  refine ⟨fun shut => refuses _ (check.trans (if_pos ?_)), fun w window allowed => ?_⟩
  · exact Panel.allowed_eq_false.mpr fun w window => Bool.eq_false_iff.mpr (mt (privileges _).mp (shut w window))
  have passes : (s.panel i).allowed o = true := by simpa [Panel.allowed, window] using (privileges _).mpr allowed
  rw [passes, if_neg Bool.noConfusion] at check
  refine ⟨fun busy => refuses _ (check.trans (if_pos busy)), fun idle low => refuses _ (check.trans ?_)⟩
  rw [if_neg (not_not.mpr idle), if_pos low]

end

/-! ### Open requests (R89, R102) -/

theorem Lock.opening_eq_none {l : Lock} : l.opening = none ↔ l = .closed := by cases l <;> simp [Lock.opening]

/-- Every entry after the start rule is the old one, its lock with the same opening. -/
theorem State.startRule_entry (entry : s.pocket? q = some k) :
    ∃ l, s.startRule.pocket? q = some { k with lock := l } ∧ l.opening = k.lock.opening := by
  have shown := State.pocket?_map_congr (State.startRule_map
    (g := fun k : Pocket => (k.lock.opening, { k with lock := .closed }))
    (fun k => by simp [Pocket.started, Lock.opening_pulled]) s) q
  rw [entry, Option.map_some, Option.map_eq_some_iff] at shown
  obtain ⟨k', entry', same⟩ := shown
  simp only [Prod.mk.injEq, Pocket.mk.injEq] at same
  obtain ⟨opening, presence, occupancy, -, fault, mark⟩ := same
  refine ⟨k'.lock, entry'.trans ?_, opening⟩
  simp [← presence, ← occupancy, ← fault, ← mark]

/-- A pocket at the end of the drive queue, its lock QUEUED and its mark replaced. -/
def State.requested (s : State) (p : Nat) (why : Opening) (m : Option Nat) : State :=
  State.setPocket { s with bank.queue := s.bank.queue ++ [p] } p
    (fun k => { k with lock := .queued why, reservedFor := m })

theorem State.requested_elsewhere (s : State) (p : Nat) (why : Opening) (m : Option Nat) :
    SameElsewhere s (s.requested p why m).startRule :=
  (SameElsewhere.setPocket (t := { s with bank.queue := s.bank.queue ++ [p] }) rfl _).startRule

/-- The panels and the notices stay. -/
theorem State.requested_frame (s : State) (p : Nat) (why : Opening) (m : Option Nat) :
    (s.requested p why m).startRule.panels = s.panels ∧ (s.requested p why m).startRule.notices = s.notices
      ∧ (s.requested p why m).startRule.bank.supply = s.bank.supply := by
  simp [State.requested]

theorem State.requested_entry (entry : s.pocket? p = some k) (why : Opening) (m : Option Nat) :
    ∃ l, (s.requested p why m).startRule.pocket? p = some { k with lock := l, reservedFor := m }
      ∧ l.opening = some why :=
  State.startRule_entry (State.pocket?_setPocket (s := { s with bank.queue := s.bank.queue ++ [p] }) entry _)

theorem State.requested_entry_ne (entry : s.pocket? q = some k) (other : q ≠ p) (why : Opening) (m : Option Nat) :
    ∃ l, (s.requested p why m).startRule.pocket? q = some { k with lock := l } ∧ l.opening = k.lock.opening :=
  State.startRule_entry ((State.pocket?_setPocket_ne other _).trans entry)

/-- An open request that is taken, and the mark it keeps. -/
theorem State.openRequest_requested {station : Option Nat} (entry : s.pocket? p = some k)
    (supply : s.bank.supply = .normal) (service : k.fault = .none) (closed : k.lock = .closed) :
    s.openRequest p why station = .ok (s.requested p why
      (if why.purpose = .issue ∧ k.reservedFor = station then k.reservedFor else none)).startRule := by
  rw [(State.openRequest_cases entry why station).2.2.2 supply service closed, State.requested,
    State.setPocket_congr (s := { s with bank.queue := s.bank.queue ++ [p] }) (k := k) entry]
  simp only [Bool.and_eq_true, beq_iff_eq]

/-! ### An operation starts (R112) -/

/-- An operation as it starts. -/
def OpKind.begun (kind : OpKind) (l : List Nat) : Operation := { kind := kind, pockets := l.map OpPocket.waiting }

theorem OpKind.begun_numbers (kind : OpKind) (l : List Nat) : (kind.begun l).pockets.map (·.pocket) = l := by
  simp [OpKind.begun, OpPocket.waiting, Function.comp_def]

theorem SameElsewhere.startOperation (h : SameElsewhere s t) (kind : OpKind) (l : List Nat) :
    SameElsewhere s (t.startOperation i kind l) := (h.setPanel _).closeWindow _

/-- The panel holds the operation, and its window is closed as USED. -/
theorem State.startOperation_panel (s : State) (i : PanelId) (kind : OpKind) (l : List Nat) :
    (s.startOperation i kind l).panel i = { s.panel i with window := none, operation := some (kind.begun l) } := by
  rw [State.startOperation, State.closeWindow_panel, State.panel_setPanel_same]
  rfl

theorem State.startOperation_notices {w : Window} (panels : t.panels = s.panels) (notices : t.notices = s.notices)
    (now : t.now = s.now) (window : (s.panel i).window = some w) (kind : OpKind) (l : List Nat) :
    (t.startOperation i kind l).notices = (s.post .accessClosed (num (panelCode i)) (num 2)).notices := by
  have isOpen : ((t.setPanel i (fun p => { p with operation := some (kind.begun l) })).panel i).window ≠ none := by
    rw [State.panel_setPanel_same, State.panel_congr panels]
    simp [window]
  refine ((State.closeWindow_notices _ i .used).trans (congrArg State.notices (if_neg isOpen))).trans ?_
  exact State.post_notices_congr (by simpa using notices) (by simpa using now) _ _ _

/-- An operation with one pocket starts: its pocket is opened, its panel holds it, and the closed window is told. -/
theorem State.startOperation_requested {w : Window} (entry : s.pocket? p = some k)
    (window : (s.panel i).window = some w) (why : Opening) (m : Option Nat) (kind : OpKind) :
    let u := (s.requested p why m).startRule.startOperation i kind [p]
    SameElsewhere s u
      ∧ u.panel i = { s.panel i with window := none, operation := some (kind.begun [p]) }
      ∧ u.notices = (s.post .accessClosed (num (panelCode i)) (num 2)).notices
      ∧ ∃ l, u.pocket? p = some { k with lock := l, reservedFor := m } ∧ l.opening = some why := by
  obtain ⟨panels, notices, -⟩ := s.requested_frame p why m
  have elsewhere := s.requested_elsewhere p why m
  obtain ⟨l, entry', opening⟩ := State.requested_entry entry why m
  refine ⟨elsewhere.startOperation kind [p], ?_,
    State.startOperation_notices panels notices elsewhere.now window kind [p], l, ?_, opening⟩
  · rw [State.startOperation_panel, State.panel_congr panels]
  · rw [State.pocket?_congr (congrArg Bank.pockets (State.startOperation_bank ..)), entry']

end

end Sys2Proof.Machine
end

section
/-! O34: ISSUE, and the refusals common to ISSUE, RETURN and SERVICE_OPEN (R112 to R116). -/

namespace Sys2Proof.Machine

/-! ### Parameters in range, and the privileges that allow an operation -/

section
variable {s : State}

theorem issue_inRange {cls : BitVec 16} {station : Byte} :
    (cls != 0 && station.toNat ≤ 62) = true ↔ cls ≠ 0 ∧ station.toNat ≤ 62 := by simp

theorem State.returnInRange_iff {given : Option Byte} : s.returnInRange given = true ↔
    ∀ b, given = some b → s.pocket? b.toNat ≠ none := by
  cases given <;> simp [State.returnInRange, Option.isSome_iff_ne_none]

theorem State.listInRange_iff {list : List Byte} : s.listInRange list = true ↔
    list ≠ [] ∧ list.length ≤ 8 ∧ ∀ b ∈ list, s.pocket? b.toNat ≠ none := by
  simp only [State.listInRange, Bool.and_eq_true, bne_iff_ne, decide_eq_true_eq, List.all_eq_true,
    Option.isSome_iff_ne_none, and_assoc]
  rfl

theorem Privilege.allows_issue {v : Privilege} : v.allows .issue = true ↔ v = .issue ∨ v = .both := by
  cases v <;> simp [Privilege.allows]

theorem Privilege.allows_ret {v : Privilege} : v.allows .ret = true ↔ v = .ret ∨ v = .both := by
  cases v <;> simp [Privilege.allows]

theorem Privilege.allows_service {v : Privilege} : v.allows .service = true ↔ v = .service := by
  cases v <;> simp [Privilege.allows]

/-! ### What the checks refuse, the command refuses -/

section
variable {panel : Byte} {r : HostResult}

theorem execIssue_refuses {cls : BitVec 16} {station : Byte} (free : s.PortFree)
    (refused : s.cribCheck panel (cls != 0 && station.toNat ≤ 62) .issue = .error r) :
    exec (.issue panel cls station) s = .next (s.answered r []) :=
  hostCommand_error free (by simp only [issueBody, refused])

theorem execReturn_refuses {given : Option Byte} (free : s.PortFree)
    (refused : s.cribCheck panel (s.returnInRange given) .ret = .error r) :
    exec (.returnTool panel given) s = .next (s.answered r []) :=
  hostCommand_error free (by simp only [returnBody, refused])

theorem execServiceOpen_refuses {list : List Byte} (free : s.PortFree) (short : list.length ≤ 254)
    (refused : s.cribCheck panel (s.listInRange list) .service = .error r) :
    exec (.serviceOpen panel list) s = .next (s.answered r []) :=
  hostCommand_error free (by simp only [serviceOpenBody, if_neg (not_lt.mpr short), refused])

end

/-! ### ISSUE (R114 to R116) -/

section
variable {panel station : Byte} {cls : BitVec 16} {i : PanelId}

theorem execIssue_noneAvailable (free : s.PortFree)
    (checked : s.cribCheck panel (cls != 0 && station.toNat ≤ 62) .issue = .ok i)
    (none : s.choosePocket cls.toNat station.toNat = none) :
    exec (.issue panel cls station) s = .next (s.answered .noneAvailable []) :=
  hostCommand_error free (by simp only [issueBody, checked, none])

theorem execIssue_taken {k : Pocket} {p : Nat} {t : State} (free : s.PortFree)
    (checked : s.cribCheck panel (cls != 0 && station.toNat ≤ 62) .issue = .ok i)
    (chosen : s.choosePocket cls.toNat station.toNat = some (k, p))
    (opened : s.openRequest p { purpose := .issue, panel := i } (stationMark station.toNat) = .ok t) :
    exec (.issue panel cls station) s = .next ((t.startOperation i (.issue cls.toNat station.toNat) [p]).answered .ok
      (byte p ++ flagByte (k.reservedFor == some station.toNat))) :=
  hostCommand_ok free (by simp only [issueBody, checked, chosen, opened])

/-- A candidate opened for a for-station other than 0 keeps its mark: it has none, or the station's (R102, R114). -/
theorem keptMark_of_candidate {n : Nat} {k : Pocket} (given : n ≠ 0)
    (mark : k.reservedFor = none ∨ k.reservedFor = some n) :
    (if OpenPurpose.issue = .issue ∧ k.reservedFor = stationMark n then k.reservedFor else none) = k.reservedFor := by
  obtain mark | mark := mark <;> simp [mark, stationMark, given]

end

end

end Sys2Proof.Machine

namespace Sys2Proof.Proofs

open Sys2Proof.Machine

/-- Settles O34: the chosen pocket is a candidate, so its open request is taken; the refusals are those of the common
checks. -/
theorem issueOpensTheChosenPocket : Obligations.IssueOpensTheChosenPocket := by
  unfold Obligations.IssueOpensTheChosenPocket
  refine ⟨?_, ?_, fun s free => ⟨fun panel cls station => ?_, fun panel given => ?_, fun panel list short => ?_⟩⟩
  · intro panel cls station i w k p s free ready here pockets named inside window allowed idle supply chosen
    have checked := State.cribCheck_ok ready here pockets (issue_inRange.mpr ⟨named, inside⟩) window
      (Privilege.allows_issue.mpr allowed) idle supply
    obtain ⟨entry, service, closed, mark, -⟩ := State.choosePocket_candidate chosen
    have opened := State.openRequest_requested (why := { purpose := .issue, panel := i })
      (station := stationMark station.toNat) entry supply service closed
    obtain ⟨rest, shown, told, l, entry', opening⟩ := State.startOperation_requested entry window
      { purpose := .issue, panel := i } _ (.issue cls.toNat station.toNat)
    refine ⟨_, _, execIssue_taken free checked chosen opened, ?_, shown, entry', opening, rfl, fun given => ?_,
      fun q o other there => ?_, told, rest.records, rest.line, rest.roster, rest.custody, rest.head, rest.magazine,
      rest.demand, rest.reservations, rest.config⟩
    · simp [State.answered, flagByte]
    · exact keptMark_of_candidate (fun zero => given (BitVec.eq_of_toNat_eq zero)) mark
    · obtain ⟨l, there', same⟩ := State.requested_entry_ne there other { purpose := .issue, panel := i } _
      exact ⟨l, (State.pocket?_congr (congrArg Bank.pockets (State.startOperation_bank ..)) q).trans there', same⟩
  · intro panel cls station i w s free ready here pockets named inside window allowed idle supply none
    exact execIssue_noneAvailable free (State.cribCheck_ok ready here pockets (issue_inRange.mpr ⟨named, inside⟩) window
      (Privilege.allows_issue.mpr allowed) idle supply) none
  · exact State.cribRefusals issue_inRange (fun _ => Privilege.allows_issue) fun _ => execIssue_refuses free
  · exact State.cribRefusals State.returnInRange_iff (fun _ => Privilege.allows_ret) fun _ => execReturn_refuses free
  · exact State.cribRefusals State.listInRange_iff (fun _ => Privilege.allows_service)
      fun _ => execServiceOpen_refuses free short

end Sys2Proof.Proofs
end

section
/-! O35: RETURN (R112, R117, R118). -/

namespace Sys2Proof.Machine

section
variable {s : State} {i : PanelId} {panel : Byte} {given : Option Byte} {k : Pocket} {p : Nat}

/-- A pocket that a RETURN may open: EMPTY, in service, CLOSED (R117). -/
def Pocket.SuitsReturn (k : Pocket) : Prop := k.occupancy = .empty ∧ k.fault = .none ∧ k.lock = .closed

theorem Pocket.takesReturn_iff : k.takesReturn = true ↔ k.SuitsReturn ∧ k.reservedFor = none := by
  simp only [Pocket.takesReturn, Pocket.SuitsReturn, Bool.and_eq_true, beq_iff_eq, Pocket.inService_iff,
    Lock.isClosed_eq_true, Option.isNone_iff_eq_none, and_assoc]

/-! ### The pocket of a RETURN (R117) -/

/-- A given pocket by its occupancy, its fault and its lock. -/
theorem State.returnPocket_given {b : Byte} (entry : s.pocket? b.toNat = some k) : s.returnPocket (some b) =
    if k.occupancy ≠ .empty then .error .placeConflict
    else if k.fault ≠ .none then .error .pocketFault
    else if k.lock ≠ .closed then .error .badState
    else .ok b.toNat := by
  simp [State.returnPocket, entry, Pocket.inService, Lock.isClosed_eq_false]

/-- Without a given pocket it is the lowest-numbered unmarked one that suits. -/
theorem State.returnPocket_lowest (entry : s.pocket? p = some k) (suits : k.SuitsReturn)
    (unmarked : k.reservedFor = none)
    (lowest : ∀ q k', q < p → s.pocket? q = some k' → ¬ (k'.SuitsReturn ∧ k'.reservedFor = none)) :
    s.returnPocket none = .ok p := by
  obtain ⟨pos, place⟩ := State.pocket?_eq_some_iff.mp entry
  have found := find?_zipIdx_eq_some 1 place (Pocket.takesReturn_iff.mpr ⟨suits, unmarked⟩) fun m k' before here =>
    Bool.eq_false_iff.mpr (mt Pocket.takesReturn_iff.mp
      (lowest (m + 1) k' (by omega) (State.pocket?_eq_some_iff.mpr ⟨Nat.succ_ne_zero m, here⟩)))
  rw [Nat.add_sub_cancel' (Nat.one_le_iff_ne_zero.mpr pos)] at found
  simp only [State.returnPocket, numbered, found]

theorem State.returnPocket_noneAvailable
    (none : ∀ p k, s.pocket? p = some k → ¬ (k.SuitsReturn ∧ k.reservedFor = none)) :
    s.returnPocket .none = .error .noneAvailable := by
  have unfound := find?_zipIdx_eq_none (test := Pocket.takesReturn) 1 (l := s.bank.pockets) fun k mem => by
    obtain ⟨m, here⟩ := List.getElem?_of_mem mem
    exact Bool.eq_false_iff.mpr (mt Pocket.takesReturn_iff.mp
      (none (m + 1) k (State.pocket?_eq_some_iff.mpr ⟨Nat.succ_ne_zero m, here⟩)))
  simp only [State.returnPocket, numbered, unfound]

/-! ### The command -/

theorem execReturn_unsuited {r : HostResult} (free : s.PortFree)
    (checked : s.cribCheck panel (s.returnInRange given) .ret = .ok i) (unsuited : s.returnPocket given = .error r) :
    exec (.returnTool panel given) s = .next (s.answered r []) :=
  hostCommand_error free (by simp only [returnBody, checked, unsuited])

theorem execReturn_taken {t : State} (free : s.PortFree)
    (checked : s.cribCheck panel (s.returnInRange given) .ret = .ok i) (chosen : s.returnPocket given = .ok p)
    (opened : s.openRequest p { purpose := .ret, panel := i } none = .ok t) :
    exec (.returnTool panel given) s = .next (((t.startOperation i .ret [p]).markingPass).answered .ok (byte p)) :=
  hostCommand_ok free (by simp only [returnBody, checked, chosen, opened])

/-- A RETURN opens a pocket (R112, R118). -/
def State.ReturnOpens (s : State) (i : PanelId) (c : Instr) (p : Nat) : Prop :=
  ∃ t k', exec c s = .next t
    ∧ t.port.response = some { result := .ok, payload := byte p }
    ∧ t.panel i = { s.panel i with window := none, operation := some (OpKind.ret.begun [p]) }
    ∧ t.pocket? p = some k' ∧ k'.lock.opening = some { purpose := .ret, panel := i }
    ∧ t.notices = (s.post .accessClosed (num (panelCode i)) (num 2)).notices
    ∧ t.records = s.records ∧ t.line = s.line ∧ t.custody = s.custody ∧ t.reservations = s.reservations

theorem execReturn_opens {w : Window} (free : s.PortFree)
    (checked : s.cribCheck panel (s.returnInRange given) .ret = .ok i) (window : (s.panel i).window = some w)
    (supply : s.bank.supply = .normal) (chosen : s.returnPocket given = .ok p) (entry : s.pocket? p = some k)
    (suits : k.SuitsReturn) : s.ReturnOpens i (.returnTool panel given) p := by
  obtain ⟨-, service, closed⟩ := suits
  have opened := State.openRequest_requested (why := { purpose := .ret, panel := i }) (station := none) entry supply
    service closed
  obtain ⟨rest, shown, told, l, entry', opening⟩ := State.startOperation_requested entry window
    { purpose := .ret, panel := i } none .ret
  obtain ⟨m, entry''⟩ := State.pocket?_markingPass entry'
  have passed := rest.markingPass
  refine ⟨_, _, execReturn_taken free checked chosen opened, rfl, ?_, entry'', opening, ?_, passed.records, passed.line,
    passed.custody, passed.reservations⟩
  · exact (State.panel_markingPass _ i).trans shown
  · exact (State.markingPass_notices _).trans told

end

end Sys2Proof.Machine
end

section
/-! SUPPORT. O35: the open requests of a SERVICE_OPEN in list order (R119). -/

namespace Sys2Proof.Machine

/-- Each element with those before it: the first one has none, and is before every other. -/
theorem flatMap_zipIdx_take_cons {α β : Type} (f : α → List α → List β) (a : α) (l : List α) :
    (a :: l).zipIdx.flatMap (fun x => f x.1 ((a :: l).take x.2)) =
      f a [] ++ l.zipIdx.flatMap (fun x => f x.1 (a :: l.take x.2)) := by
  rw [List.zipIdx_cons, List.flatMap_cons, List.zipIdx_succ, List.flatMap_map]
  rfl

section
variable {s t : State} {i : PanelId} {b c : Byte} {p : Nat} {k : Pocket} {why : Opening} {station : Option Nat}

/-- A pocket that an open request takes: in service and CLOSED (R89). -/
def State.Opens (s : State) (p : Nat) : Prop := ∃ k, s.pocket? p = some k ∧ k.fault = .none ∧ k.lock = .closed

/-- What SERVICE_OPEN answers for a pocket behind the earlier entries of its list: POCKET_FAULT, BAD_STATE or OK
(R119). -/
def State.serviceResult (s : State) (b : Byte) (earlier : List Byte) : Byte :=
  match s.pocket? b.toNat with
  | none => 0
  | some k => if k.fault ≠ .none then 14 else if k.lock ≠ .closed ∨ b ∈ earlier then 2 else 0

/-! ### One open request -/

theorem State.opens_iff (entry : s.pocket? p = some k) : s.Opens p ↔ k.fault = .none ∧ k.lock = .closed := by
  simp [State.Opens, entry]

/-- The entries after a taken request: the pocket's lock has an opening, the others have the openings they had. -/
theorem State.openRequest_entry {q : Nat} (taken : s.openRequest p why station = .ok t) (entry : s.pocket? q = some k) :
    ∃ k', t.pocket? q = some k' ∧ k'.fault = k.fault
      ∧ k'.lock.opening = if q = p then some why else k.lock.opening := by
  obtain ⟨k₀, mark, entry₀, -, -, -, rfl⟩ := State.openRequest_ok taken
  have changed : (State.setPocket { s with bank.queue := s.bank.queue ++ [p] } p
      (fun k => { k with lock := .queued why, reservedFor := mark k })).pocket? q =
        some (if q = p then { k with lock := .queued why, reservedFor := mark k } else k) := by
    split
    · next here =>
      subst here
      exact State.pocket?_setPocket (s := { s with bank.queue := s.bank.queue ++ [q] }) entry _
    · next other => exact (State.pocket?_setPocket_ne other _).trans entry
  obtain ⟨l, entry', opening⟩ := State.startRule_entry changed
  refine ⟨_, entry', ?_, opening.trans ?_⟩ <;> split <;> rfl

theorem State.openRequest_frame (taken : s.openRequest p why station = .ok t) :
    SameElsewhere s t ∧ t.panels = s.panels ∧ t.notices = s.notices ∧ t.bank.supply = s.bank.supply := by
  obtain ⟨k, mark, -, -, -, -, rfl⟩ := State.openRequest_ok taken
  refine ⟨?_, by simp⟩
  exact (SameElsewhere.setPocket (t := { s with bank.queue := s.bank.queue ++ [p] }) rfl _).startRule

/-- After a taken request its pocket opens no more, and the others as before. -/
theorem State.openRequest_opens (taken : s.openRequest p why station = .ok t) (q : Nat) :
    t.Opens q ↔ q ≠ p ∧ s.Opens q := by
  constructor
  · rintro ⟨k', entry', service, closed⟩
    have held := State.pocket?_map_congr (s := s) (t := t) (g := fun _ => ()) ?_ q
    · rw [entry', Option.map_some, eq_comm] at held
      obtain ⟨k, entry, -⟩ := Option.map_eq_some_iff.mp held
      obtain ⟨k'', entry'', fault, opening⟩ := State.openRequest_entry taken entry
      cases entry'.symm.trans entry''
      rw [Lock.opening_eq_none.mpr closed] at opening
      split at opening
      · cases opening
      · next other => exact ⟨other, k, entry, fault.symm.trans service, Lock.opening_eq_none.mp opening.symm⟩
    · obtain ⟨k, mark, -, -, -, -, rfl⟩ := State.openRequest_ok taken
      rw [State.startRule_map fun _ => rfl]
      exact State.setPocket_map fun _ => rfl
  · rintro ⟨other, k, entry, service, closed⟩
    obtain ⟨k', entry', fault, opening⟩ := State.openRequest_entry taken entry
    rw [if_neg other, closed] at opening
    exact ⟨k', entry', fault.trans service, Lock.opening_eq_none.mp opening⟩

/-- The answer for a later entry: the pocket just opened stands among the earlier ones. -/
theorem State.serviceResult_taken (taken : s.openRequest b.toNat why station = .ok t)
    (inside : s.pocket? c.toNat ≠ none) (earlier : List Byte) :
    t.serviceResult c earlier = s.serviceResult c (b :: earlier) := by
  obtain ⟨k, entry⟩ := Option.ne_none_iff_exists'.mp inside
  obtain ⟨k', entry', fault, opening⟩ := State.openRequest_entry taken entry
  have closed : k'.lock ≠ .closed ↔ k.lock ≠ .closed ∨ c = b := by
    rw [ne_eq, ← Lock.opening_eq_none, opening, ne_eq, ← Lock.opening_eq_none, ← BitVec.toNat_inj]
    split <;> simp [*]
  simp only [State.serviceResult, entry, entry', fault, closed, List.mem_cons, or_assoc]

/-- A skipped entry changes no later answer. -/
theorem State.serviceResult_skipped (skipped : ¬ s.Opens b.toNat) (earlier : List Byte) :
    s.serviceResult c (b :: earlier) = s.serviceResult c earlier := by
  unfold State.serviceResult
  by_cases here : c = b
  · subst here
    split
    · rfl
    · next k entry =>
      rw [State.opens_iff entry] at skipped
      grind
  · simp only [List.mem_cons, here, false_or]

/-- A request by whether its pocket opens; the answer is the one for an entry with none before it. -/
theorem State.openRequest_listed (supply : s.bank.supply = .normal) (inside : s.pocket? b.toNat ≠ none) :
    (s.Opens b.toNat ∧ (∃ t, s.openRequest b.toNat why station = .ok t)
      ∧ byte HostResult.ok.code = [s.serviceResult b []])
    ∨ (¬ s.Opens b.toNat ∧ ∃ r, s.openRequest b.toNat why station = .error r
      ∧ byte r.code = [s.serviceResult b []]) := by
  obtain ⟨k, entry⟩ := Option.ne_none_iff_exists'.mp inside
  obtain ⟨-, fault, moving, taken⟩ := State.openRequest_cases entry why station
  rw [State.opens_iff entry]
  by_cases service : k.fault = .none
  · by_cases closed : k.lock = .closed
    · refine .inl ⟨⟨service, closed⟩, ⟨_, taken supply service closed⟩, ?_⟩
      simp only [State.serviceResult, entry, service, closed, ne_eq, not_true_eq_false, List.not_mem_nil, or_self,
        if_false]
      decide
    · refine .inr ⟨fun both => closed both.2, _, moving supply service closed, ?_⟩
      simp only [State.serviceResult, entry, service, closed, ne_eq, not_true_eq_false, not_false_eq_true, true_or,
        if_false, if_true]
      decide
  · refine .inr ⟨fun both => service both.1, _, fault supply service, ?_⟩
    simp only [State.serviceResult, entry, service, ne_eq, not_false_eq_true, if_true]
    decide

/-! ### The whole list -/

theorem openEach_taken {rest : List Byte}
    (taken : s.openRequest b.toNat { purpose := .service, panel := i } none = .ok t) :
    openEach s i (b :: rest) = ((openEach t i rest).1, b.toNat :: (openEach t i rest).2.1,
      b :: byte HostResult.ok.code ++ (openEach t i rest).2.2) := by
  simp only [openEach, taken]

theorem openEach_skipped {rest : List Byte} {r : HostResult}
    (skipped : s.openRequest b.toNat { purpose := .service, panel := i } none = .error r) :
    openEach s i (b :: rest) = ((openEach s i rest).1, (openEach s i rest).2.1,
      b :: byte r.code ++ (openEach s i rest).2.2) := by
  simp only [openEach, skipped]

/-- What the open requests of a list come to: the pockets opened in list order, their courses, and the answers. -/
structure OpensEach (s : State) (i : PanelId) (list : List Byte) (t : State) (pockets : List Nat) (answer : List Byte) :
    Prop where
  elsewhere : SameElsewhere s t
  panels : t.panels = s.panels
  notices : t.notices = s.notices
  order : pockets.Sublist (list.map BitVec.toNat)
  mem : ∀ p, p ∈ pockets ↔ p ∈ list.map BitVec.toNat ∧ s.Opens p
  course : ∀ p, t.course p = if p ∈ pockets then some ({ purpose := .service, panel := i }, false) else s.course p
  answers : answer = list.zipIdx.flatMap (fun x => [x.1, s.serviceResult x.1 (list.take x.2)])

/-- The answers of a list from those of its rest, where the first entry changes the state they are answered in. -/
theorem flatMap_serviceResult_cons {rest : List Byte}
    (later : ∀ c ∈ rest, ∀ earlier, t.serviceResult c earlier = s.serviceResult c (b :: earlier)) :
    (b :: rest).zipIdx.flatMap (fun x => [x.1, s.serviceResult x.1 ((b :: rest).take x.2)]) =
      [b, s.serviceResult b []] ++ rest.zipIdx.flatMap (fun x => [x.1, t.serviceResult x.1 (rest.take x.2)]) := by
  rw [flatMap_zipIdx_take_cons (fun c earlier => [c, s.serviceResult c earlier])]
  refine congrArg _ (List.flatMap_congr fun x mem => ?_)
  rw [later x.1 (List.fst_mem_of_mem_zipIdx mem)]

/-- Each listed pocket in service and CLOSED at its turn is opened; the others are skipped (R119). -/
theorem openEach_opens {list : List Byte} (supply : s.bank.supply = .normal)
    (inside : ∀ b ∈ list, s.pocket? b.toNat ≠ none) :
    OpensEach s i list (openEach s i list).1 (openEach s i list).2.1 (openEach s i list).2.2 := by
  induction list generalizing s with
  | nil => exact ⟨rfl, rfl, rfl, List.Sublist.refl _, by simp [openEach], by simp [openEach], rfl⟩
  | cons b rest ih =>
    obtain ⟨here, inside⟩ := List.forall_mem_cons.mp inside
    obtain ⟨opens, ⟨t, taken⟩, code⟩ | ⟨closed, r, skipped, code⟩ := State.openRequest_listed
      (why := { purpose := .service, panel := i }) (station := none) supply here
    · obtain ⟨elsewhere, panels, notices, supply'⟩ := State.openRequest_frame taken
      obtain ⟨-, -, course⟩ := State.openRequest_course taken
      have inside' : ∀ c ∈ rest, t.pocket? c.toNat ≠ none := fun c mem => by
        obtain ⟨k, entry⟩ := Option.ne_none_iff_exists'.mp (inside c mem)
        obtain ⟨k', entry', -⟩ := State.openRequest_entry taken entry
        simp [entry']
      have all := ih (supply'.trans supply) inside'
      rw [openEach_taken taken]
      refine ⟨elsewhere.trans all.elsewhere, all.panels.trans panels, all.notices.trans notices, ?_, fun p => ?_,
        fun p => ?_, ?_⟩
      · exact all.order.cons_cons b.toNat
      · rw [List.mem_cons, all.mem, State.openRequest_opens taken, List.map_cons, List.mem_cons]
        by_cases same : p = b.toNat <;> simp [same, opens]
      · rw [all.course, course]
        by_cases same : p = b.toNat <;> simp [same]
      · rw [flatMap_serviceResult_cons fun c mem => State.serviceResult_taken taken (inside c mem), code, all.answers]
    · have all := ih supply inside
      rw [openEach_skipped skipped]
      refine ⟨all.elsewhere, all.panels, all.notices, all.order.cons b.toNat, fun p => ?_, all.course, ?_⟩
      · rw [all.mem, List.map_cons, List.mem_cons]
        by_cases same : p = b.toNat <;> simp [same, closed]
      · rw [flatMap_serviceResult_cons fun c _ earlier => (State.serviceResult_skipped closed earlier).symm, code,
          all.answers]

/-- The course of an opened pocket stays as the operation starts and the marking pass follows. -/
theorem OpensEach.course_started {list : List Byte} {pockets : List Nat} {answer : List Byte}
    (h : OpensEach s i list t pockets answer) (mem : p ∈ pockets) :
    ((t.startOperation i .service pockets).markingPass).course p =
      some ({ purpose := .service, panel := i }, false) := by
  rw [State.course_sameView (State.markingPass_lockView _),
    State.course_congr (s := t) (by rw [State.startOperation_bank]), h.course, if_pos mem]

/-! ### The command -/

section
variable {panel : Byte} {list : List Byte}

theorem execServiceOpen_noneAvailable (free : s.PortFree) (short : list.length ≤ 254)
    (checked : s.cribCheck panel (s.listInRange list) .service = .ok i) (none : (openEach s i list).2.1 = []) :
    exec (.serviceOpen panel list) s = .next (s.answered .noneAvailable []) := by
  refine hostCommand_error free ?_
  simp only [serviceOpenBody, if_neg (not_lt.mpr short), checked]
  rw [show openEach s i list = ((openEach s i list).1, [], (openEach s i list).2.2) by rw [← none]]

theorem execServiceOpen_taken (free : s.PortFree) (short : list.length ≤ 254)
    (checked : s.cribCheck panel (s.listInRange list) .service = .ok i) (opensAny : (openEach s i list).2.1 ≠ []) :
    exec (.serviceOpen panel list) s =
      .next ((((openEach s i list).1.startOperation i .service (openEach s i list).2.1).markingPass).answered .ok
        (openEach s i list).2.2) := by
  refine hostCommand_ok free ?_
  simp only [serviceOpenBody, if_neg (not_lt.mpr short), checked]

end

end

end Sys2Proof.Machine
end

section
/-! O35: RETURN and SERVICE_OPEN. -/

namespace Sys2Proof.Proofs

open Sys2Proof.Machine

/-- Settles O35: RETURN by the pocket it chooses, SERVICE_OPEN by its open requests in turn. -/
theorem returnAndServiceOpen : Obligations.ReturnAndServiceOpen := by
  unfold Obligations.ReturnAndServiceOpen
  refine ⟨?_, ?_⟩
  · intro panel i w s free ready here pockets window allowed idle supply
    have checked : ∀ given, (∀ b, given = some b → s.pocket? b.toNat ≠ none) →
        s.cribCheck panel (s.returnInRange given) .ret = .ok i := fun given inside =>
      State.cribCheck_ok ready here pockets (State.returnInRange_iff.mpr inside) window
        (Privilege.allows_ret.mpr allowed) idle supply
    have any := checked none nofun
    refine ⟨fun b k entry => ?_, fun p k entry suits unmarked lowest => ?_, fun none => ?_⟩
    · have given := checked (some b) fun c same => by cases same; simp [entry]
      have chosen := State.returnPocket_given entry
      refine ⟨fun suits => ?_, fun occupied => ?_, fun empty fault => ?_, fun empty service moving => ?_⟩
      · rw [if_neg (not_not.mpr suits.1), if_neg (not_not.mpr suits.2.1), if_neg (not_not.mpr suits.2.2)] at chosen
        exact execReturn_opens free given window supply chosen entry suits
      · exact execReturn_unsuited free given (chosen.trans (if_pos occupied))
      · rw [if_neg (not_not.mpr empty), if_pos fault] at chosen
        exact execReturn_unsuited free given chosen
      · rw [if_neg (not_not.mpr empty), if_neg (not_not.mpr service), if_pos moving] at chosen
        exact execReturn_unsuited free given chosen
    · exact execReturn_opens free any window supply (State.returnPocket_lowest entry suits unmarked lowest) entry suits
    · exact execReturn_unsuited free any (State.returnPocket_noneAvailable none)
  · intro panel list i w s free ready here pockets window allowed idle supply listed few inside
    have short : list.length ≤ 254 := few.trans (by decide)
    have checked := State.cribCheck_ok ready here pockets (State.listInRange_iff.mpr ⟨listed, few, inside⟩) window
      (Privilege.allows_service.mpr allowed) idle supply
    have all := openEach_opens (i := i) supply inside
    have opened : ∀ b ∈ list, s.Opens b.toNat ↔ b.toNat ∈ (openEach s i list).2.1 := fun b mem => by
      rw [all.mem]
      exact (and_iff_right (List.mem_map_of_mem mem)).symm
    refine ⟨fun skipped => ?_, fun ⟨b, mem, opens⟩ => ?_⟩
    · refine execServiceOpen_noneAvailable free short checked (List.eq_nil_iff_forall_not_mem.mpr fun p mem => ?_)
      obtain ⟨listed, opens⟩ := (all.mem p).mp mem
      obtain ⟨b, member, rfl⟩ := List.mem_map.mp listed
      exact skipped b member opens
    · have opensAny := List.ne_nil_of_mem ((opened b mem).mp opens)
      have rest := (all.elsewhere.startOperation (i := i) .service (openEach s i list).2.1).markingPass
      refine ⟨_, OpKind.service.begun (openEach s i list).2.1, execServiceOpen_taken free short checked opensAny,
        ?_, ?_, ?_, rfl, ?_, ?_, ?_, ?_, rest.records, rest.line, rest.custody, rest.reservations⟩
      · rw [all.answers]
        rfl
      · exact (State.markingPass_notices _).trans
          (State.startOperation_notices all.panels all.notices all.elsewhere.now window _ _)
      · rw [← State.panel_congr all.panels i]
        exact (State.panel_markingPass _ i).trans (State.startOperation_panel ..)
      · rw [OpKind.begun_numbers]
        exact all.order
      · rw [OpKind.begun_numbers]
        exact (openEach_courses s i list).2.1
      · rw [OpKind.begun_numbers]
        exact opened
      · intro q held
        obtain ⟨p, mem, rfl⟩ := List.mem_map.mp held
        obtain ⟨k, entry, opening, -⟩ := State.course_eq_some_iff.mp (all.course_started mem)
        exact ⟨rfl, rfl, k, entry, opening⟩

end Sys2Proof.Proofs
end

section
/-! O36: CANCEL (R96, R113, R121). -/

namespace Sys2Proof.Machine

section
variable {s t u : State} {i : PanelId} {p : Nat} {why : Opening} {o o' o'' : Operation} {l : List Nat}

/-! ### A CANCELLED report (R97, R113) -/

/-- What the notice of an operation's end shows of a pocket: its number, whether it was OPEN, and a DRIVE_FAULT. -/
def OpPocket.shown (x : OpPocket) : Nat × Bool × Bool := (x.pocket, x.reachedOpen, x.status == .ended .driveFault)

/-- Operations of one kind whose pockets show alike have the same notice. -/
theorem Operation.doneNotice_congr (kind : o'.kind = o.kind)
    (shown : o'.pockets.map OpPocket.shown = o.pockets.map OpPocket.shown) (outcome : OpOutcome) :
    o'.doneNotice outcome = o.doneNotice outcome := by
  have pocket : ∀ o : Operation, o.pocket = ((o.pockets.map OpPocket.shown).head?.map (·.1)).getD 0 := fun o => by
    rw [List.head?_map, Option.map_map]
    rfl
  have opened : ∀ o : Operation, o.opened = (o.pockets.map OpPocket.shown).countP (·.2.1) := fun o => by
    rw [List.countP_map]
    rfl
  have faulted : ∀ o : Operation, o.faulted = (o.pockets.map OpPocket.shown).countP (·.2.2) := fun o => by
    rw [List.countP_map]
    rfl
  simp only [Operation.doneNotice, kind, pocket, opened, faulted, shown]

/-- CANCELLED at a pocket that has not ended with a fault does not show. -/
theorem Operation.after_cancelled_shown
    (sound : ∀ x ∈ o.pockets, x.pocket = p → (x.status == .ended .driveFault) = false) :
    (o.after p .cancelled).pockets.map OpPocket.shown = o.pockets.map OpPocket.shown := by
  rw [Operation.after, List.map_map]
  refine List.map_congr_left fun x mem => ?_
  rw [Function.comp_apply]
  split
  · next here =>
    rw [OpPocket.shown, OpPocket.shown, sound x mem here]
    rfl
  · rfl

/-- CANCELLED ends no operation by itself (R121). -/
theorem Operation.outcomeOn_cancelled (o : Operation) : o.outcomeOn .cancelled = none := by
  unfold Operation.outcomeOn
  cases o.kind <;> simp [issueOutcome, returnOutcome]

theorem State.report_cancelled (op : (s.panel why.panel).operation = some o) (p : Nat) : s.report why p .cancelled =
    s.setPanel why.panel (fun q => { q with operation := some (o.after p .cancelled) }) := by
  simp only [State.report, op, Operation.outcomeOn_cancelled]

/-! ### The pockets of the operation close (R96) -/

/-- What close requests of a running operation leave alone: all but the locks, and of the operation what its notice
shows. -/
structure Cancels (i : PanelId) (s : State) (o : Operation) (t : State) (o' : Operation) : Prop where
  elsewhere : SameElsewhere s t
  panel : t.panel i = { s.panel i with operation := some o' }
  notices : t.notices = s.notices
  occupancies : t.bank.pockets.map (·.occupancy) = s.bank.pockets.map (·.occupancy)
  kind : o'.kind = o.kind
  shown : o'.pockets.map OpPocket.shown = o.pockets.map OpPocket.shown

theorem Cancels.refl (op : (s.panel i).operation = some o) : Cancels i s o s o :=
  ⟨rfl, by rw [← op], rfl, rfl, rfl, rfl⟩

theorem Cancels.trans (h : Cancels i s o t o') (h' : Cancels i t o' u o'') : Cancels i s o u o'' :=
  ⟨h.elsewhere.trans h'.elsewhere, h'.panel.trans (by rw [h.panel]), h'.notices.trans h.notices,
    h'.occupancies.trans h.occupancies, h'.kind.trans h.kind, h'.shown.trans h.shown⟩

theorem SameElsewhere.closeLock (s : State) (p : Nat) : SameElsewhere s (s.closeLock p) := by
  have changed : SameElsewhere s (s.setPocket p (fun k => { k with lock := .closed })) :=
    (SameElsewhere.refl s).setPocket _
  rw [State.closeLock_eq]
  exact changed.trans rfl

theorem State.closeLock_occupancies (s : State) (p : Nat) :
    (s.closeLock p).bank.pockets.map (·.occupancy) = s.bank.pockets.map (·.occupancy) := by
  unfold State.closeLock
  exact State.setPocket_map fun _ => rfl

/-- One close request. -/
theorem closeRequest_cancels (op : (s.panel i).operation = some o) (own : ∀ c, s.course p = some c → c.1.panel = i)
    (sound : ∀ x ∈ o.pockets, x.pocket = p → (x.status == .ended .driveFault) = false) :
    ∃ o', Cancels i s o (s.closeRequest p) o' := by
  unfold State.closeRequest
  split
  · exact ⟨o, Cancels.refl op⟩
  · next why opening =>
    obtain ⟨k, entry, opening⟩ := Option.bind_eq_some_iff.mp opening
    obtain rfl : why.panel = i := own (why, _) (State.course_eq_some_iff.mpr ⟨k, entry, opening, rfl⟩)
    have panels : ∀ j, (s.closeLock p).panel j = s.panel j := State.panel_congr (s.closeLock_panels p)
    rw [State.report_cancelled (by rw [panels, op])]
    refine ⟨o.after p .cancelled, ((SameElsewhere.closeLock s p).setPanel _).startRule, ?_, ?_, ?_, rfl,
      Operation.after_cancelled_shown sound⟩
    · rw [State.panel_congr (State.startRule_panels _), State.panel_setPanel_same, panels]
    · simp
    · rw [State.startRule_map fun _ => rfl, State.setPanel_bank, State.closeLock_occupancies]

/-- The close requests of a list. -/
theorem closeRequests_cancels (op : (s.panel i).operation = some o)
    (own : ∀ p ∈ l, ∀ c, s.course p = some c → c.1.panel = i)
    (sound : ∀ p ∈ l, ∀ x ∈ o.pockets, x.pocket = p → (x.status == .ended .driveFault) = false) :
    ∃ o', Cancels i s o (l.foldl State.closeRequest s) o' := by
  induction l generalizing s o with
  | nil => exact ⟨o, Cancels.refl op⟩
  | cons p l ih =>
    obtain ⟨own₀, own⟩ := List.forall_mem_cons.mp own
    obtain ⟨sound₀, sound⟩ := List.forall_mem_cons.mp sound
    obtain ⟨o', first⟩ := closeRequest_cancels op own₀ sound₀
    obtain ⟨o'', later⟩ := ih (s := s.closeRequest p) (o := o') (by rw [first.panel])
      (fun q mem c course => by
        rw [State.closeRequest_course] at course
        split at course
        · cases course
        · exact own q mem c course)
      (fun q mem x held here => by
        have shown : x.shown ∈ o.pockets.map OpPocket.shown := first.shown ▸ List.mem_map_of_mem held
        obtain ⟨y, held', same⟩ := List.mem_map.mp shown
        simp only [OpPocket.shown, Prod.mk.injEq] at same
        exact same.2.2 ▸ sound q mem y held' (same.1.trans here))
    exact ⟨o'', first.trans later⟩

theorem Operation.mem_running : p ∈ o.running ↔ ∃ x ∈ o.pockets, x.status.isEnded = false ∧ x.pocket = p := by
  simp [Operation.running, and_assoc]

/-- A pocket that runs, in an operation with no pocket twice, has no fault. -/
theorem Operation.sound_of_running (nodup : (o.pockets.map (·.pocket)).Nodup) (running : p ∈ o.running) :
    ∀ x ∈ o.pockets, x.pocket = p → (x.status == .ended .driveFault) = false := by
  intro x held here
  obtain ⟨y, held', runs, rfl⟩ := Operation.mem_running.mp running
  obtain rfl := List.inj_on_of_nodup_map nodup held held' here
  rw [beq_eq_false_iff_ne]
  intro fault
  rw [fault] at runs
  cases runs

/-! ### The command -/

theorem SameElsewhere.endOperation (h : SameElsewhere s t) (outcome : OpOutcome) :
    SameElsewhere s (t.endOperation i outcome) := by
  unfold State.endOperation
  split
  · exact h
  · exact (h.setPanel _).post _ _ _

theorem State.endOperation_notices (op : (s.panel i).operation = some o) (outcome : OpOutcome) :
    (s.endOperation i outcome).notices =
      (s.post (o.doneNotice outcome).1 (num (panelCode i)) (o.doneNotice outcome).2).notices := by
  simp only [State.endOperation, op]
  exact State.post_notices_congr (by simp) (by simp) _ _ _

theorem State.markingPass_occupancies (s : State) :
    s.markingPass.bank.pockets.map (·.occupancy) = s.bank.pockets.map (·.occupancy) := by
  simpa only [State.plainPockets, List.map_map, Function.comp_def] using
    congrArg (List.map (·.occupancy)) s.markingPass_plainPockets

/-- The operation of a panel cancelled, and the marking pass that follows (R121). -/
def State.cancelled (s : State) (i : PanelId) (o : Operation) : State :=
  ((o.running.foldl State.closeRequest s).endOperation i .cancelled).markingPass

/-- The operation ends, with the notice that it had at the start. -/
theorem State.cancelled_frame (closed : Cancels i s o (o.running.foldl State.closeRequest s) o') :
    SameElsewhere s (s.cancelled i o)
      ∧ (s.cancelled i o).panel i = { s.panel i with operation := none }
      ∧ (s.cancelled i o).bank.pockets.map (·.occupancy) = s.bank.pockets.map (·.occupancy)
      ∧ (s.cancelled i o).notices =
        (s.post (o.doneNotice .cancelled).1 (num (panelCode i)) (o.doneNotice .cancelled).2).notices := by
  have running : ((o.running.foldl State.closeRequest s).panel i).operation = some o' := by rw [closed.panel]
  refine ⟨(closed.elsewhere.endOperation .cancelled).markingPass, ?_, ?_, ?_⟩
  · rw [State.cancelled, State.panel_markingPass, State.endOperation_panel, closed.panel]
  · rw [State.cancelled, State.markingPass_occupancies, State.endOperation_bank, closed.occupancies]
  · rw [State.cancelled, State.markingPass_notices, State.endOperation_notices running,
      Operation.doneNotice_congr closed.kind closed.shown]
    exact State.post_notices_congr closed.notices closed.elsewhere.now _ _ _

/-- Every pocket that ran is CLOSED. -/
theorem State.cancelled_closed {k : Pocket} (running : p ∈ o.running) (entry : (s.cancelled i o).pocket? p = some k) :
    k.lock = .closed := by
  have course : (s.cancelled i o).course p = none := by
    rw [State.cancelled, State.course_sameView (State.markingPass_lockView _),
      State.course_congr (s := o.running.foldl State.closeRequest s) (by rw [State.endOperation_bank]),
      closeRequests_courses, if_pos running]
  rw [State.course_of_entry entry, Lock.course_eq, Option.map_eq_none_iff] at course
  exact Lock.opening_eq_none.mp course

/-- CANCEL's own rule at a configured node with pockets. -/
theorem cancelBody_eq {b : Byte} (known : s.port.nodeState ≠ .unconfigured) (panel : panelOf b = some i)
    (pockets : s.config.pocketCount ≠ 0) : cancelBody b s =
      match (s.panel i).operation with
      | none => .error .badState
      | some o => done (s.cancelled i o) := by
  simp only [cancelBody, State.configured_eq_true known, panel, pockets]
  rfl

end

end Sys2Proof.Machine

namespace Sys2Proof.Proofs

open Sys2Proof.Machine

/-- Settles O36: the running pockets close one after another, and the operation ends with the notice it had. -/
theorem cancelEndsTheOperation : Obligations.CancelEndsTheOperation := by
  unfold Obligations.CancelEndsTheOperation
  intro panel i s free known here pockets
  have body := cancelBody_eq known here pockets
  refine ⟨fun idle => hostCommand_error free (by rw [body, idle]), fun o op nodup own => ?_⟩
  obtain ⟨o', closed⟩ := closeRequests_cancels op (l := o.running)
    (fun p running c course => by
      obtain ⟨x, held, runs, rfl⟩ := Operation.mem_running.mp running
      obtain ⟨k, entry, opening, -⟩ := State.course_eq_some_iff.mp course
      exact own x held runs k c.1 entry opening)
    fun p running => Operation.sound_of_running nodup running
  obtain ⟨rest, shown, occupancies, told⟩ := State.cancelled_frame closed
  exact ⟨(s.cancelled i o).answered .ok [], hostCommand_ok free (by rw [body, op]; rfl), rfl, shown,
    fun q held runs k entry => State.cancelled_closed (Operation.mem_running.mpr ⟨q, held, runs, rfl⟩) entry,
    occupancies, rest.records, rest.line, rest.custody, told⟩

end Sys2Proof.Proofs
end

section
/-! O37: IDENTIFY_POCKET and IDENTIFY_HEAD (R64, R122, R129). -/

namespace Sys2Proof.Machine

/-- The answer of an identification by the record held here: without one a call is opened, a LOOSE or MISSING one is
placed where no call is open with that purpose, any other is refused (R122, R129). -/
def State.identify (s : State) (tool : ToolId) (why : Purpose) (placed : State) : CommandResult :=
  match s.find tool with
  | none => callCommand s tool why
  | some r =>
    match r.state with
    | .loose | .missing => if (s.callAt why).isSome then .error .placeConflict else done placed
    | .outbound _ _ | .inDoubt _ _ _ => .error .badState
    | _ => .error .placeConflict

section
variable {s placed : State} {tool : ToolId} {why : Purpose} {r : ToolRecord} {b : Byte} {k : Pocket}

/-! ### The record held here -/

theorem State.identify_places (found : s.find tool = some r) (lost : r.state = .loose ∨ r.state = .missing)
    (vacant : s.callAt why = none) : s.identify tool why placed = done placed := by
  obtain lost | lost := lost <;> simp [State.identify, found, lost, vacant]

/-- A record held here that is refused, by its state and the open calls. -/
theorem hostCommand_identify_refuses {c : Instr} {body : State → CommandResult} (free : s.PortFree)
    (rule : body s = s.identify tool why placed) (found : s.find tool = some r) :
    (r.state = .loose ∨ r.state = .missing → s.callAt why ≠ none →
      hostCommand c body s = .next (s.answered .placeConflict []))
    ∧ (r.state = .seated ∨ r.state = .measuring ∨ (∃ p, r.state = .stocked p) ∨ (∃ n, r.state = .loaded n) →
      hostCommand c body s = .next (s.answered .placeConflict []))
    ∧ ((∃ c p, r.state = .outbound c p) ∨ (∃ c p d, r.state = .inDoubt c p d) →
      hostCommand c body s = .next (s.answered .badState [])) := by
  simp only [State.identify, found] at rule
  refine ⟨fun lost called => ?_, fun elsewhere => ?_, fun away => ?_⟩ <;> refine hostCommand_error free (rule.trans ?_)
  · rw [← Option.isSome_iff_ne_none] at called
    obtain lost | lost := lost <;> simp [lost, called]
  · obtain held | held | ⟨p, held⟩ | ⟨n, held⟩ := elsewhere <;> simp [held]
  · obtain ⟨c, p, held⟩ | ⟨c, p, d, held⟩ := away <;> simp [held]

/-- A tool that is not held here is called for, or refused as R64 says. -/
theorem hostCommand_identify_call {c : Instr} {body : State → CommandResult} (free : s.PortFree)
    (rule : body s = s.identify tool why placed) (unheld : s.find tool = none) : hostCommand c body s =
      match s.openCall tool why with
      | .ok t => .next (t.answered .ok [])
      | .error r => .next (s.answered r []) := by
  rw [hostCommand_free free, rule]
  simp only [State.identify, unheld, callCommand]
  cases s.openCall tool why <;> rfl

/-! ### IDENTIFY_POCKET (R122) -/

theorem Pocket.identifiable_iff : k.identifiable = true ↔
    k.occupancy = .unknown ∧ k.presence = .present ∧ k.lock = .closed := by
  simp [Pocket.identifiable, Lock.isClosed_eq_true, and_assoc]

theorem identifyPocketBody_eq (known : s.port.nodeState ≠ .unconfigured) (entry : s.pocket? b.toNat = some k)
    (named : tool ≠ 0) : identifyPocketBody b tool s =
      if k.identifiable then
        s.identify tool (.pocket b.toNat) ((s.stock tool b.toNat).postChanged tool)
      else .error .badState := by
  simp only [identifyPocketBody, State.configured_eq_true known, entry, named]
  cases k.identifiable <;> rfl

theorem identifyPocketBody_outOfRange (known : s.port.nodeState ≠ .unconfigured)
    (out : s.pocket? b.toNat = none ∨ tool = 0) : identifyPocketBody b tool s = .error .outOfRange := by
  simp only [identifyPocketBody, State.configured_eq_true known]
  cases entry : s.pocket? b.toNat with
  | none => rfl
  | some k =>
    obtain none | zero := out
    · exact absurd (entry.symm.trans none) nofun
    · simp [zero]

/-- The notice of a record stocked in a pocket shows its new state and place (R22). -/
theorem State.stock_postChanged (found : s.find tool = some r) (p : Nat) : (s.stock tool p).postChanged tool =
    (s.stock tool p).post .recordChanged tool (parts (byte 1 ++ byte 1 ++ byte p)) := by
  have records : (s.stock tool p).records = (s.setState tool (.stocked p)).records := by simp [State.stock]
  rw [State.postChanged_eq ((State.find_congr records tool).trans (State.find_setState found _))]
  simp only [RecordState.code, RecordState.placeCode]

/-! ### IDENTIFY_HEAD (R129) -/

/-- A reference run is active. -/
def State.RunsReference (s : State) : Prop :=
  ∃ n t d, s.head.run = some { kind := .reference, n := n, t := t, deadline := d }

theorem State.referenceRun_iff : s.referenceRun = true ↔ s.RunsReference := by
  unfold State.referenceRun State.RunsReference
  obtain _ | ⟨kind, n, t, d⟩ := s.head.run
  · simp
  · cases kind <;> simp

/-- The head can take a tool: PRESENT, empty, and no reference run active (R129). -/
def State.HeadIdentifiable (s : State) : Prop := s.head.seat = .present ∧ s.headRecord = none ∧ ¬ s.RunsReference

theorem State.headIdentifiable_iff :
    (s.head.seat != .present || s.headRecord.isSome || s.referenceRun) = false ↔ s.HeadIdentifiable := by
  simp only [State.HeadIdentifiable, ← State.referenceRun_iff, Bool.or_eq_false_iff, bne_eq_false_iff_eq,
    Option.isSome_eq_false_iff, Option.isNone_iff_eq_none, Bool.not_eq_true, and_assoc]

theorem identifyHeadBody_identifies (known : s.port.nodeState ≠ .unconfigured) (head : s.config.head = true)
    (named : tool ≠ 0) (ready : s.HeadIdentifiable) : identifyHeadBody tool s =
      s.identify tool .head ((s.setState tool .seated).postChanged tool) := by
  have ready := State.headIdentifiable_iff.mpr ready
  simp only [identifyHeadBody, State.configured_eq_true known, head, beq_eq_false_iff_ne.mpr named, ready]
  rfl

theorem identifyHeadBody_badState (known : s.port.nodeState ≠ .unconfigured) (head : s.config.head = true)
    (named : tool ≠ 0) (busy : ¬ s.HeadIdentifiable) : identifyHeadBody tool s = .error .badState := by
  have busy := Bool.eq_true_of_not_eq_false (mt State.headIdentifiable_iff.mp busy)
  simp only [identifyHeadBody, State.configured_eq_true known, head, beq_eq_false_iff_ne.mpr named, busy]
  rfl

/-- The notice of a record seated on the head shows its new state and place (R22). -/
theorem State.seat_postChanged (found : s.find tool = some r) : (s.setState tool .seated).postChanged tool =
    (s.setState tool .seated).post .recordChanged tool (parts (byte 3 ++ byte 3 ++ byte 0)) := by
  rw [State.postChanged_eq (State.find_setState found _)]
  simp only [RecordState.code, RecordState.placeCode]

end

end Sys2Proof.Machine

namespace Sys2Proof.Proofs

open Sys2Proof.Machine

/-- Settles O37: both commands answer as the identification does, once the place can take the tool. -/
theorem identifyPlacesOrCalls : Obligations.IdentifyPlacesOrCalls := by
  unfold Obligations.IdentifyPlacesOrCalls
  refine ⟨fun tool s free known named => ⟨fun b k entry unknown present closed => ?_, fun head seat empty idle => ?_⟩,
    fun tool s free => ⟨fun b => ⟨fun unknown => ?_, fun known => ⟨fun out => ?_, fun k entry named =>
      ⟨fun unfit => ?_, fun unknown present closed r found => ?_⟩⟩⟩,
      fun unknown => ?_, fun known => ⟨fun out => ?_, fun head named =>
        ⟨fun busy => ?_, fun seat empty idle r found => ?_⟩⟩⟩⟩
  · have body := identifyPocketBody_eq known entry named
    rw [if_pos (Pocket.identifiable_iff.mpr ⟨unknown, present, closed⟩)] at body
    refine ⟨fun r found lost vacant => ?_, hostCommand_identify_call free body⟩
    rw [State.identify_places found lost vacant, State.stock_postChanged found] at body
    exact hostCommand_ok free body
  · have ready : s.HeadIdentifiable := ⟨seat, empty, by rw [← State.referenceRun_iff, idle]; decide⟩
    have body := identifyHeadBody_identifies known head named ready
    refine ⟨fun r found lost vacant => ?_, hostCommand_identify_call free body⟩
    rw [State.identify_places found lost vacant, State.seat_postChanged found] at body
    exact hostCommand_ok free body
  · exact hostCommand_error free (by simp [identifyPocketBody, State.configured_eq_false unknown])
  · exact hostCommand_error free (identifyPocketBody_outOfRange known out)
  · refine hostCommand_error free ((identifyPocketBody_eq known entry named).trans (if_neg ?_))
    rw [Pocket.identifiable_iff]
    tauto
  · have body := identifyPocketBody_eq known entry named
    rw [if_pos (Pocket.identifiable_iff.mpr ⟨unknown, present, closed⟩)] at body
    exact hostCommand_identify_refuses free body found
  · exact hostCommand_error free (by simp [identifyHeadBody, State.configured_eq_false unknown])
  · refine hostCommand_error free ?_
    obtain noHead | rfl := out
    · simp [identifyHeadBody, State.configured_eq_true known, noHead]
    · simp [identifyHeadBody, State.configured_eq_true known]
  · refine hostCommand_error free (identifyHeadBody_badState known head named fun ⟨seat, empty, idle⟩ => ?_)
    obtain absent | held | running := busy
    · exact absent seat
    · exact held empty
    · exact idle running
  · exact hostCommand_identify_refuses free (identifyHeadBody_identifies known head named ⟨seat, empty, idle⟩) found

end Sys2Proof.Proofs
end

section
/-! SUPPORT. O38, O39, O41 to O43: the head's inputs are read, notices and an ending run commute, and a run ends with
its notices (R126 to R128, R131, R134, R135). -/

namespace Sys2Proof.Machine

section
variable {s : State} {tool : ToolId} {r : ToolRecord} {q : Run}

theorem State.headRead_eq_true (past : s.port.nodeState ≠ .unconfigured) (head : s.config.head = true) :
    s.headRead = true := by
  rw [State.headRead, State.configured_eq_true past, head, Bool.and_self]

theorem State.headRead_eq_false (out : s.port.nodeState = .unconfigured ∨ s.config.head = false) :
    s.headRead = false := by
  obtain unknown | none := out
  · rw [State.headRead, State.configured_eq_false unknown, Bool.false_and]
  · rw [State.headRead, none, Bool.and_false]

/-- A measured record goes back to SEATED, and its notice shows the head as its place (R22). -/
theorem State.reseat_eq (found : s.find tool = some r) : s.reseat tool =
    (s.setState tool .seated).post .recordChanged tool (parts (byte 3 ++ byte 3 ++ byte 0)) :=
  State.seat_postChanged found

/-- What two posted notices leave in the queue depends on the queue and the time before them. -/
theorem State.post_post_notices_congr {u : State} (notices : u.notices = s.notices) (now : u.now = s.now)
    {k k' : NoticeKind} {o a o' a' : BitVec 32} :
    ((u.post k o a).post k' o' a').notices = ((s.post k o a).post k' o' a').notices :=
  State.post_notices_congr (State.post_notices_congr notices now k o a)
    (by rw [State.post_now, State.post_now, now]) k' o' a'

theorem State.idleRun_post (s : State) (k : NoticeKind) (o a : BitVec 32) :
    (s.post k o a).idleRun = s.idleRun.post k o a := by
  unfold State.post
  exact apply_ite State.idleRun _ _ _

theorem State.endRun_reference (running : s.head.run = some q) (kind : q.kind = .reference) (o : RunOutcome) :
    s.endRun o = s.idleRun.post .referenceDone 0 (num o.code) := by
  unfold State.endRun
  rw [running]
  dsimp only
  rw [kind]
  rfl

theorem State.endRun_measurement (running : s.head.run = some q) (kind : q.kind = .measurement tool)
    (found : s.find tool = some r) (o : RunOutcome) : s.endRun o =
      ((s.idleRun.setState tool .seated).post .recordChanged tool (parts (byte 3 ++ byte 3 ++ byte 0))).post
        .measureDone tool (parts (byte o.code ++ byte 0)) := by
  unfold State.endRun
  rw [running]
  dsimp only
  rw [kind]
  dsimp only
  rw [State.reseat_eq (s := s.idleRun) found]
  rfl

end

end Sys2Proof.Machine
end

section
/-! O38: scale steps and scale errors (R125, R126). -/

namespace Sys2Proof.Machine

section
variable {s : State} {tool : ToolId} {r : ToolRecord} {q : Run} {c : Scale}

/-- A scale error as such: the count rises to at most 65,535 and the reference is invalid (R126). -/
def State.scaleLost (s : State) : State :=
  { s with head := { s.head with
    scaleErrors := min 65535 (s.head.scaleErrors + 1)
    reference := { s.head.reference with valid := false } } }

/-- SCALE_ERROR with the scale at fault (R126). -/
def State.postScaleError (s : State) (c : Scale) : State := s.post .scaleError 0 (num (scaleCode c))

theorem State.scaleError_idle (idle : s.head.run = none) (c : Scale) : s.scaleError c =
    if s.head.reference.valid then s.scaleLost.postScaleError c else s.scaleLost := by
  unfold State.scaleError
  rw [idle]
  rfl

theorem State.scaleError_reference (running : s.head.run = some q) (kind : q.kind = .reference) (c : Scale) :
    s.scaleError c = (s.scaleLost.idleRun.postScaleError c).post .referenceDone 0 (num 8) := by
  unfold State.scaleError
  rw [running]
  simp only [State.reseatRun, State.postOutcome, kind]
  rfl

theorem State.scaleError_measurement (running : s.head.run = some q) (kind : q.kind = .measurement tool)
    (found : s.find tool = some r) (c : Scale) : s.scaleError c =
      (((s.scaleLost.idleRun.setState tool .seated).post .recordChanged tool
        (parts (byte 3 ++ byte 3 ++ byte 0))).postScaleError c).post .measureDone tool (parts (byte 8 ++ byte 0)) := by
  rw [← State.reseat_eq (s := s.scaleLost.idleRun) found]
  unfold State.scaleError
  rw [running]
  simp only [State.reseatRun, State.postOutcome, kind]
  rfl

theorem execScaleStep_unread (unread : s.headRead = false) (c : Scale) (up : Bool) :
    exec (.scaleStep c up) s = .next s := by
  show execScaleStep c up s = _
  rw [execScaleStep, unread]
  rfl

/-- A legal transition at a head that is read (R125). -/
theorem execScaleStep_read (read : s.headRead = true) (c : Scale) (up : Bool) : exec (.scaleStep c up) s = .next
    (match c with
      | .z => { s with head.z := s.head.z + if up then 1 else -1 }
      | .x => { s with head.x := s.head.x + if up then 1 else -1 }) := by
  show execScaleStep c up s = _
  rw [execScaleStep, read]
  cases c <;> rfl

end

end Sys2Proof.Machine

namespace Sys2Proof.Proofs

open Sys2Proof.Machine

/-- Settles O38: a step by its scale and direction, an error by the run that it ends. -/
theorem scaleEvents : Obligations.ScaleEvents := by
  unfold Obligations.ScaleEvents
  intro s c _ _ _
  refine ⟨fun out => ?_, fun past head => ?_⟩
  · have unread := State.headRead_eq_false out
    exact ⟨execScaleStep_unread unread c, if_neg (by rw [unread]; decide)⟩
  · have read := State.headRead_eq_true past head
    have error : exec (.scaleError c) s = .next (s.scaleError c) := if_pos read
    rw [error]
    refine ⟨execScaleStep_read read .z true, ?_, execScaleStep_read read .x true, ?_, fun idle invalid => ?_,
      fun idle valid => ?_, fun n t d running => ?_, fun tool r n t d found running => ?_⟩
    · rw [execScaleStep_read read, BitVec.sub_eq_add_neg]
      rfl
    · rw [execScaleStep_read read, BitVec.sub_eq_add_neg]
      rfl
    · rw [State.scaleError_idle idle, invalid]
      rfl
    · rw [State.scaleError_idle idle, valid]
      rfl
    · rw [State.scaleError_reference running rfl]
      rfl
    · rw [State.scaleError_measurement running rfl found]
      rfl

end Sys2Proof.Proofs
end

section
/-! O39: captures without a run, in a run, and at the end of a reference run (R127, R132). -/

namespace Sys2Proof.Machine

section
variable {s : State} {q : Run} {rising : Bool}

/-- The sample buffer with the sample that a capture takes (R127). -/
def State.withSample (s : State) : List Sample := s.head.samples ++ [{ z := s.head.z, x := s.head.x }]

theorem State.takeSample_short (short : s.withSample.length < q.n) : s.takeSample q = { s with head := { s.head with
    samples := s.withSample, run := some { q with deadline := s.now + 10000 } } } :=
  if_pos short

/-- The Nth sample completes the run by its kind (R132, section 7.5). -/
theorem State.takeSample_last (last : s.withSample.length = q.n) : s.takeSample q =
    match q.kind with
    | .reference => (s.formReference q.t s.withSample).idleRun.postReferenceDone .done
    | .measurement tool => s.completeMeasurement tool q.t s.withSample :=
  if_neg (Nat.lt_irrefl _ <| last ▸ ·)

theorem execCapture_other (other : rising ≠ s.config.captureRising) : exec (.capture rising) s = .next s :=
  if_pos (by rw [bne_iff_ne.mpr other, Bool.or_true])

theorem execCapture_edge (read : s.headRead = true) (edge : rising = s.config.captureRising) :
    exec (.capture rising) s =
      match s.head.run with
      | none => .next (s.post .strayCapture 0 s.head.z)
      | some q => .next (s.takeSample q) :=
  if_neg (by simp [read, edge])

theorem execCapture_run (read : s.headRead = true) (running : s.head.run = some q) :
    exec (.capture s.config.captureRising) s = .next (s.takeSample q) := by
  rw [execCapture_edge read rfl, running]

end

end Sys2Proof.Machine

namespace Sys2Proof.Proofs

open Sys2Proof.Machine

/-- Settles O39: a capture of the configured polarity by the run that it meets. -/
theorem captures : Obligations.Captures := by
  unfold Obligations.Captures
  intro rising s past head samples
  refine ⟨execCapture_other, ?_⟩
  rintro rfl
  have read := State.headRead_eq_true past head
  refine ⟨fun idle => ?_, fun q running short => ?_, fun n t d running last => ?_⟩
  · rw [execCapture_edge read rfl, idle]
  · rw [execCapture_run read running, State.takeSample_short short]
    rfl
  · have last : s.withSample.length = n := last
    rw [execCapture_run read running, State.takeSample_last last]
    rfl

end Sys2Proof.Proofs
end

section
/-! O40: the lower median, the samples kept, and the thermal correction (R136, R137, R139). -/

namespace Sys2Proof.Machine

/-! ### The sorted values (R136) -/

theorem insertSorted_eq_orderedInsert (v : Int) (l : List Int) : insertSorted v l = l.orderedInsert (· ≤ ·) v := by
  induction l with
  | nil => rfl
  | cons w rest ih => rw [insertSorted, ih, List.orderedInsert_cons]

theorem sortInts_eq_insertionSort (l : List Int) : sortInts l = l.insertionSort (· ≤ ·) := by
  induction l with
  | nil => rfl
  | cons v rest ih => rw [List.insertionSort_cons, ← ih, ← insertSorted_eq_orderedInsert]; rfl

theorem sortInts_perm (l : List Int) : (sortInts l).Perm l :=
  sortInts_eq_insertionSort l ▸ List.perm_insertionSort _ l

theorem sortInts_ordered (l : List Int) : (sortInts l).Pairwise (· ≤ ·) :=
  sortInts_eq_insertionSort l ▸ List.pairwise_insertionSort _ l

/-! ### The lower median (R136) -/

/-- The median stands at position ⌊(n - 1) / 2⌋ of the sorted values. -/
theorem lowerMedian_split {l : List Int} (some : l ≠ []) : ∃ before after,
    sortInts l = before ++ lowerMedian l :: after ∧ before.length = (l.length - 1) / 2 := by
  have inside : (l.length - 1) / 2 < (sortInts l).length := by
    have := List.length_pos_iff.mpr some
    rw [(sortInts_perm l).length_eq]
    omega
  refine ⟨(sortInts l).take ((l.length - 1) / 2), (sortInts l).drop ((l.length - 1) / 2 + 1), ?_,
    List.length_take_of_le inside.le⟩
  rw [lowerMedian, List.getElem?_eq_getElem inside, Option.getD_some, List.getElem_cons_drop, List.take_append_drop]

theorem lowerMedian_mem {l : List Int} (some : l ≠ []) : lowerMedian l ∈ l := by
  obtain ⟨before, after, split, -⟩ := lowerMedian_split some
  rw [← (sortInts_perm l).mem_iff, split]
  simp

/-- The values before the median's position are at most the median, those after it at least the median. -/
theorem lowerMedian_counts {l : List Int} (some : l ≠ []) :
    l.countP (fun v => decide (v < lowerMedian l)) ≤ (l.length - 1) / 2
      ∧ (l.length - 1) / 2 < l.countP (fun v => decide (v ≤ lowerMedian l)) := by
  obtain ⟨before, after, split, position⟩ := lowerMedian_split some
  have ordered := sortInts_ordered l
  rw [split, List.pairwise_append, List.pairwise_cons] at ordered
  obtain ⟨-, ⟨above, -⟩, below⟩ := ordered
  rw [← (sortInts_perm l).countP_eq, ← (sortInts_perm l).countP_eq, split, List.countP_append, List.countP_append,
    ← position]
  constructor
  · have none : (lowerMedian l :: after).countP (fun v => decide (v < lowerMedian l)) = 0 := by
      simpa [List.countP_eq_zero] using above
    rw [none]
    exact List.countP_le_length
  · have all : before.countP (fun v => decide (v ≤ lowerMedian l)) = before.length := by
      simpa [List.countP_eq_length] using fun v mem => below v mem _ (List.mem_cons_self ..)
    rw [all, List.countP_cons_of_pos (by simp)]
    omega

/-! ### The samples kept (R137) -/

theorem mem_keptSamples {band : Nat} {l : List Sample} {p : Sample} : p ∈ keptSamples band l ↔ p ∈ l
    ∧ (p.z.toInt - lowerMedian (zValues l)).natAbs ≤ band ∧ (p.x.toInt - lowerMedian (xValues l)).natAbs ≤ band := by
  simp [keptSamples]

/-! ### The thermal correction (R139) -/

/-- P / 10,000,000,000 rounded to the nearest with halves away from zero. -/
def roundedShare (p : Int) : Int :=
  if p < 0 then -((p.natAbs + 5000000000) / 10000000000) else (p.natAbs + 5000000000) / 10000000000

theorem correction_eq (alpha : Nat) (t d : Int) : correction alpha t d = roundedShare (d * alpha * (t - 2000)) := rfl

theorem roundedShare_natAbs (p : Int) : (roundedShare p).natAbs = (p.natAbs + 5000000000) / 10000000000 := by
  unfold roundedShare
  split <;> omega

theorem roundedShare_sign (p : Int) : (0 ≤ p → 0 ≤ roundedShare p) ∧ (p ≤ 0 → roundedShare p ≤ 0) := by
  unfold roundedShare
  split <;> omega

theorem roundedShare_nearest (p : Int) : 2 * (roundedShare p * 10000000000 - p).natAbs ≤ 10000000000 := by
  unfold roundedShare
  split <;> omega

end Sys2Proof.Machine

namespace Sys2Proof.Proofs

open Sys2Proof.Machine

/-- Settles O40: the sorted list around the median's position gives the counts, and the rounding is a fact of any
product P. -/
theorem measuringArithmetic : Obligations.MeasuringArithmetic := by
  unfold Obligations.MeasuringArithmetic
  refine ⟨fun l some => ⟨lowerMedian_mem some, lowerMedian_counts some⟩, fun _ _ _ => mem_keptSamples,
    fun n => ⟨fun small => ?_, fun large => ?_⟩, fun alpha t d => ?_⟩
  · exact max_eq_left (by omega)
  · exact max_eq_right (by omega)
  · obtain ⟨positive, negative⟩ := roundedShare_sign (d * alpha * (t - 2000))
    rw [correction_eq]
    refine ⟨roundedShare_natAbs _, positive, negative, roundedShare_nearest _, fun none => ?_⟩
    have zero : d * alpha * (t - 2000) = 0 := by
      obtain rfl | rfl := none <;> simp
    rw [zero]
    rfl

end Sys2Proof.Proofs
end

section
/-! O41: the last sample of a measurement run (R136 to R142). -/

namespace Sys2Proof.Machine

/-! ### Largest and smallest values (R138) -/

theorem largest_le_iff {a m : Int} {l : List Int} : largest a l ≤ m ↔ a ≤ m ∧ ∀ v ∈ l, v ≤ m := by
  induction l generalizing a with
  | nil => simp [largest]
  | cons v rest ih =>
    rw [show largest a (v :: rest) = largest (max a v) rest from rfl, ih, max_le_iff, List.forall_mem_cons, and_assoc]

theorem le_smallest_iff {a m : Int} {l : List Int} : m ≤ smallest a l ↔ m ≤ a ∧ ∀ v ∈ l, m ≤ v := by
  induction l generalizing a with
  | nil => simp [smallest]
  | cons v rest ih =>
    rw [show smallest a (v :: rest) = smallest (min a v) rest from rfl, ih, le_min_iff, List.forall_mem_cons, and_assoc]

/-- A value that some sample has and no other exceeds is the largest. -/
theorem largest_map_eq {f : Sample → Int} {first : Sample} {rest : List Sample} {m : Int}
    (mem : ∃ p ∈ first :: rest, f p = m) (most : ∀ p ∈ first :: rest, f p ≤ m) :
    largest (f first) (rest.map f) = m := by
  obtain ⟨head, tail⟩ := largest_le_iff.mp (le_refl (largest (f first) (rest.map f)))
  obtain ⟨p, mem, rfl⟩ := mem
  refine le_antisymm ?_ ?_
  · obtain ⟨most, others⟩ := List.forall_mem_cons.mp most
    exact largest_le_iff.mpr ⟨most, List.forall_mem_map.mpr others⟩
  · obtain rfl | mem := List.mem_cons.mp mem
    · exact head
    · exact tail _ (List.mem_map_of_mem mem)

/-- A value that some sample has and that exceeds no other is the smallest. -/
theorem smallest_map_eq {f : Sample → Int} {first : Sample} {rest : List Sample} {m : Int}
    (mem : ∃ p ∈ first :: rest, f p = m) (least : ∀ p ∈ first :: rest, m ≤ f p) :
    smallest (f first) (rest.map f) = m := by
  obtain ⟨head, tail⟩ := le_smallest_iff.mp (le_refl (smallest (f first) (rest.map f)))
  obtain ⟨p, mem, rfl⟩ := mem
  refine le_antisymm ?_ ?_
  · obtain rfl | mem := List.mem_cons.mp mem
    · exact head
    · exact tail _ (List.mem_map_of_mem mem)
  · obtain ⟨least, others⟩ := List.forall_mem_cons.mp least
    exact le_smallest_iff.mpr ⟨least, List.forall_mem_map.mpr others⟩

/-! ### Results and verdict (R140, R141) -/

theorem clampResult_cast (hi : Nat) (v : Int) : (clampResult hi v : Int) = max 0 (min (hi : Int) v) := by
  unfold clampResult
  omega

theorem clampChanges_iff {hi : Nat} {v : Int} : clampChanges hi v = true ↔ v < 0 ∨ (hi : Int) < v := by
  simp [clampChanges]

/-- The verdict in the order of R141, with what the clamp of R140 changes spelled out. -/
theorem verdictOf_clamps (i : Image) (hiL hiR : Nat) (vL vR : Int) (l r u : Nat) :
    verdictOf i (clampChanges hiL vL || clampChanges hiR vR) l r u =
      if vL < 0 ∨ (hiL : Int) < vL ∨ vR < 0 ∨ (hiR : Int) < vR then .clamped
      else if i.runoutLimit < u then .runoutHigh
      else if i.lengthTol < absDiff l i.nomLength ∨ i.radiusTol < absDiff r i.nomRadius then .outOfBand
      else .within := by
  simp only [verdictOf, Bool.or_eq_true, clampChanges_iff, or_assoc]

/-! ### The run completes -/

theorem keepThreshold_pos (n : Nat) : 0 < keepThreshold n := Nat.lt_of_lt_of_le (by decide) (le_max_left 3 _)

section
variable {s : State} {tool : ToolId} {r : ToolRecord} {samples rest : List Sample} {first : Sample}

/-- Change of content and of state, of one record (R13). -/
theorem State.setImage_setState_records (s : State) (tool : ToolId) {f : Image → Image}
    (keeps : ∀ i, (f i).toolId = i.toolId) (st : RecordState) : ((s.setImage tool f).setState tool st).records =
      s.records.map (fun q => if q.image.toolId = tool then { image := f q.image, state := st } else q) := by
  simp only [State.setState, State.setImage, State.updateRecord, List.map_map]
  refine List.map_congr_left fun q _ => ?_
  by_cases here : q.image.toolId = tool <;> simp [here, keeps]

/-- The notices of a completed measurement: the record is SEATED again, and the outcome is told (R142). -/
def State.postMeasured (s : State) (tool : ToolId) (code kept : Nat) : State :=
  (s.post .recordChanged tool (parts (byte 3 ++ byte 3 ++ byte 0))).post .measureDone tool
    (parts (byte code ++ byte kept))

/-- Too few samples are kept (R137). -/
theorem State.completeMeasurement_sparse (found : s.find tool = some r) (t : Int)
    (few : (keptSamples s.config.band samples).length < keepThreshold samples.length) :
    s.completeMeasurement tool t samples =
      (s.idleRun.setState tool .seated).postMeasured tool 4 (keptSamples s.config.band samples).length := by
  have result : measureResult s.config s.head.reference s.station r.image t samples =
      ((keptSamples s.config.band samples).length, none) := if_pos few
  simp only [State.completeMeasurement, found, result, State.reseat_eq (s := s.idleRun) found]
  rfl

/-- The measured block that a measurement writes for its kept samples (R138 to R142). -/
def State.blockFor (s : State) (r : ToolRecord) (t : Int) (first : Sample) (rest : List Sample) : Measured :=
  computedBlock s.config s.head.reference s.station r.image t first rest

/-- A record's data with a new measured block. -/
def Image.withBlock (b : Measured) (i : Image) : Image := { i with measured := some b }

/-- Enough samples are kept: the measured block is written as a whole (R137, R142). -/
theorem State.completeMeasurement_block (found : s.find tool = some r) (t : Int)
    (kept : keptSamples s.config.band samples = first :: rest)
    (enough : keepThreshold samples.length ≤ (first :: rest).length) :
    s.completeMeasurement tool t samples =
      ((s.idleRun.setImage tool (Image.withBlock (s.blockFor r t first rest))).setState tool .seated).postMeasured tool
        (s.blockFor r t first rest).verdict.code (first :: rest).length := by
  have result : measureResult s.config s.head.reference s.station r.image t samples =
      ((first :: rest).length, some (s.blockFor r t first rest)) := by
    unfold measureResult
    simp only [kept]
    exact if_neg (Nat.not_lt.mpr enough)
  have written : (s.idleRun.setImage tool (Image.withBlock (s.blockFor r t first rest))).find tool = _ :=
    State.find_setImage (s := s.idleRun) found _ fun _ => rfl
  have seated := State.reseat_eq written
  simp only [State.completeMeasurement, found, result]
  rw [show (fun i : Image => { i with measured := some (s.blockFor r t first rest) }) =
    Image.withBlock (s.blockFor r t first rest) from rfl, seated]
  rfl

theorem State.postMeasured_frame (s : State) (tool : ToolId) (code kept : Nat) :
    (s.postMeasured tool code kept).head = s.head ∧ (s.postMeasured tool code kept).bank = s.bank
      ∧ (s.postMeasured tool code kept).line = s.line ∧ (s.postMeasured tool code kept).custody = s.custody
      ∧ (s.postMeasured tool code kept).magazine = s.magazine
      ∧ (s.postMeasured tool code kept).records = s.records := by
  simp [State.postMeasured]

end

end Sys2Proof.Machine

namespace Sys2Proof.Proofs

open Sys2Proof.Machine

/-- Settles O41: the completed run by the number of samples kept, and the block from their extremes. -/
theorem measurementCompletes : Obligations.MeasurementCompletes := by
  unfold Obligations.MeasurementCompletes
  intro s tool r n temp d past head found running samples kept last
  have event : exec (.capture s.config.captureRising) s = .next (s.completeMeasurement tool temp samples) := by
    have last : s.withSample.length = n := last
    rw [execCapture_run (State.headRead_eq_true past head) running, State.takeSample_last last]
    rfl
  obtain few | enough := Nat.lt_or_ge kept.length (keepThreshold n)
  · rw [State.completeMeasurement_sparse found temp (last ▸ few)] at event
    obtain ⟨head, bank, line, custody, magazine, records⟩ :=
      (s.idleRun.setState tool .seated).postMeasured_frame tool 4 kept.length
    exact ⟨_, event, head, bank, line, custody, magazine,
      fun _ => ⟨records, State.post_post_notices_congr (s := s) (u := s.idleRun.setState tool .seated) rfl rfl⟩,
      fun enough => absurd few (Nat.not_lt.mpr enough)⟩
  · obtain ⟨first, rest, split⟩ : ∃ first rest, kept = first :: rest :=
      List.exists_cons_of_length_pos (Nat.lt_of_lt_of_le (keepThreshold_pos n) enough)
    rw [State.completeMeasurement_block found temp split (last ▸ split ▸ enough)] at event
    let b := s.blockFor r temp first rest
    let u := (s.idleRun.setImage tool (Image.withBlock b)).setState tool .seated
    obtain ⟨head, bank, line, custody, magazine, records⟩ :=
      u.postMeasured_frame tool b.verdict.code (first :: rest).length
    have written := State.setImage_setState_records s.idleRun tool (f := Image.withBlock b) (fun _ => rfl) .seated
    refine ⟨_, event, head, bank, line, custody, magazine, fun few => absurd few (Nat.not_lt.mpr enough), fun _ =>
      ⟨b, records.trans written, ?_, rfl, rfl, ?_, rfl,
        fun zMax xMax xMin zMem zMost xMem xMost xMem' xLeast => ?_⟩⟩
    · rw [split]
      exact State.post_post_notices_congr (s := s) (u := u) rfl rfl
    · rw [split]
      rfl
    · rw [split] at zMem zMost xMem xMost xMem' xLeast
      obtain rfl := largest_map_eq (f := fun p => p.z.toInt) zMem zMost
      obtain rfl := largest_map_eq (f := fun p => p.x.toInt) xMem xMost
      obtain rfl := smallest_map_eq (f := fun p => p.x.toInt) xMem' xLeast
      exact ⟨clampResult_cast _ _, clampResult_cast _ _, rfl, verdictOf_clamps _ _ _ _ _ _ _ _⟩

end Sys2Proof.Proofs
end

section
/-! O42: runs start, and end without a result (R131, R133 to R135). -/

namespace Sys2Proof.Machine

section
variable {s : State} {tool : ToolId} {r : ToolRecord} {q : Run} {n : Byte} {t : BitVec 16}

theorem measureReferenceBody_starts (ready : s.port.nodeState = .online ∨ s.port.nodeState = .listenOnly)
    (head : s.config.head = true) (seat : s.head.seat = .present) (empty : s.headRecord = none)
    (vacant : s.callAt .head = none) (idle : s.head.run = none) :
    measureReferenceBody n t s = done (s.startRun .reference (clampN n) (sentTemp t)) := by
  have known := State.configured_of_fieldReady ready
  simp [measureReferenceBody, known, head, State.fieldReady_iff.mpr ready, seat, empty, vacant, idle]

/-- MEASURE's own rule at a SEATED record: what it answers depends on the reference (R133). -/
theorem measureBody_seated (ready : s.port.nodeState = .online ∨ s.port.nodeState = .listenOnly)
    (head : s.config.head = true) (named : tool ≠ 0) (found : s.find tool = some r) (seated : r.state = .seated) :
    measureBody tool n t s =
      if s.head.reference.valid = false then .error .noReference
      else if s.head.reference.stale (sentTemp t) = true then .error .referenceStale
      else done (s.startMeasurement tool (clampN n) (sentTemp t)) := by
  have unequal : (tool == 0) = false := beq_eq_false_iff_ne.mpr named
  simp only [measureBody, State.configured_of_fieldReady ready, head, unequal, State.fieldReady_iff.mpr ready, found,
    seated]
  cases s.head.reference.valid <;> rfl

/-- A reference is stale more than 2.00 degrees from its temperature (R130). -/
theorem Reference.stale_iff {ref : Reference} {t : Int} : ref.stale t = true ↔ 200 < (t - ref.t).natAbs :=
  decide_eq_true_iff

/-- The notice of a record that becomes MEASURING shows its new state and place (R22). -/
theorem State.startMeasurement_eq (found : s.find tool = some r) (n : Nat) (t : Int) : s.startMeasurement tool n t =
    ((s.setState tool .measuring).startRun (.measurement tool) n t).post .recordChanged tool
      (parts (byte 4 ++ byte 3 ++ byte 0)) := by
  have measuring : ((s.setState tool .measuring).startRun (.measurement tool) n t).find tool =
      some { r with state := .measuring } := State.find_setState found _
  rw [State.startMeasurement, State.postChanged_eq measuring]
  simp only [RecordState.code, RecordState.placeCode]

theorem abortMeasureBody_ends (past : s.port.nodeState ≠ .unconfigured) (head : s.config.head = true)
    (running : s.head.run = some q) : abortMeasureBody s = done (s.endRun .aborted) := by
  simp [abortMeasureBody, State.configured_eq_true past, head, running]

theorem execCaptureTimeout_due (running : s.head.run = some q) (due : reached s.now q.deadline = true) :
    exec .captureTimeout s = .next (s.endRun .timeout) :=
  if_pos (by rw [running]; exact due)

end

end Sys2Proof.Machine

namespace Sys2Proof.Proofs

open Sys2Proof.Machine

/-- Settles O42: the starts by their commands' rules, the ends by the kind of the run. -/
theorem runsStartAndEnd : Obligations.RunsStartAndEnd := by
  unfold Obligations.RunsStartAndEnd
  intro s past head _ _ _
  refine ⟨fun n t free ready seat empty vacant idle => ?_, fun n t tool r free ready named found seated => ?_,
    fun n t d active => ⟨fun free => ?_, fun due => ?_⟩,
    fun tool r n t d found active => ⟨fun free => ?_, fun due => ?_⟩⟩
  · exact hostCommand_ok free (measureReferenceBody_starts ready head seat empty vacant idle)
  · have body := measureBody_seated (n := n) (t := t) ready head named found seated
    have stale_iff := Reference.stale_iff (ref := s.head.reference) (t := sentTemp t)
    refine ⟨fun invalid => ?_, fun valid stale => ?_, fun valid fresh => ?_⟩
    · rw [if_pos invalid] at body
      exact hostCommand_error free body
    · rw [if_neg (by rw [valid]; decide), if_pos (stale_iff.mpr stale)] at body
      exact hostCommand_error free body
    · have fresh := mt stale_iff.mp (Nat.not_lt.mpr fresh)
      rw [if_neg (by rw [valid]; decide), if_neg fresh, State.startMeasurement_eq found] at body
      exact hostCommand_ok free body
  · have body := abortMeasureBody_ends past head active
    rw [State.endRun_reference active rfl] at body
    exact hostCommand_ok free body
  · rw [execCaptureTimeout_due active due, State.endRun_reference active rfl]
    rfl
  · have body := abortMeasureBody_ends past head active
    rw [State.endRun_measurement active rfl found] at body
    exact hostCommand_ok free body
  · rw [execCaptureTimeout_due active due, State.endRun_measurement active rfl found]
    rfl

end Sys2Proof.Proofs
end

section
/-! O43: the seat (R128, R68). -/

namespace Sys2Proof.Machine

section
variable {s u : State} {tool : ToolId} {r : ToolRecord} {q : Run}

/-! ### An unseated run -/

theorem State.unseatRun_idle (idle : s.head.run = none) : s.unseatRun = s := by
  rw [State.unseatRun, idle]

theorem State.unseatRun_run (running : s.head.run = some q) : s.unseatRun = s.idleRun.postOutcome q .unseated := by
  rw [State.unseatRun, running]

theorem State.postOutcome_frame (s : State) (q : Run) (o : RunOutcome) :
    (s.postOutcome q o).head = s.head ∧ (s.postOutcome q o).records = s.records
      ∧ (s.postOutcome q o).custody = s.custody ∧ (s.postOutcome q o).line = s.line
      ∧ (s.postOutcome q o).bank = s.bank := by
  unfold State.postOutcome
  split <;> simp

/-- An unseated run changes the head and the notices only. -/
theorem State.unseatRun_frame (s : State) :
    s.unseatRun.head = { s.head with run := none, samples := if s.head.run = none then s.head.samples else [] }
      ∧ s.unseatRun.records = s.records ∧ s.unseatRun.custody = s.custody ∧ s.unseatRun.line = s.line
      ∧ s.unseatRun.bank = s.bank := by
  cases active : s.head.run with
  | none =>
    rw [State.unseatRun_idle active, if_pos rfl, ← active]
    exact ⟨rfl, rfl, rfl, rfl, rfl⟩
  | some q =>
    rw [State.unseatRun_run active, if_neg nofun]
    exact State.postOutcome_frame s.idleRun q .unseated

/-! ### The record and the reading -/

/-- The head with its seat reading ABSENT (R128). -/
def State.seatAbsent (s : State) : State := { s with head := { s.head with seat := .absent } }

/-- The seat-absent event up to the run: the record on the head and HEAD_UNSEATED (R128). -/
def State.seatLost (s : State) : State :=
  (s.seatAbsent.liftOff s.headRecord).post .headUnseated 0 (headTool s.headRecord)

theorem State.liftOff_frame (s : State) (r : Option ToolRecord) :
    (s.liftOff r).head = s.head ∧ (s.liftOff r).custody = s.custody ∧ (s.liftOff r).line = s.line
      ∧ (s.liftOff r).bank = s.bank ∧ (s.liftOff r).now = s.now := by
  unfold State.liftOff
  split <;> simp

/-- The lost seat changes its reading, the record and the notices only. -/
theorem State.seatLost_frame (s : State) :
    s.seatLost.head = { s.head with seat := .absent } ∧ s.seatLost.custody = s.custody ∧ s.seatLost.line = s.line
      ∧ s.seatLost.bank = s.bank ∧ s.seatLost.now = s.now := by
  simp only [State.seatLost, State.post_head, State.post_custody, State.post_line, State.post_bank, State.post_now]
  exact s.seatAbsent.liftOff_frame s.headRecord

theorem State.seatLost_run (s : State) : s.seatLost.head.run = s.head.run := by
  rw [s.seatLost_frame.1]

/-- An event on the empty head lifts no record off. -/
theorem State.seatLost_empty (empty : s.headRecord = none) : s.seatLost = s.seatAbsent.post .headUnseated 0 0 := by
  rw [State.seatLost, empty]
  rfl

/-- The record on the head becomes LOOSE, with its notice before HEAD_UNSEATED (R22, R128). -/
theorem State.seatLost_record (held : s.headRecord = some r) (found : s.find r.image.toolId = some r) :
    s.seatLost = ((s.seatAbsent.setState r.image.toolId .loose).post .recordChanged r.image.toolId
      (parts (byte 5 ++ byte 0 ++ byte 0))).post .headUnseated 0 r.image.toolId := by
  have changed : (s.seatAbsent.setState r.image.toolId .loose).find r.image.toolId = some { r with state := .loose } :=
    State.find_setState (s := s.seatAbsent) found .loose
  rw [State.seatLost, held]
  simp only [State.liftOff, headTool, State.postChanged_eq changed, RecordState.code, RecordState.placeCode]

/-! ### The seat-absent event -/

theorem State.unseat_eq (s : State) : s.unseat = s.seatLost.unseatRun.withdrawCall .head := rfl

theorem State.unseated_custody (s : State) : s.seatLost.unseatRun.custody = s.custody := by
  obtain ⟨-, -, ended, -⟩ := s.seatLost.unseatRun_frame
  obtain ⟨-, lost, -⟩ := s.seatLost_frame
  exact ended.trans lost

/-- Without a call for the head none is withdrawn. -/
theorem State.unseat_vacant (vacant : s.callAt .head = none) : s.unseat = s.seatLost.unseatRun :=
  State.withdrawCall_none ((State.callAt_congr s.unseated_custody _).trans vacant)

theorem execHeadUnseated_read (read : s.headRead = true) (seat : s.head.seat = .present) :
    exec .headUnseated s = .next s.unseat :=
  if_pos (by rw [read, seat]; rfl)

/-- A withdrawn call whose purpose is no slot leaves the magazine alone (R68). -/
theorem State.withdrawCall_magazine {place : Purpose} (elsewhere : ∀ n, place ≠ .slot n) :
    (s.withdrawCall place).magazine = s.magazine := by
  unfold State.withdrawCall
  split
  · next i here =>
    obtain ⟨c, call, rfl⟩ := State.call?_of_callAt here
    rw [State.closeCall_magazine call, State.leavePlace_elsewhere elsewhere]
  · rfl

end

end Sys2Proof.Machine

namespace Sys2Proof.Proofs

open Sys2Proof.Machine

/-- Settles O43: the seat-absent event by the record, the run and the call that it meets. -/
theorem seatEvents : Obligations.SeatEvents := by
  unfold Obligations.SeatEvents
  intro s past head
  have read := State.headRead_eq_true past head
  have run := s.seatLost_run
  refine ⟨fun high unsettled => ?first, fun absent => ?seated, fun seat empty idle vacant => ?unseated,
    fun n temp d seat empty vacant running => ?reference, fun i c seat empty idle here call => ?call,
    fun r seat held found vacant => ?record⟩
  case first =>
    refine (if_pos (by rw [read, unsettled]; rfl)).trans ?_
    simp only [levelReading, eq_comm (a := high)]
  case seated => exact if_pos (by rw [read, absent]; rfl)
  case unseated =>
    rw [execHeadUnseated_read read seat, State.unseat_vacant vacant, State.unseatRun_idle (run.trans idle),
      State.seatLost_empty empty]
    rfl
  case reference =>
    rw [execHeadUnseated_read read seat, State.unseat_vacant vacant, State.unseatRun_run (run.trans running),
      State.seatLost_empty empty, State.idleRun_post]
    rfl
  case call =>
    have same := s.unseated_custody
    obtain ⟨closed, told⟩ :=
      State.withdrawCall_some ((State.callAt_congr same _).trans here) ((State.call?_congr same i).trans call)
    have event : s.seatLost.unseatRun = s.seatAbsent.post .headUnseated 0 0 := by
      rw [State.unseatRun_idle (run.trans idle), State.seatLost_empty empty]
    rw [same] at closed
    refine ⟨s.unseat, execHeadUnseated_read read seat, ?_, closed, ?_, ?_, told.trans ?_⟩
    · rw [State.unseat_eq, State.withdrawCall_head, event, State.post_head]
      rfl
    · rw [State.unseat_eq, State.withdrawCall_records, event, State.post_records]
      rfl
    · rw [State.unseat_eq, State.withdrawCall_magazine (place := .head) (fun _ => nofun), event, State.post_magazine]
      rfl
    · rw [event]
      exact State.post_post_notices_congr (s := s) (u := s.seatAbsent) rfl rfl
  case record =>
    have event := State.seatLost_record held found
    obtain ⟨head', records, custody, line, bank⟩ := s.seatLost.unseatRun_frame
    obtain ⟨lostHead, lostCustody, lostLine, lostBank, now⟩ := s.seatLost_frame
    have told : s.seatLost.notices = ((s.post .recordChanged r.image.toolId
        (parts (byte 5 ++ byte 0 ++ byte 0))).post .headUnseated 0 r.image.toolId).notices := by
      rw [event]
      exact State.post_post_notices_congr (s := s) (u := s.seatAbsent.setState _ _) rfl rfl
    refine ⟨s.seatLost.unseatRun, ?_, ?_, ?_, ⟨fun idle => ?_, fun tool n temp d running => ?_⟩,
      custody.trans lostCustody, line.trans lostLine, bank.trans lostBank⟩
    · rw [execHeadUnseated_read read seat, State.unseat_vacant vacant]
    · rw [head', lostHead]
    · rw [records, event, State.post_records, State.post_records]
      rfl
    · rw [State.unseatRun_idle (run.trans idle), told]
    · rw [State.unseatRun_run (run.trans running)]
      refine State.post_notices_congr (t := s.seatLost.idleRun) told ?_ .measureDone tool (parts (byte 7 ++ byte 0))
      rw [State.idleRun_now, now, State.post_now, State.post_now]

end Sys2Proof.Proofs
end

section
/-! SUPPORT. O44 and O45: LOAD, UNLOAD and CHARGE (R147 to R154). -/

namespace Sys2Proof.Machine

/-- LOAD into an EMPTY slot, by the record held here: without one the tool is called for, a LOOSE one is loaded or the
slot refused, any other is refused (R147 to R149). -/
def State.loadEmpty (s : State) (n : Nat) (tool : ToolId) : CommandResult :=
  match s.find tool with
  | none => (s.openCall tool (.slot n)).bind fun t => loadAnswer (t.setSlot n (.calling tool)) n
  | some r =>
    match r.state with
    | .loose => loadAnswer (s.loadHere n tool r.image) n
    | .missing | .outbound _ _ | .inDoubt _ _ _ => .error .badState
    | _ => .error .placeConflict

section
variable {s t : State} {b : Byte} {n i : Nat} {tool : ToolId} {m : MagSlot} {r : ToolRecord}

/-! ### A slot changes with its record -/

/-- The notice of a record that changes with a slot shows its new state and place (R22). -/
theorem State.setState_setSlot_postChanged (found : s.find tool = some r) (st : RecordState) (n : Nat) (m : MagSlot) :
    ((s.setState tool st).setSlot n m).postChanged tool = ((s.setState tool st).setSlot n m).post .recordChanged tool
      (parts (byte st.code ++ byte st.placeCode.1 ++ byte st.placeCode.2)) := by
  rw [State.postChanged_eq ((State.find_congr (State.setSlot_records ..) tool).trans (State.find_setState found st))]

/-! ### LOAD (R147 to R149) -/

theorem loadBody_eq (ready : s.port.nodeState = .online ∨ s.port.nodeState = .listenOnly) (named : tool ≠ 0)
    (entry : s.slot? b.toNat = some m) :
    loadBody b tool s = if m = .empty then s.loadEmpty b.toNat tool else .error .slotOccupied := by
  simp only [loadBody, State.configured_of_fieldReady ready, State.fieldReady_iff.mpr ready, entry, named]
  by_cases empty : m = .empty
  · simp only [empty, State.loadEmpty]
    cases s.find tool with
    | none => cases s.openCall tool (.slot b.toNat) <;> rfl
    | some r => rfl
  · simp [empty]

/-- LOAD answers the state of its slot (R147). -/
theorem loadAnswer_eq (entry : s.slot? n = some m) : loadAnswer s n = .ok (s, byte m.code) := by
  rw [loadAnswer, entry]
  rfl

/-- A LOOSE FIT record is LOADED, and its slot with it (R148). -/
theorem State.loadEmpty_fit (known : s.slot? n ≠ none) (found : s.find tool = some r) (loose : r.state = .loose)
    (fit : r.image.fit = true) : s.loadEmpty n tool =
      .ok (((s.setState tool (.loaded n)).setSlot n (.loaded tool)).post .recordChanged tool
        (parts (byte 2 ++ byte 2 ++ byte n)), byte 2) := by
  simp only [State.loadEmpty, found, loose, State.loadHere, r.image.fit_iff.mp fit,
    State.setState_setSlot_postChanged found]
  exact loadAnswer_eq (m := .loaded tool)
    ((State.slot?_congr (State.post_magazine ..) n).trans (State.slot?_setSlot (s := s.setState tool _) known))

/-- A LOOSE unfit record stays, and the slot is REFUSED for its unfit reason (R148). -/
theorem State.loadEmpty_unfit {why : UnfitReason} (known : s.slot? n ≠ none) (found : s.find tool = some r)
    (loose : r.state = .loose) (unfit : r.image.unfitReason = some why) : s.loadEmpty n tool =
      .ok ((s.setSlot n (.refused (.unfit why))).post .loadRefused tool (parts (byte n ++ byte why.code)), byte 3) := by
  simp only [State.loadEmpty, found, loose, State.loadHere, unfit]
  exact loadAnswer_eq (m := .refused (.unfit why))
    ((State.slot?_congr (State.post_magazine ..) n).trans (State.slot?_setSlot known))

theorem State.loadEmpty_away (found : s.find tool = some r) (away : r.state = .missing ∨ (∃ c p, r.state = .outbound c p)
    ∨ (∃ c p d, r.state = .inDoubt c p d)) : s.loadEmpty n tool = .error .badState := by
  obtain state | ⟨c, p, state⟩ | ⟨c, p, d, state⟩ := away <;> simp only [State.loadEmpty, found, state]

theorem State.loadEmpty_placed (found : s.find tool = some r) (placed : r.state = .seated ∨ r.state = .measuring
    ∨ (∃ p, r.state = .stocked p) ∨ (∃ k, r.state = .loaded k)) : s.loadEmpty n tool = .error .placeConflict := by
  obtain state | state | ⟨p, state⟩ | ⟨k, state⟩ := placed <;> simp only [State.loadEmpty, found, state]

/-- Opening a call leaves the slots; the command changes its own behind it (R64, R149). -/
theorem State.openCall_magazine {why : Purpose} (opened : s.openCall tool why = .ok t) : t.magazine = s.magazine := by
  unfold State.openCall at opened
  cases lowest : s.custody.calls.findIdx? Option.isNone with
  | none =>
    simp only [lowest] at opened
    split_ifs at opened
  | some i =>
    simp only [lowest] at opened
    split_ifs at opened
    cases opened
    exact State.offerFrame_magazine ..

theorem State.loadEmpty_refused {why : HostResult} (unheld : s.find tool = none)
    (refused : s.openCall tool (.slot n) = .error why) : s.loadEmpty n tool = .error why := by
  simp only [State.loadEmpty, unheld, refused]
  rfl

/-- The slot of a tool that is called for is CALLING (R149). -/
theorem State.loadEmpty_calls (known : s.slot? n ≠ none) (unheld : s.find tool = none)
    (opened : s.openCall tool (.slot n) = .ok t) :
    s.loadEmpty n tool = .ok (t.setSlot n (.calling tool), byte 1) := by
  have calling : (t.setSlot n (.calling tool)).slot? n = some (.calling tool) :=
    State.slot?_setSlot (by rwa [State.slot?_congr (State.openCall_magazine opened)])
  simp only [State.loadEmpty, unheld, opened]
  exact loadAnswer_eq calling

/-! ### UNLOAD (R150) -/

theorem unloadBody_eq (known : s.port.nodeState ≠ .unconfigured) (entry : s.slot? b.toNat = some m) :
    unloadBody b s = done (s.unloadSlot b.toNat m) := by
  simp only [unloadBody, State.configured_eq_true known, entry]
  rfl

/-- A withdrawn call leaves its slot EMPTY (R65, R68). -/
theorem State.slot?_withdrawCall (known : s.slot? n ≠ none) (here : s.callAt (.slot n) = some i) :
    (s.withdrawCall (.slot n)).slot? n = some .empty := by
  obtain ⟨c, call, purpose⟩ := State.call?_of_callAt here
  rw [State.withdrawCall, here]
  exact (State.slot?_closeCall call (o := .withdrawn) rfl 0 n).trans (if_pos ⟨purpose, known⟩)

/-! ### CHARGE (R152 to R154) -/

/-- A charge at a slot that is not LOADED posts UNCHARGED (R152). -/
theorem chargeBody_unloaded {seconds : BitVec 16} (ready : s.port.nodeState = .online ∨ s.port.nodeState = .listenOnly)
    (entry : s.slot? b.toNat = some m) (unloaded : ∀ tool, m ≠ .loaded tool) : chargeBody b seconds s =
      .ok (s.post .uncharged (num b.toNat) (num (clampNat 1 3600 seconds.toNat)), unchargedBytes) := by
  simp only [chargeBody, State.configured_of_fieldReady ready, State.fieldReady_iff.mpr ready, entry]
  cases m with
  | loaded tool => exact absurd rfl (unloaded tool)
  | _ => rfl

theorem chargeBody_loaded {seconds : BitVec 16} (ready : s.port.nodeState = .online ∨ s.port.nodeState = .listenOnly)
    (entry : s.slot? b.toNat = some (.loaded tool)) (found : s.find tool = some r) : chargeBody b seconds s =
      let n := clampNat 1 3600 seconds.toNat
      .ok (s.charge tool b.toNat r.image n, beBytes 3 (r.image.charged n).lifeUsed ++ beBytes 3 (r.image.excess n)) := by
  simp only [chargeBody, State.configured_of_fieldReady ready, State.fieldReady_iff.mpr ready, entry, found]
  rfl

/-- A condition that was false and is true: its notice is due (R154). -/
theorem State.postIf_became (s : State) (before after : Bool) (k : NoticeKind) (o a : BitVec 32) :
    s.postIf (!before && after) k o a = if before = false ∧ after = true then s.post k o a else s := by
  simp only [State.postIf, Bool.and_eq_true, Bool.not_eq_true']

theorem State.postIf_decide (s : State) (p : Prop) [Decidable p] (k : NoticeKind) (o a : BitVec 32) :
    s.postIf p k o a = if p then s.post k o a else s := by
  simp only [State.postIf, decide_eq_true_eq]

end

end Sys2Proof.Machine

namespace Sys2Proof.Proofs

open Sys2Proof.Machine

/-- Settles O44: a LOAD into an EMPTY slot by the record held here, and where none is, by the call it opens. -/
theorem loadFillsASlot : Obligations.LoadFillsASlot := by
  unfold Obligations.LoadFillsASlot
  intro b tool m s free ready named entry
  have body := loadBody_eq ready named entry
  have known : s.slot? b.toNat ≠ none := by simp [entry]
  refine ⟨fun occupied => hostCommand_error free (body.trans (if_neg occupied)), fun empty => ?_⟩
  rw [if_pos empty] at body
  refine ⟨fun r found loose fit => ?fit, fun r why found loose unfit => ?unfit, fun r found away => ?away,
    fun r found placed => ?placed, fun unheld => ?unheld⟩
  case fit => exact hostCommand_ok free (body.trans (State.loadEmpty_fit known found loose fit))
  case unfit => exact hostCommand_ok free (body.trans (State.loadEmpty_unfit known found loose unfit))
  case away => exact hostCommand_error free (body.trans (State.loadEmpty_away found away))
  case placed => exact hostCommand_error free (body.trans (State.loadEmpty_placed found placed))
  case unheld =>
    cases opened : s.openCall tool (.slot b.toNat) with
    | error why => exact hostCommand_error free (body.trans (State.loadEmpty_refused unheld opened))
    | ok t => exact hostCommand_ok free (body.trans (State.loadEmpty_calls known unheld opened))

/-- Settles O45: UNLOAD by the slot's state; a charge of a LOADED record by the notices that it posts in turn. -/
theorem unloadAndCharge : Obligations.UnloadAndCharge := by
  unfold Obligations.UnloadAndCharge
  refine ⟨fun b m s free known entry => ?_, fun b seconds m s free ready entry =>
    ⟨fun unloaded => ⟨_, hostCommand_ok free (chargeBody_unloaded ready entry unloaded)⟩, ?charge⟩⟩
  · have unloads := hostCommand_ok (c := .unload b) free (unloadBody_eq known entry)
    refine ⟨?empty, ?refused, ?loaded, ?calling⟩
    case empty =>
      rintro rfl
      exact unloads
    case refused =>
      rintro cause rfl
      exact unloads
    case loaded =>
      rintro tool r rfl found
      rw [State.unloadSlot, State.setState_setSlot_postChanged found] at unloads
      exact unloads
    case calling =>
      rintro tool i c rfl here call
      have same : (s.setSlot b.toNat .empty).custody = s.custody := State.setSlot_custody ..
      have called := (State.callAt_congr same (.slot b.toNat)).trans here
      have emptied : (s.setSlot b.toNat .empty).slot? b.toNat ≠ none := by
        simp [State.slot?_setSlot, entry]
      obtain ⟨closed, told⟩ := State.withdrawCall_some called ((State.call?_congr same i).trans call)
      rw [same] at closed
      refine ⟨_, unloads, rfl, State.slot?_withdrawCall emptied called, closed, ?_, told.trans ?_⟩
      · exact (State.withdrawCall_records ..).trans (State.setSlot_records ..)
      · exact State.post_notices_congr (State.setSlot_notices ..) (State.setSlot_now ..) ..
  · rintro tool r rfl found loaded
    refine (hostCommand_ok free (chargeBody_loaded ready entry found)).trans ?_
    have changed := State.postChanged_setImage (f := fun i => i.charged (clampNat 1 3600 seconds.toNat)) found
      (fun _ => rfl) rfl
    simp only [loaded] at changed
    simp only [State.charge, State.postCharge, State.postIf_became, State.postIf_decide, changed,
      eq_comm (a := r.image.lifeUsed)]
    rfl

end Sys2Proof.Proofs
end

section
/-! SUPPORT. O47 and O48: the marking pass as a course of single marks set and removed, and what such a course leaves of
the pocket table (R102, R166, R169, R170). -/

namespace Sys2Proof.Machine

/-! ### The last of the least -/

section
variable {α : Type} {key : α → Nat} {l : List α} {a : α}

theorem pickLeastLast_eq_none : pickLeastLast key l = none ↔ l = [] := by
  cases l with
  | nil => simp [pickLeastLast]
  | cons a rest =>
    unfold pickLeastLast
    split <;> (try split) <;> simp

/-- The element picked is one of the list and has the least key, and is the last with it in a list that a relation
orders. -/
theorem pickLeastLast_worst {R : α → α → Prop} (ordered : l.Pairwise R) (picked : pickLeastLast key l = some a) :
    a ∈ l ∧ ∀ b ∈ l, key a ≤ key b ∧ (key a = key b → b = a ∨ R b a) := by
  induction l generalizing a with
  | nil => cases picked
  | cons c rest ih =>
    obtain ⟨before, ordered⟩ := List.pairwise_cons.mp ordered
    unfold pickLeastLast at picked
    split at picked
    · next none =>
      cases picked
      simp [pickLeastLast_eq_none.mp none]
    · next d found =>
      obtain ⟨mem, worst⟩ := ih ordered found
      split at picked <;> cases picked
      · next less =>
        refine ⟨List.mem_cons_self, List.forall_mem_cons.mpr ⟨⟨le_rfl, fun _ => .inl rfl⟩, fun b inside => ?_⟩⟩
        have above := less.trans_le (worst b inside).1
        exact ⟨above.le, fun same => absurd same above.ne⟩
      · next least =>
        exact ⟨List.mem_cons_of_mem _ mem,
          List.forall_mem_cons.mpr ⟨⟨not_lt.mp least, fun _ => .inr (before a mem)⟩, worst⟩⟩

end

/-! ### A pocket with another mark -/

/-- What the removal of surplus marks ranks by: CLOSED pockets come before opening ones, then the remaining life
counts (R169, "Too many marks"). -/
def dropRank (records : List ToolRecord) (k : Pocket) : Nat :=
  (if k.lock.isClosed then 0 else 2 ^ 32) + lifeIn records k

/-- A pocket with another reservation mark. -/
def Pocket.withMark (k : Pocket) (m : Option Nat) : Pocket := { k with reservedFor := m }

section
variable (records : List ToolRecord) (k : Pocket) (m : Option Nat)

@[simp] theorem Pocket.withMark_reservedFor : (k.withMark m).reservedFor = m := rfl
@[simp] theorem Pocket.withMark_lock : (k.withMark m).lock = k.lock := rfl
@[simp] theorem Pocket.withMark_plain : (k.withMark m).plain = k.plain := rfl
@[simp] theorem classIn_withMark : classIn records (k.withMark m) = classIn records k := rfl
@[simp] theorem lifeIn_withMark : lifeIn records (k.withMark m) = lifeIn records k := rfl
@[simp] theorem dropRank_withMark : dropRank records (k.withMark m) = dropRank records k := rfl
@[simp] theorem holdsFit_withMark (cls : Nat) : holdsFit records cls (k.withMark m) = holdsFit records cls k := rfl

end

theorem Pocket.eq_withMark_of_plain {k l : Pocket} (same : l.plain = k.plain) : l = k.withMark l.reservedFor := by
  have marked : l.plain.withMark l.reservedFor = k.plain.withMark l.reservedFor := by rw [same]
  exact marked

section
variable {records : List ToolRecord} {row row' : Reservation} {k : Pocket} {cls : Nat}

theorem markOf_eq_true : markOf records row k = true ↔
    k.reservedFor = some row.requester ∧ classIn records k = row.cls := by simp [markOf]

theorem markOf_unmarked (unmarked : k.reservedFor = none) : markOf records row k = false := by
  simp [markOf, unmarked]

theorem classIn_of_holdsFit (fits : holdsFit records cls k = true) : classIn records k = cls := by
  unfold holdsFit at fits
  unfold classIn
  split at fits
  · next r found => simp_all
  · cases fits

theorem unmarked_of_qualifies (fits : qualifies records cls k = true) : k.reservedFor = none := by
  simp only [qualifies, Bool.and_eq_true, Option.isNone_iff_eq_none] at fits
  exact fits.1.2

theorem holdsFit_of_qualifies (fits : qualifies records cls k = true) : holdsFit records cls k = true :=
  (Bool.and_eq_true_iff.mp fits).2

/-- A qualifying pocket that is marked for a row carries a mark of it. -/
theorem markOf_withMark_of_qualifies (fits : qualifies records row.cls k = true) :
    markOf records row (k.withMark (some row.requester)) = true :=
  markOf_eq_true.mpr ⟨rfl, (classIn_withMark ..).trans (classIn_of_holdsFit (holdsFit_of_qualifies fits))⟩

/-- A mark belongs to one requester and one class (R166). -/
theorem key_of_markOf (mark : markOf records row k = true) (mark' : markOf records row' k = true) :
    (row'.requester, row'.cls) = (row.requester, row.cls) := by
  obtain ⟨requester, cls⟩ := markOf_eq_true.mp mark
  obtain ⟨requester', cls'⟩ := markOf_eq_true.mp mark'
  exact Prod.ext (Option.some.inj (requester'.symm.trans requester)) (cls'.symm.trans cls)

end

/-- One row for each requester and class (R166). -/
abbrev OneEach (rows : List Reservation) : Prop := (rows.map (fun row => (row.requester, row.cls))).Nodup

theorem OneEach.eq {rows : List Reservation} (single : OneEach rows) {row row' : Reservation} (held : row ∈ rows)
    (held' : row' ∈ rows) (key : (row'.requester, row'.cls) = (row.requester, row.cls)) : row' = row :=
  List.inj_on_of_nodup_map single held' held key

/-! ### One changed entry of the pocket table -/

/-- The places of the pockets that carry a mark of a row (R166). -/
def markedAt (records : List ToolRecord) (row : Reservation) (pockets : List Pocket) : Set Nat :=
  {i | ∃ k, pockets[i]? = some k ∧ markOf records row k = true}

section
variable {records : List ToolRecord} {row : Reservation} {pockets : List Pocket} {i j : Nat} {k l : Pocket}

theorem getElem?_set_eq_some (entry : pockets[i]? = some k) {k' : Pocket} :
    (pockets.set i l)[j]? = some k' ↔ i = j ∧ k' = l ∨ i ≠ j ∧ pockets[j]? = some k' := by
  obtain ⟨inside, -⟩ := List.getElem?_eq_some_iff.mp entry
  by_cases here : i = j
  · subst here
    simp [inside, eq_comm]
  · simp [here]

/-- The marked count of a row once an entry has changed. -/
theorem marked_set (entry : pockets[i]? = some k) :
    marked records row (pockets.set i l) + (if markOf records row k = true then 1 else 0)
      = marked records row pockets + (if markOf records row l = true then 1 else 0) := by
  obtain ⟨inside, rfl⟩ := List.getElem?_eq_some_iff.mp entry
  have count := List.countP_set (p := markOf records row) (a := l) inside
  have positive : markOf records row pockets[i] = true → 0 < pockets.countP (markOf records row) :=
    fun mark => List.countP_pos_iff.mpr ⟨_, List.getElem_mem inside, mark⟩
  unfold marked
  by_cases mark : markOf records row pockets[i] = true
  · have := positive mark
    simp only [mark, if_true] at count ⊢
    omega
  · simp only [mark] at count ⊢
    simpa using count

theorem markedAt_set_of_mark (entry : pockets[i]? = some k) (mark : markOf records row l = true) :
    markedAt records row pockets ⊆ markedAt records row (pockets.set i l) := by
  rintro j ⟨k', entry', mark'⟩
  by_cases here : i = j
  · exact ⟨l, (getElem?_set_eq_some entry).mpr (.inl ⟨here, rfl⟩), mark⟩
  · exact ⟨k', (getElem?_set_eq_some entry).mpr (.inr ⟨here, entry'⟩), mark'⟩

theorem markedAt_set_of_unmarked (entry : pockets[i]? = some k) (unmarked : markOf records row l = false) :
    markedAt records row (pockets.set i l) ⊆ markedAt records row pockets := by
  rintro j ⟨k', entry', mark'⟩
  obtain ⟨-, rfl⟩ | ⟨-, before⟩ := (getElem?_set_eq_some entry).mp entry'
  · exact absurd mark' (Bool.eq_false_iff.mp unmarked)
  · exact ⟨k', before, mark'⟩

theorem markedAt_subset_set (entry : pockets[i]? = some k) (unmarked : markOf records row k = false) :
    markedAt records row pockets ⊆ markedAt records row (pockets.set i l) := by
  rintro j ⟨k', entry', mark'⟩
  refine ⟨k', (getElem?_set_eq_some entry).mpr (.inr ⟨?_, entry'⟩), mark'⟩
  rintro rfl
  cases entry.symm.trans entry'
  exact Bool.eq_false_iff.mp unmarked mark'

end

/-! ### One mark set or removed -/

/-- One change of a mark that R169 allows: a row that is short marks the best pocket that qualifies, a row with a
surplus unmarks the worst of its own. -/
inductive Remark (records : List ToolRecord) (rows : List Reservation) (pockets : List Pocket) : List Pocket → Prop
  | add {row : Reservation} {i : Nat} {k : Pocket} (held : row ∈ rows)
      (short : marked records row pockets < row.wanted)
      (entry : pockets[i]? = some k) (fits : qualifies records row.cls k = true)
      (best : ∀ j l, pockets[j]? = some l → qualifies records row.cls l = true →
        lifeIn records l < lifeIn records k ∨ lifeIn records l = lifeIn records k ∧ i ≤ j) :
      Remark records rows pockets (pockets.set i (k.withMark (some row.requester)))
  | drop {row : Reservation} {i : Nat} {k : Pocket} (held : row ∈ rows)
      (surplus : row.wanted < marked records row pockets)
      (entry : pockets[i]? = some k) (mark : markOf records row k = true)
      (worst : ∀ j l, pockets[j]? = some l → markOf records row l = true →
        dropRank records k < dropRank records l ∨ dropRank records k = dropRank records l ∧ j ≤ i) :
      Remark records rows pockets (pockets.set i (k.withMark none))

/-- A course of such changes. -/
abbrev Remarks (records : List ToolRecord) (rows : List Reservation) : List Pocket → List Pocket → Prop :=
  Relation.ReflTransGen (Remark records rows)

section
variable {records : List ToolRecord} {rows : List Reservation} {pockets pockets' : List Pocket} {row : Reservation}

/-- What one change does to a row: nothing, one mark more where it was short, or one fewer where it had a surplus. -/
theorem Remark.row_cases (single : OneEach rows) (held : row ∈ rows) (change : Remark records rows pockets pockets') :
    (marked records row pockets' = marked records row pockets
        ∧ markedAt records row pockets' = markedAt records row pockets)
    ∨ (marked records row pockets < row.wanted ∧ marked records row pockets' = marked records row pockets + 1
        ∧ markedAt records row pockets ⊆ markedAt records row pockets')
    ∨ (row.wanted < marked records row pockets ∧ marked records row pockets' + 1 = marked records row pockets
        ∧ markedAt records row pockets' ⊆ markedAt records row pockets) := by
  cases change with
  | @add row' i k held' short entry fits best =>
    have before : markOf records row k = false := markOf_unmarked (unmarked_of_qualifies fits)
    have own := markOf_withMark_of_qualifies fits
    have count := marked_set (records := records) (row := row) (l := k.withMark (some row'.requester)) entry
    by_cases here : row' = row
    · subst here
      exact .inr (.inl ⟨short, by simpa [before, own] using count, markedAt_set_of_mark entry own⟩)
    · have other : markOf records row (k.withMark (some row'.requester)) = false :=
        Bool.eq_false_iff.mpr fun mark => here (single.eq held held' (key_of_markOf mark own))
      exact .inl ⟨by simpa [before, other] using count,
        (markedAt_set_of_unmarked entry other).antisymm (markedAt_subset_set entry before)⟩
  | @drop row' i k held' surplus entry mark worst =>
    have gone : markOf records row (k.withMark none) = false := markOf_unmarked rfl
    have count := marked_set (records := records) (row := row) (l := k.withMark none) entry
    by_cases here : row' = row
    · subst here
      exact .inr (.inr ⟨surplus, by simpa [mark, gone] using count, markedAt_set_of_unmarked entry gone⟩)
    · have other : markOf records row k = false :=
        Bool.eq_false_iff.mpr fun mark' => here (single.eq held held' (key_of_markOf mark' mark))
      exact .inl ⟨by simpa [other, gone] using count,
        (markedAt_set_of_unmarked entry gone).antisymm (markedAt_subset_set entry other)⟩

theorem Remark.plain (change : Remark records rows pockets pockets') :
    pockets'.map Pocket.plain = pockets.map Pocket.plain := by
  have keeps : ∀ {i : Nat} {k : Pocket} (m : Option Nat), pockets[i]? = some k →
      (pockets.set i (k.withMark m)).map Pocket.plain = pockets.map Pocket.plain := by
    intro i k m entry
    obtain ⟨inside, rfl⟩ := List.getElem?_eq_some_iff.mp entry
    rw [List.map_set, Pocket.withMark_plain, ← List.getElem_map Pocket.plain (h := by simpa using inside),
      List.set_getElem_self]
  cases change with
  | add _ _ entry => exact keeps _ entry
  | drop _ _ entry => exact keeps _ entry

/-! ### A course of changes -/

theorem Remarks.plain (course : Remarks records rows pockets pockets') :
    pockets'.map Pocket.plain = pockets.map Pocket.plain := by
  induction course with
  | refl => rfl
  | tail _ change ih => exact change.plain.trans ih

/-- A pocket after a course is the pocket before it with another mark. -/
theorem Remarks.entry {i : Nat} {k' : Pocket} (course : Remarks records rows pockets pockets')
    (entry : pockets'[i]? = some k') : ∃ k, pockets[i]? = some k ∧ k' = k.withMark k'.reservedFor := by
  have plain := congrArg (·[i]?) course.plain
  simp only [List.getElem?_map, entry, Option.map_some] at plain
  obtain ⟨k, before, same⟩ := Option.map_eq_some_iff.mp plain.symm
  exact ⟨k, before, Pocket.eq_withMark_of_plain same.symm⟩

/-- A pocket that is unmarked before a course and after it is the same. -/
theorem Remarks.entry_unmarked {i : Nat} {k k' : Pocket} (course : Remarks records rows pockets pockets')
    (before : pockets[i]? = some k) (unmarked : k.reservedFor = none)
    (after : pockets'[i]? = some k') (free : k'.reservedFor = none) : k' = k := by
  obtain ⟨l, here, same⟩ := Remarks.entry course after
  cases before.symm.trans here
  rw [same, free, ← unmarked]
  rfl

/-- A mark after a course stood there before, or its pocket qualifies, unmarked, for a row of the requester. -/
theorem Remarks.mark_cases {i n : Nat} {k k' : Pocket} (course : Remarks records rows pockets pockets')
    (before : pockets[i]? = some k) (entry : pockets'[i]? = some k') (mark : k'.reservedFor = some n) :
    k.reservedFor = some n ∨ ∃ row ∈ rows, row.requester = n ∧ qualifies records row.cls (k.withMark none) = true := by
  induction course generalizing k' with
  | refl =>
    cases before.symm.trans entry
    exact .inl mark
  | tail course change ih =>
    cases change with
    | add held _ source fits =>
      obtain ⟨rfl, rfl⟩ | ⟨-, kept⟩ := (getElem?_set_eq_some source).mp entry
      · obtain ⟨l, here, same⟩ := Remarks.entry course source
        cases before.symm.trans here
        rw [unmarked_of_qualifies fits] at same
        exact .inr ⟨_, held, Option.some.inj mark, same ▸ fits⟩
      · exact ih kept mark
    | drop _ _ source =>
      obtain ⟨-, rfl⟩ | ⟨-, kept⟩ := (getElem?_set_eq_some source).mp entry
      · cases mark
      · exact ih kept mark

/-- A row with a surplus keeps as many marks as it wants, and gains none. -/
theorem Remarks.surplus (single : OneEach rows) (held : row ∈ rows) (course : Remarks records rows pockets pockets')
    (surplus : row.wanted < marked records row pockets) :
    row.wanted ≤ marked records row pockets'
      ∧ markedAt records row pockets' ⊆ markedAt records row pockets := by
  induction course with
  | refl => exact ⟨surplus.le, subset_rfl⟩
  | tail _ change ih =>
    obtain ⟨enough, among⟩ := ih
    obtain ⟨same, places⟩ | ⟨short, -, -⟩ | ⟨more, fewer, places⟩ := change.row_cases single held
    · exact ⟨same ▸ enough, places ▸ among⟩
    · exact absurd short (not_lt.mpr enough)
    · exact ⟨by omega, places.trans among⟩

/-- A row without a surplus loses no mark, and gets no surplus. -/
theorem Remarks.noSurplus (single : OneEach rows) (held : row ∈ rows) (course : Remarks records rows pockets pockets')
    (within : marked records row pockets ≤ row.wanted) :
    marked records row pockets ≤ marked records row pockets' ∧ marked records row pockets' ≤ row.wanted
      ∧ markedAt records row pockets ⊆ markedAt records row pockets' := by
  induction course with
  | refl => exact ⟨le_rfl, within, subset_rfl⟩
  | tail _ change ih =>
    obtain ⟨grown, within, among⟩ := ih
    obtain ⟨same, places⟩ | ⟨short, more, places⟩ | ⟨surplus, -, -⟩ := change.row_cases single held
    · exact ⟨same ▸ grown, same ▸ within, places ▸ among⟩
    · exact ⟨by omega, by omega, among.trans places⟩
    · exact absurd surplus (not_lt.mpr within)

/-- A row that has a surplus at some point of a course had one from the start. -/
theorem Remarks.surplus_before (single : OneEach rows) (held : row ∈ rows)
    (course : Remarks records rows pockets pockets') (surplus : row.wanted < marked records row pockets') :
    row.wanted < marked records row pockets := by
  by_contra within
  exact absurd surplus (not_lt.mpr (course.noSurplus single held (not_lt.mp within)).2.1)

/-- Only marks that stood before a course are removed in it. -/
theorem Remarks.marked_before {i : Nat} {k l : Pocket} (single : OneEach rows) (held : row ∈ rows)
    (course : Remarks records rows pockets pockets') (surplus : row.wanted < marked records row pockets')
    (before : pockets[i]? = some k) (entry : pockets'[i]? = some l) (mark : markOf records row l = true) :
    markOf records row k = true := by
  have had := course.surplus_before single held surplus
  obtain ⟨k', here, mark⟩ := (course.surplus single held had).2 ⟨l, entry, mark⟩
  cases before.symm.trans here
  exact mark

/-- No mark goes where no row had a surplus. -/
theorem Remarks.kept {i : Nat} {k : Pocket} (single : OneEach rows) (course : Remarks records rows pockets pockets')
    (within : ∀ row ∈ rows, marked records row pockets ≤ row.wanted) (before : pockets[i]? = some k)
    (mark : k.reservedFor ≠ none) : pockets'[i]? = some k := by
  induction course with
  | refl => exact before
  | tail course change ih =>
    cases change with
    | add _ _ source fits =>
      refine (getElem?_set_eq_some source).mpr (.inr ⟨?_, ih⟩)
      rintro rfl
      cases source.symm.trans ih
      exact mark (unmarked_of_qualifies fits)
    | drop held surplus =>
      exact absurd (Remarks.surplus_before single held course surplus) (not_lt.mpr (within _ held))

/-- Of two unmarked pockets that qualify for a class, the marked one is ahead: of the greater remaining life, or of the
same life and the lower number (R169, "Too few marks"). -/
theorem Remarks.best {i j cls : Nat} {k l k' : Pocket} (single : OneEach rows)
    (course : Remarks records rows pockets pockets')
    (before : pockets[i]? = some k) (fits : qualifies records cls k = true)
    (after : pockets'[i]? = some k') (mark : k'.reservedFor ≠ none)
    (beside : pockets[j]? = some l) (others : qualifies records cls l = true) (left : pockets'[j]? = some l) :
    lifeIn records l < lifeIn records k ∨ lifeIn records l = lifeIn records k ∧ i < j := by
  have free := unmarked_of_qualifies others
  induction course generalizing k' with
  | refl =>
    cases before.symm.trans after
    exact absurd (unmarked_of_qualifies fits) mark
  | tail course change ih =>
    cases change with
    | add _ _ source chosen best =>
      obtain ⟨-, rfl⟩ | ⟨other, left⟩ := (getElem?_set_eq_some source).mp left
      · cases free
      obtain ⟨rfl, -⟩ | ⟨-, after⟩ := (getElem?_set_eq_some source).mp after
      · obtain rfl := Remarks.entry_unmarked course before (unmarked_of_qualifies fits) source
          (unmarked_of_qualifies chosen)
        have cls := (classIn_of_holdsFit (holdsFit_of_qualifies chosen)).symm.trans
          (classIn_of_holdsFit (holdsFit_of_qualifies fits))
        exact (best j l left (cls ▸ others)).imp_right (And.imp_right (other.symm.lt_of_le' ·))
      · exact ih after mark left
    | @drop _ x _ held surplus source own =>
      have had : ∀ {y : Nat} {h : Pocket}, pockets[y]? = some h → h.reservedFor = none → x ≠ y := by
        rintro y h here free rfl
        have mark := Remarks.marked_before single held course surplus here source own
        rw [markOf_unmarked free] at mark
        cases mark
      obtain ⟨here, -⟩ | ⟨-, left⟩ := (getElem?_set_eq_some source).mp left
      · exact absurd here (had beside free)
      obtain ⟨here, -⟩ | ⟨-, after⟩ := (getElem?_set_eq_some source).mp after
      · exact absurd here (had before (unmarked_of_qualifies fits))
      · exact ih after mark left

/-- Of two pockets marked for a row, the one that loses its mark comes first in the rank, or has the same rank and the
higher number (R169, "Too many marks"). -/
theorem Remarks.worst {i j : Nat} {k l k' l' : Pocket} (single : OneEach rows) (held : row ∈ rows)
    (course : Remarks records rows pockets pockets')
    (before : pockets[i]? = some k) (mark : markOf records row k = true)
    (after : pockets'[i]? = some k') (gone : markOf records row k' = false)
    (beside : pockets[j]? = some l) (others : markOf records row l = true)
    (left : pockets'[j]? = some l') (kept : markOf records row l' = true) :
    dropRank records k < dropRank records l ∨ dropRank records k = dropRank records l ∧ j < i := by
  induction course generalizing k' l' with
  | refl =>
    cases before.symm.trans after
    exact absurd mark (Bool.eq_false_iff.mp gone)
  | tail course change ih =>
    have surplus : row.wanted < marked records row pockets := by
      by_contra within
      obtain ⟨k'', here, mark⟩ :=
        (Remarks.noSurplus single held (course.tail change) (not_lt.mp within)).2.2 ⟨k, before, mark⟩
      cases after.symm.trans here
      exact Bool.eq_false_iff.mp gone mark
    cases change with
    | add held' short source fits =>
      obtain ⟨-, rfl⟩ | ⟨-, left⟩ := (getElem?_set_eq_some source).mp left
      · obtain rfl := single.eq held held' (key_of_markOf kept (markOf_withMark_of_qualifies fits))
        exact absurd short (not_lt.mpr (Remarks.surplus single held course surplus).1)
      obtain ⟨rfl, -⟩ | ⟨-, after⟩ := (getElem?_set_eq_some source).mp after
      · exact ih source (markOf_unmarked (unmarked_of_qualifies fits)) left kept
      · exact ih after gone left kept
    | @drop row' _ m held' _ source own worst =>
      obtain ⟨-, rfl⟩ | ⟨other, left⟩ := (getElem?_set_eq_some source).mp left
      · cases kept
      obtain ⟨rfl, -⟩ | ⟨-, after⟩ := (getElem?_set_eq_some source).mp after
      · cases here : markOf records row m with
        | false => exact ih source here left kept
        | true =>
          obtain rfl := single.eq held held' (key_of_markOf here own)
          have ahead := worst j l' left kept
          obtain ⟨k₀, same, entry⟩ := Remarks.entry course source
          cases before.symm.trans same
          obtain ⟨l₀, same, entry'⟩ := Remarks.entry course left
          cases beside.symm.trans same
          rw [entry, entry', dropRank_withMark, dropRank_withMark] at ahead
          exact ahead.imp_right (And.imp_right (other.lt_of_le' ·))
      · exact ih after gone left kept

/-! ### The pass is such a course -/

/-- A row of the pass that has what it wants, or has no pocket left that qualifies for it (R169). -/
structure Satisfied (records : List ToolRecord) (row : Reservation) (pockets : List Pocket) : Prop where
  within : marked records row pockets ≤ row.wanted
  filled : marked records row pockets < row.wanted → ∀ k ∈ pockets, qualifies records row.cls k = false

theorem mem_numbered {k : Pocket} {p : Nat} : (k, p) ∈ numbered pockets ↔ 1 ≤ p ∧ pockets[p - 1]? = some k :=
  List.mk_mem_zipIdx_iff_le_and_getElem?_sub

theorem modify_of_entry {i : Nat} {k : Pocket} (entry : pockets[i]? = some k) (m : Option Nat) :
    pockets.modify i (fun k => { k with reservedFor := m }) = pockets.set i (k.withMark m) := by
  obtain ⟨inside, rfl⟩ := List.getElem?_eq_some_iff.mp entry
  refine List.ext_getElem (by simp) fun j _ _ => ?_
  simp only [List.getElem_modify, List.getElem_set, Pocket.withMark]
  split
  · next here => subst here; rfl
  · rfl

theorem addMark_of_none (none : ∀ k ∈ pockets, qualifies records row.cls k = false) :
    addMark records row pockets = pockets := by
  have empty : (numbered pockets).filter (fun c => qualifies records row.cls c.1) = [] :=
    List.filter_eq_nil_iff.mpr fun c mem => Bool.eq_false_iff.mp (none c.1 (List.fst_mem_of_mem_zipIdx mem))
  simp only [addMark, empty, pickMost]

theorem times_addMark_of_none (none : ∀ k ∈ pockets, qualifies records row.cls k = false) (n : Nat) :
    times (addMark records row) n pockets = pockets :=
  times_induction (P := (· = pockets)) (fun _ same => same.symm ▸ addMark_of_none none) n rfl

/-- A row that is short marks the best pocket that qualifies, where there is one. -/
theorem addMark_cases (held : row ∈ rows) (short : marked records row pockets < row.wanted) :
    (addMark records row pockets = pockets ∧ ∀ k ∈ pockets, qualifies records row.cls k = false)
    ∨ (Remark records rows pockets (addMark records row pockets)
        ∧ marked records row (addMark records row pockets) = marked records row pockets + 1) := by
  unfold addMark
  split
  · next none =>
    refine .inl ⟨rfl, fun k mem => Bool.eq_false_iff.mpr fun fits => ?_⟩
    obtain ⟨i, entry⟩ := List.mem_iff_getElem?.mp mem
    have empty := pickMost_eq_none.mp none
    exact List.not_mem_nil (empty ▸ List.mem_filter.mpr ⟨mem_numbered.mpr ⟨Nat.le_add_left 1 i, entry⟩, fits⟩)
  · next c picked =>
    obtain ⟨k, p⟩ := c
    obtain ⟨mem, fits⟩ := List.mem_filter.mp (pickMost_mem picked)
    obtain ⟨pos, entry⟩ := mem_numbered.mp mem
    have best := pickMost_best ((numbered_ordered pockets).filter _) picked
    rw [modify_of_entry entry]
    refine .inr ⟨.add held short entry fits fun j l here fits' => ?_, ?_⟩
    · obtain ⟨most, first⟩ := best (l, j + 1)
        (List.mem_filter.mpr ⟨mem_numbered.mpr ⟨Nat.le_add_left 1 j, here⟩, fits'⟩)
      refine most.lt_or_eq.imp_right fun same => ⟨same, ?_⟩
      obtain here | before := first same
      · cases here
        exact le_rfl
      · exact Nat.sub_le_of_le_add (Nat.le_of_lt before)
    · have count := marked_set (records := records) (row := row) (l := k.withMark (some row.requester)) entry
      simpa [markOf_unmarked (unmarked_of_qualifies fits), markOf_withMark_of_qualifies fits] using count

/-- A row with a surplus unmarks the worst of its own pockets. -/
theorem dropMark_remark (held : row ∈ rows) (surplus : row.wanted < marked records row pockets) :
    Remark records rows pockets (dropMark records row pockets)
      ∧ marked records row (dropMark records row pockets) + 1 = marked records row pockets := by
  unfold dropMark
  split
  · next none =>
    obtain ⟨k, mem, mark⟩ := List.countP_pos_iff.mp (Nat.zero_lt_of_lt surplus)
    obtain ⟨i, entry⟩ := List.mem_iff_getElem?.mp mem
    have empty := pickLeastLast_eq_none.mp none
    exact absurd (empty ▸ List.mem_filter.mpr ⟨mem_numbered.mpr ⟨Nat.le_add_left 1 i, entry⟩, mark⟩) List.not_mem_nil
  · next c picked =>
    obtain ⟨k, p⟩ := c
    obtain ⟨mem, worst⟩ := pickLeastLast_worst ((numbered_ordered pockets).filter _) picked
    obtain ⟨mem, mark⟩ := List.mem_filter.mp mem
    obtain ⟨pos, entry⟩ := mem_numbered.mp mem
    rw [modify_of_entry entry]
    refine ⟨.drop held surplus entry mark fun j l here mark' => ?_, ?_⟩
    · obtain ⟨least, last⟩ := worst (l, j + 1)
        (List.mem_filter.mpr ⟨mem_numbered.mpr ⟨Nat.le_add_left 1 j, here⟩, mark'⟩)
      refine least.lt_or_eq.imp_right fun same => ⟨same, ?_⟩
      obtain here | before := last same
      · cases here
        exact le_rfl
      · exact Nat.le_sub_of_add_le (Nat.le_of_lt before)
    · have count := marked_set (records := records) (row := row) (l := k.withMark none) entry
      simpa [mark, markOf_unmarked (k := k.withMark none) rfl] using count

theorem times_addMark (held : row ∈ rows) {n : Nat} (short : marked records row pockets + n ≤ row.wanted) :
    Remarks records rows pockets (times (addMark records row) n pockets)
      ∧ marked records row (times (addMark records row) n pockets) ≤ marked records row pockets + n
      ∧ (marked records row (times (addMark records row) n pockets) < marked records row pockets + n →
          ∀ k ∈ times (addMark records row) n pockets, qualifies records row.cls k = false) := by
  induction n generalizing pockets with
  | zero => exact ⟨.refl, le_rfl, fun less => absurd less (Nat.lt_irrefl _)⟩
  | succ n ih =>
    unfold times
    obtain ⟨same, none⟩ | ⟨change, more⟩ := addMark_cases (records := records) (pockets := pockets) held (by omega)
    · rw [same, times_addMark_of_none none]
      exact ⟨.refl, Nat.le_add_right _ _, fun _ => none⟩
    · obtain ⟨course, most, filled⟩ := ih (pockets := addMark records row pockets) (by omega)
      exact ⟨.head change course, by omega, fun less => filled (by omega)⟩

theorem times_dropMark (held : row ∈ rows) {n : Nat} (surplus : row.wanted + n ≤ marked records row pockets) :
    Remarks records rows pockets (times (dropMark records row) n pockets)
      ∧ marked records row (times (dropMark records row) n pockets) + n = marked records row pockets := by
  induction n generalizing pockets with
  | zero => exact ⟨.refl, rfl⟩
  | succ n ih =>
    obtain ⟨change, fewer⟩ := dropMark_remark (records := records) (pockets := pockets) held (by omega)
    obtain ⟨course, count⟩ := ih (pockets := dropMark records row pockets) (by omega)
    exact ⟨.head change course, by rw [times]; omega⟩

/-- The pass at one row is a course that satisfies the row. -/
theorem passRow_course (held : row ∈ rows) : Remarks records rows pockets (passRow records pockets row)
    ∧ Satisfied records row (passRow records pockets row) := by
  have fewer : Remarks records rows pockets
        (times (dropMark records row) (marked records row pockets - row.wanted) pockets)
      ∧ marked records row (times (dropMark records row) (marked records row pockets - row.wanted) pockets)
        ≤ row.wanted := by
    obtain within | surplus := Nat.le_total (marked records row pockets) row.wanted
    · rw [Nat.sub_eq_zero_of_le within]
      exact ⟨.refl, within⟩
    · obtain ⟨course, count⟩ := times_dropMark (records := records) (pockets := pockets) held
        (n := marked records row pockets - row.wanted) (by omega)
      exact ⟨course, by omega⟩
  obtain ⟨course, within⟩ := fewer
  obtain ⟨course', most, filled⟩ := times_addMark (records := records) held (Nat.add_sub_of_le within).le
  rw [Nat.add_sub_of_le within] at most filled
  exact ⟨course.trans course', most, filled⟩

/-- A row that is satisfied stays as it is. -/
theorem Satisfied.passRow_eq (satisfied : Satisfied records row pockets) : passRow records pockets row = pockets := by
  have within : marked records row pockets - row.wanted = 0 := Nat.sub_eq_zero_of_le satisfied.within
  simp only [passRow, within, times]
  obtain less | enough := satisfied.within.lt_or_eq
  · exact times_addMark_of_none (satisfied.filled less) _
  · rw [enough, Nat.sub_self, times]

/-- Where no row had a surplus, a satisfied row stays satisfied. -/
theorem Satisfied.after (single : OneEach rows) (held : row ∈ rows) (course : Remarks records rows pockets pockets')
    (within : ∀ r ∈ rows, marked records r pockets ≤ r.wanted) (satisfied : Satisfied records row pockets) :
    Satisfied records row pockets' := by
  obtain ⟨grown, most, -⟩ := course.noSurplus single held (within row held)
  refine ⟨most, fun short k' mem => Bool.eq_false_iff.mpr fun fits => ?_⟩
  obtain ⟨i, entry⟩ := List.mem_iff_getElem?.mp mem
  obtain ⟨k, before, -⟩ := course.entry entry
  have free := unmarked_of_qualifies fits
  have unmarked : k.reservedFor = none := by
    by_contra mark
    cases entry.symm.trans (course.kept single within before mark)
    exact mark free
  obtain rfl := course.entry_unmarked before unmarked entry free
  exact Bool.eq_false_iff.mp (satisfied.filled (grown.trans_lt short) k' (List.mem_of_getElem? before)) fits

/-! ### The rows in table order -/

section
variable {l : List Reservation}

theorem foldl_passRow_course (held : l ⊆ rows) : Remarks records rows pockets (l.foldl (passRow records) pockets) := by
  induction l generalizing pockets with
  | nil => exact .refl
  | cons row l ih =>
    obtain ⟨first, rest⟩ := List.cons_subset.mp held
    exact (passRow_course first).1.trans (ih rest)

/-- No row has a surplus once the pass has come to it. -/
theorem foldl_passRow_within (single : OneEach rows) (held : l ⊆ rows) :
    ∀ row ∈ l, marked records row (l.foldl (passRow records) pockets) ≤ row.wanted := by
  induction l generalizing pockets with
  | nil => simp
  | cons row l ih =>
    obtain ⟨first, rest⟩ := List.cons_subset.mp held
    exact List.forall_mem_cons.mpr
      ⟨((foldl_passRow_course (l := l) rest).noSurplus single first (passRow_course first).2.within).2.1,
      ih rest⟩

/-- Where no row had a surplus, every row is satisfied once the pass has come to it. -/
theorem foldl_passRow_satisfied (single : OneEach rows) (held : l ⊆ rows)
    (within : ∀ row ∈ rows, marked records row pockets ≤ row.wanted) :
    ∀ row ∈ l, Satisfied records row (l.foldl (passRow records) pockets) := by
  induction l generalizing pockets with
  | nil => simp
  | cons row l ih =>
    obtain ⟨first, rest⟩ := List.cons_subset.mp held
    obtain ⟨course, satisfied⟩ := passRow_course (records := records) (pockets := pockets) first
    have within' : ∀ r ∈ rows, marked records r (passRow records pockets row) ≤ r.wanted :=
      fun r mem => (course.noSurplus single mem (within r mem)).2.1
    have later := satisfied.after single first (foldl_passRow_course rest) within'
    exact List.forall_mem_cons.mpr ⟨later, ih rest within'⟩

theorem foldl_passRow_eq (satisfied : ∀ row ∈ l, Satisfied records row pockets) :
    l.foldl (passRow records) pockets = pockets := by
  induction l with
  | nil => rfl
  | cons row l ih =>
    obtain ⟨first, rest⟩ := List.forall_mem_cons.mp satisfied
    rw [List.foldl_cons, first.passRow_eq, ih rest]

end

end

/-! ### The marking pass -/

section
variable {s : State} {row : Reservation} {k : Pocket} {cls : Nat}

theorem State.sweep_course (s : State) :
    Remarks s.records s.reservations s.bank.pockets s.sweep.bank.pockets := foldl_passRow_course (List.Subset.refl _)

theorem State.markingPass_course (s : State) :
    Remarks s.records s.reservations s.bank.pockets s.markingPass.bank.pockets :=
  s.sweep_course.trans s.sweep.sweep_course

theorem State.sweep_within (single : OneEach s.reservations) :
    ∀ row ∈ s.reservations, marked s.records row s.sweep.bank.pockets ≤ row.wanted :=
  foldl_passRow_within single (List.Subset.refl _)

/-- After the pass every row has what it wants, or no pocket that qualifies for it is left (R169, R170). -/
theorem State.markingPass_satisfied (single : OneEach s.reservations) :
    ∀ row ∈ s.reservations, Satisfied s.records row s.markingPass.bank.pockets :=
  foldl_passRow_satisfied single (List.Subset.refl _) (State.sweep_within single)

theorem State.sweep_eq (satisfied : ∀ row ∈ s.reservations, Satisfied s.records row s.bank.pockets) : s.sweep = s := by
  unfold State.sweep
  rw [foldl_passRow_eq satisfied]

theorem State.markingPass_markingPass (single : OneEach s.reservations) :
    s.markingPass.markingPass = s.markingPass := by
  have same : s.markingPass.sweep = s.markingPass := State.sweep_eq (State.markingPass_satisfied single)
  exact (congrArg State.sweep same).trans same

/-- The conditions of R169 and R102 but for the mark: in service and CLOSED, with a STOCKED FIT record of the class. -/
def State.Suits (s : State) (k : Pocket) (cls : Nat) : Prop := k.fault = .none ∧ k.lock = .closed
  ∧ ∃ tool r q, k.occupancy = .held tool ∧ s.find tool = some r ∧ r.state = .stocked q
      ∧ r.image.fit = true ∧ r.image.cls = cls

theorem State.qualifies_iff : qualifies s.records cls k = true ↔ k.reservedFor = none ∧ s.Suits k cls := by
  simp only [qualifies, State.Suits, Bool.and_eq_true, Pocket.inService_iff, Lock.isClosed_eq_true,
    Option.isNone_iff_eq_none, State.holdsFit_iff]
  tauto

/-- The rank of a removal, read off (R169). -/
theorem dropRank_before {records : List ToolRecord} {k l : Pocket} {p q : Nat}
    (limits : ∀ r ∈ records, r.image.lifeLimit ≤ 4194303)
    (ahead : dropRank records k < dropRank records l ∨ dropRank records k = dropRank records l ∧ q < p) :
    (k.lock = .closed ∧ l.lock ≠ .closed) ∨ ((k.lock = .closed ↔ l.lock = .closed)
      ∧ (lifeIn records k < lifeIn records l ∨ lifeIn records k = lifeIn records l ∧ q < p)) := by
  have := lifeIn_le limits k
  have := lifeIn_le limits l
  simp only [dropRank, Lock.isClosed_eq_true] at ahead
  by_cases closed : k.lock = .closed <;> by_cases closed' : l.lock = .closed <;>
    simp only [closed, closed', if_true, if_false] at ahead ⊢ <;> simp <;> omega

end

end Sys2Proof.Machine

namespace Sys2Proof.Proofs

open Sys2Proof.Machine

/-- Settles O47: the pass is a course of single changes, each of which R169 allows, and what every such course keeps
gives the rules; the second sweep starts where no row has a surplus, so it satisfies every row. -/
theorem markingPassRules : Obligations.MarkingPassRules := by
  unfold Obligations.MarkingPassRules
  intro s after oneEach noSurplus suits
  have course := s.markingPass_course
  refine ⟨rfl, s.markingPass_plainPockets, ?marks, ?counts, ?short, ?kept, State.markingPass_markingPass, ?best, ?worst⟩
  case marks =>
    intro p k k' n before entry mark
    refine (course.mark_cases before entry mark).imp_right ?_
    rintro ⟨row, held, requester, fits⟩
    obtain ⟨-, fault, closed, tool, r, q, occupancy, found, state, fit, cls⟩ := State.qualifies_iff.mp fits
    exact ⟨fault, closed, row, held, requester, tool, r, occupancy, found, fit, cls, q, state⟩
  case counts =>
    intro single row held
    refine ⟨(State.markingPass_satisfied single row held).within, ?_⟩
    obtain within | surplus := le_or_gt (marked s.records row s.bank.pockets) row.wanted
    · exact (min_le_right _ _).trans (course.noSurplus single held within).1
    · exact (min_le_left _ _).trans (course.surplus single held surplus).1
  case short =>
    intro single row held less k mem unmarked fits
    have none := (State.markingPass_satisfied single row held).filled less k mem
    exact Bool.eq_false_iff.mp none (State.qualifies_iff.mpr ⟨unmarked, fits⟩)
  case kept =>
    intro single within p k k' before mark entry
    exact Option.some.inj (entry.symm.trans (course.kept single within before mark))
  case best =>
    intro single p q k l k' l' cls before unmarked entry mark fits beside free entry' free' fits'
    obtain rfl := course.entry_unmarked beside free entry' free'
    exact course.best single before (State.qualifies_iff.mpr ⟨unmarked, fits⟩) entry mark
      beside (State.qualifies_iff.mpr ⟨free, fits'⟩) entry'
  case worst =>
    intro single limits row held p q k l k' l' before beside entry entry' mark cls gone mark' cls' kept
    obtain ⟨l₀, same, view⟩ := course.entry entry'
    cases beside.symm.trans same
    have lost : markOf s.records row k' = false := Bool.eq_false_iff.mpr fun own => gone (markOf_eq_true.mp own).1
    have stays : markOf s.records row l' = true :=
      markOf_eq_true.mpr ⟨kept, view ▸ (classIn_withMark s.records l _).trans cls'⟩
    exact dropRank_before limits (course.worst single held before (markOf_eq_true.mpr ⟨mark, cls⟩) entry lost
      beside (markOf_eq_true.mpr ⟨mark', cls'⟩) entry' stays)

end Sys2Proof.Proofs
end

section
/-! SUPPORT. O46: the stored demand list, the commands of the sequencer, and cycle points (R160 to R162, R164). -/

namespace Sys2Proof.Machine

/-! ### First occurrences -/

theorem eraseDups_concat (l : List Nat) (a : Nat) :
    (l ++ [a]).eraseDups = if a ∈ l then l.eraseDups else l.eraseDups ++ [a] := by
  rw [List.eraseDups_append]
  split
  · next known => simp [List.removeAll, known]
  · next fresh => simp [List.removeAll, fresh, List.eraseDups_cons]

theorem eraseDups_nodup (l : List Nat) : l.eraseDups.Nodup := by
  induction l using List.reverseRecOn with
  | nil => simp
  | append_singleton l a ih =>
    rw [eraseDups_concat]
    split
    · exact ih
    · next fresh => exact List.concat_eq_append ▸ ih.concat (by simpa using fresh)

theorem eraseDups_sublist (l : List Nat) : l.eraseDups.Sublist l := by
  induction l using List.reverseRecOn with
  | nil => simp
  | append_singleton l a ih =>
    rw [eraseDups_concat]
    split
    · exact ih.trans (List.sublist_append_left _ _)
    · exact ih.append_right _

/-! ### The stored list (R160) -/

/-- An entry as it is stored: a count above 4 is 4. -/
def DemandEntry.stored (e : DemandEntry) : DemandEntry := { e with count := min e.count 4 }

section
variable {list entries : List DemandEntry} {d e : DemandEntry}

theorem normalEntries_concat (entries : List DemandEntry) (e : DemandEntry) : normalEntries (entries ++ [e]) =
    if e.count = 0 then normalEntries entries else putEntry (normalEntries entries) e.stored :=
  List.foldl_append

theorem putEntry_classes (list : List DemandEntry) (e : DemandEntry) : (putEntry list e).map (·.cls) =
    if e.cls ∈ list.map (·.cls) then list.map (·.cls) else list.map (·.cls) ++ [e.cls] := by
  have known : list.any (·.cls == e.cls) = true ↔ e.cls ∈ list.map (·.cls) := by simp
  simp only [putEntry, known, apply_ite (List.map DemandEntry.cls), List.map_append, List.map_cons, List.map_nil,
    List.map_map]
  refine if_congr Iff.rfl (List.map_congr_left fun d _ => ?_) rfl
  simp only [Function.comp_apply]
  split
  · next same => exact same.symm
  · rfl

theorem self_mem_putEntry (list : List DemandEntry) (e : DemandEntry) : e ∈ putEntry list e := by
  unfold putEntry
  split
  · next known =>
    obtain ⟨d, mem, same⟩ := List.any_eq_true.mp known
    exact List.mem_map.mpr ⟨d, mem, if_pos (beq_iff_eq.mp same)⟩
  · simp

/-- An entry of another class stays. -/
theorem mem_putEntry_of_ne (mem : d ∈ list) (other : d.cls ≠ e.cls) : d ∈ putEntry list e := by
  unfold putEntry
  split
  · exact List.mem_map.mpr ⟨d, mem, if_neg other⟩
  · exact List.mem_append_left _ mem

/-- The classes of the stored list: those of the entries with a count, each at its first position. -/
theorem normalEntries_classes (entries : List DemandEntry) : (normalEntries entries).map (·.cls) =
    ((entries.filter (·.count ≠ 0)).map (·.cls)).eraseDups := by
  induction entries using List.reverseRecOn with
  | nil => rfl
  | append_singleton entries e ih =>
    rw [normalEntries_concat, List.filter_append, List.map_append]
    split
    · next none => simp [none, ih]
    · next some =>
      have kept : [e].filter (·.count ≠ 0) = [e] := List.filter_eq_self.mpr (by simpa using some)
      rw [putEntry_classes, ih, kept, List.map_singleton, eraseDups_concat]
      exact if_congr List.mem_eraseDups rfl rfl

/-- The last entry of a class that has a count is the one stored. -/
theorem stored_mem_normalEntries {front back : List DemandEntry} (some : e.count ≠ 0)
    (last : ∀ x ∈ back, x.cls = e.cls → x.count = 0) : e.stored ∈ normalEntries (front ++ e :: back) := by
  induction back using List.reverseRecOn with
  | nil =>
    rw [normalEntries_concat, if_neg some]
    exact self_mem_putEntry _ _
  | append_singleton back x ih =>
    have before := ih fun y mem => last y (List.mem_append_left _ mem)
    rw [← List.cons_append, ← List.append_assoc, normalEntries_concat]
    split
    · exact before
    · next positive =>
      exact mem_putEntry_of_ne before fun same => positive (last x (by simp) same.symm)

end

/-! ### The commands (R160, R161, R164) -/

section
variable {s : State}

theorem State.noSlots_eq_false (slots : s.config.slotCount ≠ 0) : s.noSlots = false := beq_eq_false_iff_ne.mpr slots

theorem badEntry_sentEntry {e : BitVec 16 × Byte} : badEntry (sentEntry e) = true ↔ e.2 ≠ 0 ∧ e.1 = 0 := by
  simp [badEntry, sentEntry, BitVec.toNat_eq, Nat.pos_iff_ne_zero]

theorem setDemandBody_ok {entries : List (BitVec 16 × Byte)} (known : s.port.nodeState ≠ .unconfigured)
    (slots : s.config.slotCount ≠ 0) (few : entries.length ≤ 8) (named : ∀ e ∈ entries, e.2 ≠ 0 → e.1 ≠ 0) :
    setDemandBody entries s = .ok (State.refreshDemand
        { s with demand := { s.demand with list := normalEntries (entries.map sentEntry) } } false,
      byte (normalEntries (entries.map sentEntry)).length) := by
  have good : (entries.map sentEntry).any badEntry = false := by
    simp only [List.any_map, List.any_eq_false, Function.comp_apply, badEntry_sentEntry]
    exact fun e mem bad => named e mem bad.1 bad.2
  have room : (decide (Config.demandMax < entries.length)) = false := decide_eq_false (Nat.not_lt.mpr few)
  unfold setDemandBody
  rw [if_neg (by omega), State.configured_eq_true known, State.noSlots_eq_false slots, good, room]
  rfl

theorem sentMode_eq {mode interval : Byte} {m : DemandMode}
    (sent : mode = 1 ∧ m = .interval (max 1 (min 60 interval.toNat)) ∨ mode = 2 ∧ m = .trigger) :
    sentMode mode interval = some m := by
  obtain ⟨rfl, rfl⟩ | ⟨rfl, rfl⟩ := sent <;> rfl

theorem startDemandBody_ok {mode interval target hold : Byte} {m : DemandMode} (slots : s.config.slotCount ≠ 0)
    (online : s.port.nodeState = .online) (idle : s.demand.running = false) (sent : sentMode mode interval = some m) :
    startDemandBody mode interval target hold s = done (s.startCycles m target.toNat (clampNat 1 60 hold.toNat)) := by
  have known : s.port.nodeState ≠ .unconfigured := by simp [online]
  simp [startDemandBody, State.configured_eq_true known, sent, State.noSlots_eq_false slots,
    State.online_eq_true online, idle]

theorem stopDemandBody_ok (known : s.port.nodeState ≠ .unconfigured) (slots : s.config.slotCount ≠ 0)
    (running : s.demand.running = true) : stopDemandBody s = done s.stopCycles := by
  simp [stopDemandBody, State.configured_eq_true known, State.noSlots_eq_false slots, running]

/-- The withdrawal names the hold time and no entries (R164). -/
theorem demandPayload_nil (hold : Nat) : demandPayload hold [] = byte hold := List.append_nil _

/-! ### Cycle points (R162) -/

theorem State.cyclePoint_overrun (queued : s.line.queuedFor .demandRun = true) :
    s.cyclePoint = (s.post .cycleOverrun 0 (num s.demand.cycles)).replaceFrame .demandRun
      (demandPayload s.demand.hold s.demand.list) true := by
  rw [State.cyclePoint, if_pos queued, State.refreshDemand, State.post_demand, Sequencer.payload]

theorem State.cyclePoint_offer (clear : s.line.queuedFor .demandRun = false) : s.cyclePoint = s.offerDemand :=
  if_neg (Bool.eq_false_iff.mp clear)

theorem execCycleExpiry_due {d : Millis} (running : s.demand.running = true) (deadline : s.demand.deadline = some d)
    (due : reached s.now d = true) : execCycleExpiry s =
      .next (State.cyclePoint { s with demand := { s.demand with deadline := s.demand.mode.deadline s.now } }) := by
  simp [execCycleExpiry, running, deadline, Machine.due, due]

theorem execTriggerEdge_active (known : s.port.nodeState ≠ .unconfigured) (slots : s.config.slotCount ≠ 0)
    (running : s.demand.running = true) (mode : s.demand.mode = .trigger) :
    execTriggerEdge s.config.triggerHigh s = .next s.cyclePoint := by
  simp [execTriggerEdge, State.configured_eq_true known, State.noSlots_eq_false slots, running, mode]

theorem execTriggerEdge_inactive : execTriggerEdge (!s.config.triggerHigh) s = .next s := by
  simp [execTriggerEdge]

end

end Sys2Proof.Machine

namespace Sys2Proof.Proofs

open Sys2Proof.Machine

/-- Settles O46: the stored list by induction from its end, the runs by what each command's own rule gives. -/
theorem demandListAndRuns : Obligations.DemandListAndRuns := by
  unfold Obligations.DemandListAndRuns
  refine ⟨⟨?set, ?list⟩, fun s slots => ⟨?start, ?stop, ?expiry, ?edge, ?away, ?overrun, ?offer⟩⟩
  case set =>
    intro entries s free known slots few named
    exact hostCommand_ok free (setDemandBody_ok known slots few named)
  case list =>
    intro entries list
    have classes := normalEntries_classes entries
    refine ⟨classes ▸ eraseDups_nodup _, normalEntries_count, fun c => ?_, classes,
      fun e front back split some last => ?_, ?_⟩
    · rw [classes, List.mem_eraseDups]
      simp only [List.mem_map, List.mem_filter, decide_eq_true_eq, and_assoc]
      exact exists_congr fun e => and_congr_right fun _ => and_comm
    · subst split
      exact stored_mem_normalEntries some last
    · exact classes ▸ (eraseDups_sublist _).trans (List.filter_sublist.map _)
  case start =>
    intro mode interval target hold m free online idle sent
    exact hostCommand_ok free (startDemandBody_ok slots online idle (sentMode_eq sent))
  case stop =>
    intro free known running
    have stopped := hostCommand_ok (c := .stopDemand) free (stopDemandBody_ok known slots running)
    rw [State.stopCycles, demandPayload_nil] at stopped
    exact stopped
  case expiry =>
    intro d n running deadline due mode
    have point := execCycleExpiry_due running deadline due
    rw [mode] at point
    exact point
  case edge => exact fun known running mode => execTriggerEdge_active known slots running mode
  case away => exact execTriggerEdge_inactive
  case overrun => exact State.cyclePoint_overrun
  case offer => exact State.cyclePoint_offer

end Sys2Proof.Proofs
end

section
/-! SUPPORT. O48: the rows of the reservation table when one expires and when a DEMAND is taken (R167, R168, R172). -/

namespace Sys2Proof.Machine

/-! ### Deleted rows and their marks (R168, R172) -/

section
variable {s : State} {n cls : Nat} {row : Reservation}

/-- The bank once the marks of the deleted rows are gone. -/
theorem State.deleteRows_bank {gone : Reservation → Bool} {mark : Pocket → Prop} [DecidablePred mark]
    (marks : ∀ k, mark k ↔ ∃ row ∈ s.reservations, gone row = true ∧ markOf s.records row k = true) :
    (s.deleteRows gone).bank = { s.bank with
      pockets := s.bank.pockets.map (fun k => if mark k then { k with reservedFor := none } else k) } := by
  have same : ∀ k : Pocket, s.reservations.any (fun row => gone row && markOf s.records row k) = true ↔ mark k := by
    simp [marks]
  simp only [State.deleteRows, same]

theorem isFor_of_found {rows : List Reservation} (found : rows.find? (·.isFor n cls) = some row) :
    row.isFor n cls = true :=
  List.find?_some (p := fun r : Reservation => r.isFor n cls) found

/-- The marks of one row of the table (R166). -/
theorem State.markOf_isFor (held : ∃ row ∈ s.reservations, row.isFor n cls = true) (k : Pocket) :
    (k.reservedFor = some n ∧ classIn s.records k = cls) ↔
      ∃ row ∈ s.reservations, row.isFor n cls = true ∧ markOf s.records row k = true := by
  simp only [markOf_eq_true, Reservation.isFor_iff] at held ⊢
  constructor
  · rintro ⟨mark, own⟩
    obtain ⟨row, mem, rfl, rfl⟩ := held
    exact ⟨row, mem, ⟨rfl, rfl⟩, mark, own⟩
  · rintro ⟨row, -, ⟨rfl, rfl⟩, mark, own⟩
    exact ⟨mark, own⟩

/-- No pocket carries a mark of a deleted row, also after the pass: it gives marks to rows that stand only. -/
theorem State.marked_deleteRows (held : row ∈ s.reservations) (own : row.isFor n cls = true) :
    marked s.records row (s.deleteRows (·.isFor n cls)).markingPass.bank.pockets = 0 := by
  refine List.countP_eq_zero.mpr fun k' mem mark => ?_
  obtain ⟨i, entry⟩ := List.mem_iff_getElem?.mp mem
  have course := (s.deleteRows (·.isFor n cls)).markingPass_course
  obtain ⟨k, before, view⟩ := course.entry entry
  obtain ⟨requester, cls⟩ := markOf_eq_true.mp mark
  rw [view, classIn_withMark] at cls
  obtain stood | ⟨row', held', requester', fits⟩ := course.mark_cases before entry requester
  · rw [State.deleteRows_bank (State.markOf_isFor ⟨row, held, own⟩), List.getElem?_map] at before
    obtain ⟨k₀, -, rfl⟩ := Option.map_eq_some_iff.mp before
    obtain ⟨rfl, rfl⟩ := Reservation.isFor_iff.mp own
    split at stood
    · cases stood
    · next other =>
      rw [if_neg other] at cls
      exact other ⟨stood, cls⟩
  · have cls' := classIn_of_holdsFit (holdsFit_of_qualifies fits)
    rw [State.deleteRows_records, classIn_withMark, cls] at cls'
    obtain ⟨rfl, rfl⟩ := Reservation.isFor_iff.mp own
    have other := (List.mem_filter.mp held').2
    simp [Reservation.isFor, requester', cls'] at other

end

/-! ### A row expires (R172) -/

section
variable (s : State) (n cls : Nat) (row : Reservation)

/-- The state once a row has expired. -/
def State.expireRow (s : State) (n cls : Nat) (row : Reservation) : State :=
  postEnded .expired [row] (s.deleteRows (·.isFor n cls)).markingPass

/-- The rows and the marks are what the pass leaves; the notice changes neither. -/
theorem State.expireRow_keeps {β : Type} (g : State → β) (posts : ∀ u k o a, g (State.post u k o a) = g u) :
    g (s.expireRow n cls row) = g (s.deleteRows (·.isFor n cls)).markingPass := postEnded_keeps g posts _ _ _

theorem State.expireRow_plainPockets : (s.expireRow n cls row).plainPockets = s.plainPockets := by
  rw [s.expireRow_keeps n cls row State.plainPockets (by simp [State.plainPockets]), State.markingPass_plainPockets,
    State.deleteRows_plainPockets]

variable {s n cls row}

theorem execReservationExpiry_due (found : s.reservations.find? (·.isFor n cls) = some row)
    (due : reached s.now row.expiry = true) : execReservationExpiry n cls s = .next (s.expireRow n cls row) := by
  rw [execReservationExpiry, found]
  exact if_pos due

theorem State.expireRow_bank (held : row ∈ s.reservations) (own : row.isFor n cls = true) :
    (s.expireRow n cls row).bank = (State.markingPass { s with
      reservations := s.reservations.filter (fun r => !r.isFor n cls)
      bank := { s.bank with pockets := s.bank.pockets.map (fun k =>
        if k.reservedFor = some n ∧ classIn s.records k = cls then { k with reservedFor := none } else k) } }).bank :=
  (s.expireRow_keeps n cls row (·.bank) (by simp)).trans
    (State.markingPass_bank_congr rfl rfl (State.deleteRows_bank (State.markOf_isFor ⟨row, held, own⟩)))

theorem State.expireRow_marked (held : row ∈ s.reservations) (own : row.isFor n cls = true) :
    marked s.records row (s.expireRow n cls row).bank.pockets = 0 := by
  rw [s.expireRow_keeps n cls row (·.bank) (by simp)]
  exact State.marked_deleteRows held own

theorem State.expireRow_notices (own : row.isFor n cls = true) : (s.expireRow n cls row).notices =
    (s.post .reservationEnded (num n) (parts (beBytes 2 cls ++ byte 2))).notices := by
  obtain ⟨rfl, rfl⟩ := Reservation.isFor_iff.mp own
  exact postEnded_notices_congr (by simp) (by simp) .expired [row]

end

/-! ### The entries of a DEMAND (R167, R168) -/

theorem parseEntries_cons (a b c : Byte) (rest : List Byte) : parseEntries (a :: b :: c :: rest) =
    { cls := a.toNat * 256 + b.toNat, count := c.toNat } :: parseEntries rest := by
  simp [parseEntries, beNat]

/-- The fields of a DEMAND out of range: an entry with a count and class 0 (R167). -/
theorem RxFrame.fieldsOk_demand {f : RxFrame} : f.fieldsOk .demand = false ↔
    ∃ e ∈ parseEntries (f.payload.drop 1), e.count ≠ 0 ∧ e.cls = 0 := by
  simp [RxFrame.fieldsOk, badEntry, Nat.pos_iff_ne_zero]

/-- Which DEMANDs are taken (R167). -/
def State.Takes (s : State) (n : Nat) : Prop :=
  (s.port.nodeState = .online ∨ s.port.nodeState = .listenOnly) ∧ s.config.pocketCount ≠ 0 ∧ s.doubtful n = false

section
variable {s : State} {f : RxFrame}

theorem State.takes_iff {n : Nat} :
    (!s.fieldReady || s.config.pocketCount == 0 || s.doubtful n) = false ↔ s.Takes n := by
  simp [State.Takes, ← State.fieldReady_iff, and_assoc]

theorem State.takeDemand_taken (taken : s.Takes f.source.toNat) : s.takeDemand f = s.applyDemand f.source.toNat
    (clampNat 1 60 (field f.payload 0 1)) (normalEntries (parseEntries (f.payload.drop 1))) :=
  if_neg (Bool.eq_false_iff.mp (State.takes_iff.mpr taken))

theorem State.takeDemand_ignored (ignored : ¬ s.Takes f.source.toNat) : s.takeDemand f = s :=
  if_pos (Bool.eq_true_of_not_eq_false (mt State.takes_iff.mp ignored))

end

/-! ### One entry at the table (R168) -/

section
variable {n : Nat} {expiry : Millis} {rows : List Reservation} {e : DemandEntry} {list : List DemandEntry}

/-- A row as an entry updates it: the station's row of the entry's class takes its count and a new expiry. -/
def Reservation.updatedBy (n : Nat) (expiry : Millis) (e : DemandEntry) (r : Reservation) : Reservation :=
  if r.requester = n ∧ r.cls = e.cls then { r with wanted := e.count, expiry := expiry } else r

/-- The requester and the class of a row (R166). -/
def Reservation.key (r : Reservation) : Nat × Nat := (r.requester, r.cls)

theorem Reservation.updatedBy_key (r : Reservation) : (r.updatedBy n expiry e).key = r.key := by
  unfold Reservation.updatedBy
  split <;> rfl

theorem Reservation.updatedBy_requester (r : Reservation) : (r.updatedBy n expiry e).requester = r.requester :=
  congrArg Prod.fst r.updatedBy_key

theorem any_isFor {cls : Nat} : rows.any (·.isFor n cls) = true ↔ ∃ r ∈ rows, r.requester = n ∧ r.cls = cls := by
  simp [Reservation.isFor_iff]

theorem reserveOne_updated (listed : ∃ r ∈ rows, r.requester = n ∧ r.cls = e.cls) : reserveOne n expiry rows e =
    (rows.map (·.updatedBy n expiry e), .updated) := by
  rw [reserveOne, if_pos (any_isFor.mpr listed)]
  simp only [Reservation.isFor_iff, Reservation.updatedBy]

theorem reserveOne_created (fresh : ¬ ∃ r ∈ rows, r.requester = n ∧ r.cls = e.cls) (room : rows.length < 16) :
    reserveOne n expiry rows e =
      (rows ++ [{ requester := n, cls := e.cls, wanted := e.count, expiry := expiry }], .created) := by
  rw [reserveOne, if_neg (mt any_isFor.mp fresh)]
  exact if_pos room

theorem reserveOne_skipped (fresh : ¬ ∃ r ∈ rows, r.requester = n ∧ r.cls = e.cls) (full : 16 ≤ rows.length) :
    reserveOne n expiry rows e = (rows, .skipped) := by
  rw [reserveOne, if_neg (mt any_isFor.mp fresh)]
  exact if_neg (Nat.not_lt.mpr full)

/-- What one entry makes of the table. -/
theorem reserveOne_cases (n : Nat) (expiry : Millis) (rows : List Reservation) (e : DemandEntry) :
    reserveOne n expiry rows e = (rows.map (·.updatedBy n expiry e), .updated)
    ∨ (rows.length < 16 ∧ reserveOne n expiry rows e =
        (rows ++ [{ requester := n, cls := e.cls, wanted := e.count, expiry := expiry }], .created))
    ∨ reserveOne n expiry rows e = (rows, .skipped) := by
  by_cases listed : ∃ r ∈ rows, r.requester = n ∧ r.cls = e.cls
  · exact .inl (reserveOne_updated listed)
  · obtain room | full := Nat.lt_or_ge rows.length 16
    · exact .inr (.inl ⟨room, reserveOne_created listed room⟩)
    · exact .inr (.inr (reserveOne_skipped listed full))

/-- The keys that an entry adds to the table. -/
def EntryFate.keys (n : Nat) (e : DemandEntry × EntryFate) : List (Nat × Nat) :=
  match e.2 with
  | .created => [(n, e.1.cls)]
  | _ => []

theorem reserveOne_keys (n : Nat) (expiry : Millis) (rows : List Reservation) (e : DemandEntry) :
    (reserveOne n expiry rows e).1.map Reservation.key =
      rows.map Reservation.key ++ EntryFate.keys n (e, (reserveOne n expiry rows e).2) := by
  obtain same | ⟨-, same⟩ | same := reserveOne_cases n expiry rows e <;> rw [same]
  · simp only [EntryFate.keys, List.append_nil, List.map_map]
    exact List.map_congr_left fun r _ => r.updatedBy_key
  · simp [EntryFate.keys, Reservation.key]
  · simp [EntryFate.keys]

theorem reserveOne_length (within : rows.length ≤ 16) : (reserveOne n expiry rows e).1.length ≤ 16 := by
  obtain same | ⟨room, same⟩ | same := reserveOne_cases n expiry rows e <;> rw [same]
  · simpa using within
  · simpa using room
  · exact within

/-- The rows of other stations stay as they are. -/
theorem reserveOne_others : (reserveOne n expiry rows e).1.filter (·.requester != n) =
    rows.filter (·.requester != n) := by
  obtain same | ⟨-, same⟩ | same := reserveOne_cases n expiry rows e <;> rw [same]
  · simp only [List.filter_map, Function.comp_def, Reservation.updatedBy_requester]
    refine (List.map_congr_left fun r mem => ?_).trans (List.map_id _)
    have other : r.requester ≠ n := by simpa using (List.mem_filter.mp mem).2
    exact if_neg fun own => other own.1
  · simp

/-! ### The whole list (R168) -/

theorem reserveAll_eq_foldl (n : Nat) (expiry : Millis) (rows : List Reservation) (list : List DemandEntry)
    (done : List (DemandEntry × EntryFate)) :
    list.foldl (fun (acc : List Reservation × List (DemandEntry × EntryFate)) e =>
      ((reserveOne n expiry acc.1 e).1, acc.2 ++ [(e, (reserveOne n expiry acc.1 e).2)])) (rows, done)
      = ((reserveAll n expiry rows list).1, done ++ (reserveAll n expiry rows list).2) := by
  induction list generalizing rows done with
  | nil => simp [reserveAll]
  | cons e list ih =>
    rw [List.foldl_cons, ih]
    simp [reserveAll]

/-- What each entry keeps of the table, the list keeps. -/
theorem reserveAll_keeps {β : Type} (g : List Reservation → β)
    (keeps : ∀ rows e, g (reserveOne n expiry rows e).1 = g rows) : g (reserveAll n expiry rows list).1 = g rows := by
  induction list generalizing rows with
  | nil => rfl
  | cons e list ih => exact ih.trans (keeps rows e)

theorem reserveAll_length (within : rows.length ≤ 16) : (reserveAll n expiry rows list).1.length ≤ 16 := by
  induction list generalizing rows with
  | nil => exact within
  | cons e list ih => exact ih (reserveOne_length within)

theorem reserveAll_keys (n : Nat) (expiry : Millis) (rows : List Reservation) (list : List DemandEntry) :
    (reserveAll n expiry rows list).1.map Reservation.key =
      rows.map Reservation.key ++ (reserveAll n expiry rows list).2.flatMap (EntryFate.keys n) := by
  induction list generalizing rows with
  | nil => simp [reserveAll]
  | cons e list ih =>
    simp only [reserveAll, ih, reserveOne_keys, List.flatMap_cons, List.append_assoc]

theorem reserveAll_entries : (reserveAll n expiry rows list).2.map (·.1) = list := by
  induction list generalizing rows with
  | nil => rfl
  | cons e list ih => simp only [reserveAll, List.map_cons, ih]

theorem EntryFate.mem_keys {x : DemandEntry × EntryFate} {m cls : Nat} :
    (m, cls) ∈ EntryFate.keys n x ↔ m = n ∧ x.2 = .created ∧ cls = x.1.cls := by
  obtain ⟨e, fate⟩ := x
  cases fate <;> simp [EntryFate.keys]

/-- A created entry has its row once the list is done. -/
theorem reserveAll_row_of_created {x : DemandEntry × EntryFate} (mem : x ∈ (reserveAll n expiry rows list).2)
    (created : x.2 = .created) : ∃ r ∈ (reserveAll n expiry rows list).1, r.isFor n x.1.cls = true := by
  have key : (n, x.1.cls) ∈ (reserveAll n expiry rows list).1.map Reservation.key := by
    rw [reserveAll_keys]
    exact List.mem_append_right _ (List.mem_flatMap.mpr ⟨x, mem, EntryFate.mem_keys.mpr ⟨rfl, created, rfl⟩⟩)
  obtain ⟨r, held, same⟩ := List.mem_map.mp key
  obtain ⟨requester, cls⟩ := Prod.mk.inj same
  exact ⟨r, held, Reservation.isFor_iff.mpr ⟨requester, cls⟩⟩

/-- The rows of a station stood before or are of classes that the list names. -/
theorem reserveAll_row_cases {r : Reservation} (held : r ∈ (reserveAll n expiry rows list).1) :
    (∃ r' ∈ rows, r'.requester = r.requester ∧ r'.cls = r.cls) ∨ r.cls ∈ list.map (·.cls) := by
  have key := List.mem_map_of_mem (f := Reservation.key) held
  rw [reserveAll_keys] at key
  obtain old | new := List.mem_append.mp key
  · obtain ⟨r', stood, same⟩ := List.mem_map.mp old
    obtain ⟨requester, cls⟩ := Prod.mk.inj same
    exact .inl ⟨r', stood, requester, cls⟩
  · obtain ⟨x, mem, key⟩ := List.mem_flatMap.mp new
    obtain ⟨-, -, same⟩ := EntryFate.mem_keys.mp key
    have entry : x.1 ∈ (reserveAll n expiry rows list).2.map (·.1) := List.mem_map_of_mem mem
    rw [reserveAll_entries] at entry
    exact .inr (List.mem_map.mpr ⟨x.1, entry, same.symm⟩)

end

/-! ### A DEMAND is taken (R168) -/

/-- The rows of a station that its DEMAND does not list (R168). -/
def unlisted (n : Nat) (list : List DemandEntry) (r : Reservation) : Bool :=
  r.requester == n && !(list.map (·.cls)).contains r.cls

/-- The table once the entries are done, and what became of each. -/
def State.reserved (s : State) (n hold : Nat) (list : List DemandEntry) :
    List Reservation × List (DemandEntry × EntryFate) :=
  reserveAll n (after s.now (1000 * hold)) (s.reservations.filter (fun r => !unlisted n list r)) list

theorem State.reserved_others (s : State) (n hold : Nat) (list : List DemandEntry) :
    (s.reserved n hold list).1.filter (·.requester != n) = s.reservations.filter (·.requester != n) := by
  refine (reserveAll_keeps (·.filter (·.requester != n)) fun _ _ => reserveOne_others).trans ?_
  rw [List.filter_filter]
  refine List.filter_congr fun r _ => ?_
  cases own : r.requester == n <;> simp [unlisted, own, bne]

theorem State.reserved_listed {s : State} {n hold : Nat} {list : List DemandEntry} {r : Reservation}
    (held : r ∈ (s.reserved n hold list).1) (own : r.requester = n) : r.cls ∈ list.map (·.cls) := by
  obtain ⟨r', stood, requester, cls⟩ | listed := reserveAll_row_cases held
  · have listed := (List.mem_filter.mp stood).2
    simpa [unlisted, requester, own, cls] using listed
  · exact listed

/-- The state once the pass that follows the entries has run. -/
def State.demandPassed (s : State) (n hold : Nat) (list : List DemandEntry) : State :=
  State.markingPass { s.deleteRows (unlisted n list) with reservations := (s.reserved n hold list).1 }

section
variable (s : State) (n hold : Nat) (list : List DemandEntry)

theorem State.demandPassed_notices : (s.demandPassed n hold list).notices = s.notices := rfl
theorem State.demandPassed_now : (s.demandPassed n hold list).now = s.now := rfl

theorem State.applyDemand_eq : s.applyDemand n hold list = (s.reserved n hold list).2.foldl (fun t e => t.postFate n e)
    (postEnded .withdrawn (s.reservations.filter (unlisted n list)) (s.demandPassed n hold list)) := by
  have gone : (fun row : Reservation => row.requester == n && !list.any (·.cls == row.cls)) = unlisted n list := by
    funext row
    have listed : (list.map (·.cls)).contains row.cls = list.any (·.cls == row.cls) := Bool.eq_iff_iff.mpr (by simp)
    rw [unlisted, listed]
  unfold State.applyDemand
  rw [gone]
  rfl

theorem State.postFate_keeps {β : Type} (g : State → β) (posts : ∀ u k o a, g (State.post u k o a) = g u) (u : State)
    (x : DemandEntry × EntryFate) : g (u.postFate n x) = g u := by
  unfold State.postFate
  split
  · rfl
  · exact posts _ _ _ _
  · exact posts _ _ _ _

/-- What a notice leaves alone stands as the pass has left it. -/
theorem State.applyDemand_keeps {β : Type} (g : State → β) (posts : ∀ u k o a, g (State.post u k o a) = g u) :
    g (s.applyDemand n hold list) = g (s.demandPassed n hold list) := by
  rw [State.applyDemand_eq]
  exact (foldl_keeps g (State.postFate_keeps n g posts) _ _).trans (postEnded_keeps g posts _ _ _)

theorem State.applyDemand_reservations : (s.applyDemand n hold list).reservations = (s.reserved n hold list).1 :=
  s.applyDemand_keeps n hold list (·.reservations) (by simp)

theorem State.applyDemand_records : (s.applyDemand n hold list).records = s.records :=
  s.applyDemand_keeps n hold list (·.records) (by simp)

theorem State.applyDemand_plainPockets : (s.applyDemand n hold list).plainPockets = s.plainPockets := by
  rw [s.applyDemand_keeps n hold list State.plainPockets (by simp [State.plainPockets]), State.demandPassed,
    State.markingPass_plainPockets]
  exact s.deleteRows_plainPockets _

/-- The pockets before the pass: the marks of the rows that are not listed are gone. -/
theorem State.deleteUnlisted_bank : (s.deleteRows (unlisted n list)).bank = { s.bank with
    pockets := s.bank.pockets.map (fun k =>
      if ∃ r ∈ s.reservations, unlisted n list r = true ∧ k.reservedFor = some n ∧ classIn s.records k = r.cls
      then { k with reservedFor := none } else k) } := by
  refine State.deleteRows_bank fun k => exists_congr fun r => and_congr_right fun _ => and_congr_right fun gone => ?_
  obtain ⟨own, -⟩ := Bool.and_eq_true_iff.mp gone
  rw [markOf_eq_true, beq_iff_eq.mp own]

theorem State.applyDemand_bank : (s.applyDemand n hold list).bank = (State.markingPass { s with
    reservations := (s.reserved n hold list).1
    bank := (s.deleteRows (unlisted n list)).bank }).bank :=
  s.applyDemand_keeps n hold list (·.bank) (by simp)

/-- A DEMAND changes rows, marks and notices only. -/
theorem State.applyDemand_frame : s.applyDemand n hold list = { s with
    reservations := (s.applyDemand n hold list).reservations
    bank := (s.applyDemand n hold list).bank
    notices := (s.applyDemand n hold list).notices } := by
  have posts : ∀ (u : State) k o a, { u.post k o a with notices := s.notices } = { u with notices := s.notices } := by
    intro u k o a
    unfold State.post
    split <;> rfl
  have aside := s.applyDemand_keeps n hold list (fun u : State => { u with notices := s.notices }) posts
  rw [s.applyDemand_reservations, s.applyDemand_bank]
  exact congrArg (fun u : State => { u with notices := (s.applyDemand n hold list).notices }) aside

end

/-! ### The notices of a DEMAND (R168) -/

/-- How many pockets are marked for a station and hold a tool of a class. -/
def markCount (records : List ToolRecord) (pockets : List Pocket) (n cls : Nat) : Nat :=
  pockets.countP (fun k => k.reservedFor = some n ∧ classIn records k = cls)

/-- The notice of an entry, where this is the marked count of the station's row of a class. -/
def postFateAt (count : Nat → Nat) (n : Nat) (u : State) (x : DemandEntry × EntryFate) : State :=
  match x.2 with
  | .updated => u
  | .created => u.post .reservationAdded (num n)
      (parts (beBytes 2 x.1.cls ++ byte x.1.count ++ byte (count x.1.cls)))
  | .skipped => u.post .reservationFull (num n) (parts (beBytes 2 x.1.cls ++ byte x.1.count))

section
variable {s t u : State} {n : Nat} {count count' : Nat → Nat}

theorem postFateAt_notices_congr (notices : t.notices = u.notices) (now : t.now = u.now) (x : DemandEntry × EntryFate) :
    (postFateAt count n t x).notices = (postFateAt count n u x).notices := by
  unfold postFateAt
  split
  · exact notices
  · exact State.post_notices_congr notices now _ _ _
  · exact State.post_notices_congr notices now _ _ _

theorem postFateAt_now (x : DemandEntry × EntryFate) : (postFateAt count n u x).now = u.now := by
  unfold postFateAt
  split <;> simp

theorem postFate_eq {x : DemandEntry × EntryFate} (counted : x.2 = .created → u.markedFor n x.1.cls = count x.1.cls) :
    u.postFate n x = postFateAt count n u x := by
  obtain ⟨e, fate⟩ := x
  cases fate with
  | created => simp only [State.postFate, postFateAt, counted]
  | updated => rfl
  | skipped => rfl

theorem State.markedFor_post (u : State) (n cls : Nat) (k : NoticeKind) (o a : BitVec 32) :
    (u.post k o a).markedFor n cls = u.markedFor n cls := by simp [State.markedFor]

/-- The notices of the entries change no marked count. -/
theorem foldl_postFate {fates : List (DemandEntry × EntryFate)}
    (counted : ∀ x ∈ fates, x.2 = .created → u.markedFor n x.1.cls = count x.1.cls) :
    fates.foldl (fun t x => t.postFate n x) u = fates.foldl (postFateAt count n) u := by
  induction fates generalizing u with
  | nil => rfl
  | cons x fates ih =>
    obtain ⟨first, rest⟩ := List.forall_mem_cons.mp counted
    rw [List.foldl_cons, List.foldl_cons, ← postFate_eq first]
    exact ih fun y mem created =>
      (State.postFate_keeps n (·.markedFor n y.1.cls) (State.markedFor_post · n _) u x).trans (rest y mem created)

/-- The marked count of a row that stands is that of its requester and class (R166). -/
theorem State.markedFor_eq {cls : Nat} (held : ∃ r ∈ u.reservations, r.isFor n cls = true) : u.markedFor n cls =
    markCount u.records u.bank.pockets n cls := by
  obtain ⟨row, found⟩ := Option.isSome_iff_exists.mp (List.find?_isSome.mpr held)
  obtain ⟨rfl, rfl⟩ := Reservation.isFor_iff.mp (isFor_of_found found)
  rw [State.markedFor, found]
  exact List.countP_congr fun k _ => by rw [markOf_eq_true, decide_eq_true_eq]

/-- The rows that a DEMAND does not list are all of its station. -/
theorem postEnded_unlisted (n : Nat) (list : List DemandEntry) (rows : List Reservation) (s : State) :
    postEnded .withdrawn (rows.filter (unlisted n list)) s = (rows.filter (unlisted n list)).foldl
      (fun u r => u.post .reservationEnded (num n) (parts (beBytes 2 r.cls ++ byte 1))) s := by
  refine List.foldl_ext _ _ _ fun u r mem => ?_
  obtain ⟨own, -⟩ := Bool.and_eq_true_iff.mp (List.mem_filter.mp mem).2
  rw [beq_iff_eq.mp own]
  rfl

theorem State.applyDemand_notices (s : State) (n hold : Nat) (list : List DemandEntry) :
    (s.applyDemand n hold list).notices = ((s.reserved n hold list).2.foldl
      (postFateAt (markCount s.records (s.applyDemand n hold list).bank.pockets n) n)
      ((s.reservations.filter (unlisted n list)).foldl (fun u r =>
        u.post .reservationEnded (num n) (parts (beBytes 2 r.cls ++ byte 1))) s)).notices := by
  have bank : (s.demandPassed n hold list).bank = (s.applyDemand n hold list).bank :=
    (s.applyDemand_keeps n hold list (·.bank) (by simp)).symm
  have ended := fun cls => postEnded_keeps (·.markedFor n cls) (State.markedFor_post · n cls) .withdrawn
    (s.reservations.filter (unlisted n list)) (s.demandPassed n hold list)
  have counted : ∀ x ∈ (s.reserved n hold list).2, x.2 = .created → (postEnded .withdrawn
      (s.reservations.filter (unlisted n list)) (s.demandPassed n hold list)).markedFor n x.1.cls =
        markCount s.records (s.demandPassed n hold list).bank.pockets n x.1.cls :=
    fun x mem created => (ended x.1.cls).trans (State.markedFor_eq (reserveAll_row_of_created mem created))
  rw [← bank, State.applyDemand_eq, foldl_postFate counted, ← postEnded_unlisted]
  refine foldl_notices_congr (fun _ _ x notices now => postFateAt_notices_congr notices now x)
    (fun _ x => postFateAt_now x) ?_ ?_ _
  · exact postEnded_notices_congr (s.demandPassed_notices n hold list) (s.demandPassed_now n hold list) _ _
  · simp only [postEnded_keeps (·.now) (fun u => u.post_now), State.demandPassed_now]

end

end Sys2Proof.Machine

namespace Sys2Proof.Proofs

open Sys2Proof.Machine

/-- Settles O48: an expired row goes with its marks; the entries of a DEMAND are done in their order, and its notices
leave the marked counts of the pass alone. -/
theorem reservationRows : Obligations.ReservationRows := by
  unfold Obligations.ReservationRows
  refine ⟨?expiry, fun s f => ⟨State.takeDemand_ignored, State.takeDemand_taken, RxFrame.fieldsOk_demand, rfl,
    parseEntries_cons⟩, ?entry, ?apply, ?rows⟩
  case expiry =>
    intro n c row s found due
    have held := List.mem_of_find?_eq_some found
    have own : row.isFor n c = true := isFor_of_found found
    exact ⟨s.expireRow n c row, execReservationExpiry_due found due,
      s.expireRow_keeps n c row (·.reservations) (by simp), State.expireRow_bank held own,
      State.expireRow_marked held own, State.expireRow_notices own, s.expireRow_plainPockets n c row,
      s.expireRow_keeps n c row (·.records) (by simp), s.expireRow_keeps n c row (·.line) (by simp),
      s.expireRow_keeps n c row (·.roster) (by simp), s.expireRow_keeps n c row (·.panels) (by simp)⟩
  case entry =>
    intro n expiry e rows
    refine ⟨reserveOne_updated, fun fresh => ?_⟩
    have fresh : ¬ ∃ r ∈ rows, r.requester = n ∧ r.cls = e.cls := fun ⟨r, mem, own⟩ => fresh r mem own
    exact ⟨reserveOne_created fresh, reserveOne_skipped fresh⟩
  case apply =>
    intro s n hold list gone expiry fates t
    have done : fates = s.reserved n hold list := reserveAll_eq_foldl n expiry _ list []
    rw [done]
    refine ⟨s.applyDemand_reservations n hold list, (s.applyDemand_bank n hold list).trans ?_,
      s.applyDemand_notices n hold list, s.applyDemand_frame n hold list⟩
    exact State.markingPass_bank_congr rfl rfl (s.deleteUnlisted_bank n list)
  case rows =>
    intro s n hold list within
    rw [s.applyDemand_reservations]
    exact ⟨reserveAll_length ((List.length_filter_le _ _).trans within), fun r => State.reserved_listed,
      s.reserved_others n hold list, s.applyDemand_plainPockets n hold list, s.applyDemand_records n hold list⟩

end Sys2Proof.Proofs
end

section
/-! SUPPORT. O1 and O11 to O14: a step, the frames that reach the port, read transactions, RESET and its end, READ_STATUS
(R175 to R178, R182, R183, R187). -/

namespace Sys2Proof.Machine

/-! ### A step (R176) -/

section
variable {s : State} {c : Instr}

theorem step_front {rest : List Instr} (queue : s.pending = c :: rest) :
    step s = exec c { s with pending := rest } := by simp only [step, queue]

theorem step_empty (queue : s.pending = []) : step s = s.idle := by simp only [step, queue]

theorem State.idle_held (held : s.port.resetHeld = true) : s.idle = .next s := if_pos held

theorem State.idle_takes (running : s.port.resetHeld = false) (slot : s.port.commandSlot = some c)
    (atOnce : s.delay.later = false) : s.idle = exec c { s with port := { s.port with commandSlot := none } } := by
  simp [State.idle, running, slot, atOnce]

/-- A millisecond passes where no command waits in the slot, and where one is to wait on. -/
theorem State.idle_tick (running : s.port.resetHeld = false)
    (waits : s.port.commandSlot = none ∨ s.delay.later = true) : s.idle = .next s.tick := by
  cases slot : s.port.commandSlot with
  | none => simp [State.idle, running, slot]
  | some c =>
    have later : s.delay.later = true := waits.resolve_left (by simp [slot])
    simp [State.idle, running, slot, later]

end

/-! ### The own rule of each host command (R176) -/

/-- The own rule of a host command. A frame that fails the framing check is refused by it (R178); an event has none, and
the same refusal stands for it. -/
def hostBody : Instr → State → CommandResult
  | .readStatus => readStatusBody
  | .readNotice => readNoticeBody
  | .configure payload => configureBody payload
  | .restore state kind number prior counterpart handoff image =>
    restoreBody state kind number prior counterpart handoff image
  | .join => joinBody
  | .rejoin => rejoinBody
  | .readPeer station => readPeerBody station
  | .pardon station => pardonBody station
  | .create kind number image => createBody kind number image
  | .drop tool => dropBody tool
  | .resolve tool choice => resolveBody tool choice
  | .markDamaged tool => markDamagedBody tool
  | .regrind tool len => regrindBody tool len
  | .readRecord tool => readRecordBody tool
  | .listRecords start => listRecordsBody start
  | .issue panel cls forStation => issueBody panel cls forStation
  | .returnTool panel pocket => returnBody panel pocket
  | .serviceOpen panel list => serviceOpenBody panel list
  | .cancel panel => cancelBody panel
  | .identifyPocket pocket tool => identifyPocketBody pocket tool
  | .clearPocketFault pocket => clearPocketFaultBody pocket
  | .readPocket pocket => readPocketBody pocket
  | .readPanel panel => readPanelBody panel
  | .readReservations => readReservationsBody
  | .identifyHead tool => identifyHeadBody tool
  | .measureReference n t => measureReferenceBody n t
  | .measure tool n t => measureBody tool n t
  | .abortMeasure => abortMeasureBody
  | .readHead => readHeadBody
  | .load slot tool => loadBody slot tool
  | .unload slot => unloadBody slot
  | .charge slot seconds => chargeBody slot seconds
  | .readSlot slot => readSlotBody slot
  | .setDemand entries => setDemandBody entries
  | .startDemand mode interval target hold => startDemandBody mode interval target hold
  | .stopDemand => stopDemandBody
  | .readDemand => readDemandBody
  | _ => fun _ => .error .unknownCommand

/-- Each of the 38 host commands is its own rule behind the port. -/
theorem exec_hostBody {c : Instr} (host : (commandCode c).isSome = true) (s : State) :
    exec c s = hostCommand c (hostBody c) s := by
  cases c with
  | reset | readTransaction | commandCollision | lineIdle | arbitrationLost | bitError | frameSent | frameReceived
  | malformedFrame | presence | call | offer | accept | decline | here | check | checkReply | demand | lineHeld
  | lineReleased | nodeOnline | beaconExpiry | peerAbsent | callWaitExpiry | offerWaitExpiry | checkWaitExpiry
  | pocketFirstReading | pocketRemoval | pocketInsertion | currentSeen | pullInExpiry | shortCurrent | holdExpiry
  | supplyLow | supplyNormal | digitKey | enter | clear | interKeyExpiry | lockoutExpiry | windowExpiry | scaleStep
  | scaleError | capture | captureTimeout | seatFirstReading | headSeated | headUnseated | cycleExpiry | triggerEdge
  | reservationExpiry | dominantEdge | startMarkRead | framingError | resetEnds => cases host
  | _ => rfl

/-! ### Frames and read transactions at the port (R175, R177) -/

theorem execCommandCollision_busy {s : State} (running : s.port.resetHeld = false)
    (busy : s.port.response.isSome = true ∨ s.port.commandSlot.isSome = true) :
    execCommandCollision s = .next { s with port := { s.port with collision := true } } := by
  have busy : (s.port.response.isSome || s.port.commandSlot.isSome) = true := Bool.or_eq_true_iff.mpr busy
  simp [execCommandCollision, running, busy]

theorem execReadTransaction_idle {s : State} (n : Nat) (running : s.port.resetHeld = false)
    (none : s.port.response = none) :
    execReadTransaction n s = .next { s with port.dataOut := shiftOut n idleBytes } := by
  simp [execReadTransaction, running, none]

/-- A response frame is its payload behind the result byte and the length byte. -/
@[simp] theorem Response.bytes_length (r : Response) : r.bytes.length = r.payload.length + 2 := by
  simp only [Response.bytes, List.length_append, byte_length]
  omega

theorem execReadTransaction_pending {s : State} {r : Response} (n : Nat) (running : s.port.resetHeld = false)
    (pending : s.port.response = some r) :
    execReadTransaction n s = .next { s with port := { s.port with
      dataOut := r.bytes.take n ++ List.replicate (n - (r.payload.length + 2)) 0
      response := if r.payload.length + 2 ≤ n then none else some r } } := by
  simp [execReadTransaction, running, pending, shiftOut]

/-! ### RESET and its end (R183, R187) -/

theorem execResetEnds_held {s : State} (straps : BitVec 6) (held : s.port.resetHeld = true) :
    execResetEnds straps s = .next
      { s with now := 0, port := { s.port with resetHeld := false, station := straps } } := if_pos held

end Sys2Proof.Machine

namespace Sys2Proof.Proofs

open Sys2Proof.Machine

/-- Settles O1: the front command runs; on an empty queue the branches of `State.idle`. -/
theorem stepRunsFrontCommand : Obligations.StepRunsFrontCommand := by
  unfold Obligations.StepRunsFrontCommand
  refine ⟨fun c rest s queue => step_front queue, fun s queue => ?_⟩
  rw [step_empty queue]
  exact ⟨State.idle_held, fun running =>
    ⟨fun c slot atOnce => State.idle_takes running slot atOnce, State.idle_tick running⟩⟩

/-- Settles O11: a busy port discards what reaches it; a frame that fails the framing check is refused. -/
theorem discardedCommandFrames : Obligations.DiscardedCommandFrames := by
  unfold Obligations.DiscardedCommandFrames
  refine ⟨fun c s frame running busy => ?_, fun code payload s free => hostCommand_error free rfl⟩
  obtain host | rfl := frame
  · rw [exec_hostBody host]
    exact hostCommand_busy running busy c _
  · exact execCommandCollision_busy running busy

/-- Settles O12, by whether a response is pending. -/
theorem readTransactionEmptiesTheSlot : Obligations.ReadTransactionEmptiesTheSlot := by
  unfold Obligations.ReadTransactionEmptiesTheSlot
  exact fun n s running => ⟨execReadTransaction_idle n running, fun r => execReadTransaction_pending n running⟩

/-- Settles O13: RESET leaves the reset values, and the end of the reset is a change of the count and the port. -/
theorem resetAndItsEnd : Obligations.ResetAndItsEnd := by
  unfold Obligations.ResetAndItsEnd
  refine ⟨fun s => rfl, fun straps s held => execResetEnds_held straps held, fun straps l => ?_⟩
  exact ⟨_, execResetEnds_held straps rfl, rfl, rfl, rfl, rfl, rfl, rfl, rfl, rfl, rfl, rfl⟩

/-- Settles O14: the body of READ_STATUS on a free port. -/
theorem readStatusReportsAndClears : Obligations.ReadStatusReportsAndClears := by
  unfold Obligations.ReadStatusReportsAndClears
  exact fun s free => hostCommand_ok free rfl

end Sys2Proof.Proofs
end

section
/-! SUPPORT. O15: READ_NOTICE, a posted notice and ATTN (R179 to R181). -/

namespace Sys2Proof.Machine

section
variable {s : State}

theorem readNoticeBody_empty (none : s.notices.entries = []) : readNoticeBody s = done s := by
  simp only [readNoticeBody, none]

theorem readNoticeBody_cons {n : Notice} {rest : List Notice} (queue : s.notices.entries = n :: rest) :
    readNoticeBody s = .ok ({ s with notices.entries := rest }, n.bytes ++ byte rest.length) := by
  simp only [readNoticeBody, queue]

/-- ATTN tells of a notice whose category the routing mask enables (R181). -/
theorem State.attn_iff (running : s.port.resetHeld = false) :
    s.attn = true ↔ ∃ n ∈ s.notices.entries, s.config.routing.getLsbD n.kind.category.bit = true := by
  simp [State.attn, running, routed]

end

end Sys2Proof.Machine

namespace Sys2Proof.Proofs

open Sys2Proof.Machine

/-- Settles O15: READ_NOTICE by whether an entry waits, a post by the room in the queue. -/
theorem noticeQueueRules : Obligations.NoticeQueueRules := by
  unfold Obligations.NoticeQueueRules
  refine ⟨fun s free => ⟨fun none => ?_, fun n rest queue => ?_⟩, fun k o a s => ?_, fun s running => State.attn_iff running⟩
  · exact hostCommand_ok free (readNoticeBody_empty none)
  · exact hostCommand_ok free (readNoticeBody_cons queue)
  · exact ⟨fun room => State.post_room room k o a, fun full => State.post_full full k o a⟩

end Sys2Proof.Proofs
end

section
/-! SUPPORT. O16: CONFIGURE and the values that it stores (R85, R86, R91, R95, R104, R130, R145, R184). -/

namespace Sys2Proof.Machine

/-! ### The command -/

section
variable {s : State} {p : List Byte}

theorem configureBody_taken (size : p.length = 61) (before : s.port.nodeState = .unconfigured)
    (station : 1 ≤ s.station ∧ s.station ≤ 62) :
    configureBody p s = .ok (s.configure (parseConfig p), byte s.station ++ byte (changedFields p)) := by
  have inRange : ¬ (s.station = 0 ∨ s.station = 63) := by omega
  simp [configureBody, size, State.configured_eq_false before, inRange]

theorem configureBody_configured (size : p.length = 61) (past : s.port.nodeState ≠ .unconfigured) :
    configureBody p s = .error .badState := by
  simp [configureBody, size, State.configured_eq_true past]

theorem configureBody_badStation (size : p.length = 61) (before : s.port.nodeState = .unconfigured)
    (station : s.station = 0 ∨ s.station = 63) : configureBody p s = .error .badStation := by
  simp [configureBody, size, State.configured_eq_false before, station]

end

/-! ### The stored values -/

/-- The debounce time is a multiple of 5 from 5 to 80 (R86). -/
theorem treatDebounce_mem (n : Nat) : treatDebounce n % 5 = 0 ∧ 5 ≤ treatDebounce n ∧ treatDebounce n ≤ 80 := by
  unfold treatDebounce clampNat
  omega

/-- A field with a default lies in its range if the default does. -/
theorem treatDefault_mem {default lo hi : Nat} (inRange : lo ≤ default ∧ default ≤ hi) (n : Nat) :
    lo ≤ treatDefault default lo hi n ∧ treatDefault default lo hi n ≤ hi := by
  unfold treatDefault
  split
  · exact inRange
  · exact ⟨le_clampNat, clampNat_le (inRange.1.trans inRange.2)⟩

theorem treatDefault_zero {default lo hi n : Nat} (zero : n = 0) : treatDefault default lo hi n = default := if_pos zero

/-- An enabled entry has 4 to 8 digits, each at most 9 (R104). -/
theorem parseCode_enabled {entry : List Byte} (enabled : (parseCode entry).enabled = true) :
    4 ≤ (parseCode entry).digits.length ∧ (parseCode entry).digits.length ≤ 8
      ∧ ∀ d ∈ (parseCode entry).digits, d ≤ 9 := by
  simp only [parseCode, Bool.and_eq_true, decide_eq_true_eq, List.all_eq_true] at enabled
  obtain ⟨⟨⟨-, least⟩, most⟩, digits⟩ := enabled
  simp only [parseCode, List.length_map, List.length_range]
  exact ⟨least, most, digits⟩

/-- Each entry of the code table is one of the payload's, as it is stored. -/
theorem parseConfig_code {p : List Byte} {e : CodeEntry} (mem : e ∈ (parseConfig p).codeTable) :
    ∃ entry, e = parseCode entry := by
  obtain ⟨i, -, rfl⟩ := List.mem_map.mp mem
  exact ⟨_, rfl⟩

end Sys2Proof.Machine

namespace Sys2Proof.Proofs

open Sys2Proof.Machine

/-- Settles O16: the command by the node state and the station number, the values by their treatment. -/
theorem configureLoadsTheNode : Obligations.ConfigureLoadsTheNode := by
  unfold Obligations.ConfigureLoadsTheNode
  refine ⟨⟨fun p s free size before least most => ?_, fun p s free size past => ?_, fun p s free size before bad => ?_⟩,
    fun p => ?_⟩
  · exact hostCommand_ok free (configureBody_taken size before ⟨least, most⟩)
  · exact hostCommand_error free (configureBody_configured size past)
  · have number : s.station = 0 ∨ s.station = 63 := bad.imp (congrArg BitVec.toNat) (congrArg BitVec.toNat)
    exact hostCommand_error free (configureBody_badStation size before number)
  · obtain ⟨multiple, least, most⟩ := treatDebounce_mem (field p 5 1)
    obtain ⟨pullIn50, pullIn300⟩ := treatDefault_mem (default := 120) (lo := 50) (hi := 300) (by omega) (field p 6 2)
    obtain ⟨hold5, hold60⟩ := treatDefault_mem (default := 20) (lo := 5) (hi := 60) (by omega) (field p 8 1)
    obtain ⟨band1, band2000⟩ := treatDefault_mem (default := 40) (lo := 1) (hi := 2000) (by omega) (field p 18 2)
    refine ⟨min_le_right _ _, min_le_right _ _, min_le_right _ _, min_le_right _ _, multiple, least, most, pullIn50,
      pullIn300, treatDefault_zero, hold5, hold60, treatDefault_zero, min_le_right _ _, min_le_right _ _,
      min_le_right _ _, band1, band2000, treatDefault_zero, rfl, fun e mem enabled => ?_⟩
    obtain ⟨entry, rfl⟩ := parseConfig_code mem
    exact parseCode_enabled enabled

end Sys2Proof.Proofs
end

section
/-! SUPPORT. O3: the command frames of the port, and what they spell (R175, R178, R188, 11.3). -/

namespace Sys2Proof.Machine

/-! ### Numbers come back from their bytes (R188) -/

/-- A byte in front counts above all that follow. -/
theorem foldl_bytes_eq (bytes : List Byte) (a : Nat) :
    bytes.foldl (fun acc b => acc * 256 + b.toNat) a = a * 256 ^ bytes.length + beNat bytes := by
  unfold beNat
  induction bytes generalizing a with
  | nil => simp
  | cons b rest ih =>
    rw [List.foldl_cons, List.foldl_cons, ih (a * 256 + b.toNat), ih (0 * 256 + b.toNat), List.length_cons]
    ring

theorem beNat_cons (b : Byte) (rest : List Byte) : beNat (b :: rest) = b.toNat * 256 ^ rest.length + beNat rest := by
  simpa [beNat] using foldl_bytes_eq rest b.toNat

/-- What `width` bytes hold of a number. -/
theorem beNat_beBytes (w n : Nat) : beNat (beBytes w n) = n % 256 ^ w := by
  induction w with
  | zero => exact (Nat.mod_one n).symm
  | succ w ih =>
    have top : (BitVec.ofNat 8 (n >>> (8 * w))).toNat = n / 256 ^ w % 256 := by
      rw [BitVec.toNat_ofNat, Nat.shiftRight_eq_div_pow, pow_mul]
      rfl
    rw [beBytes, beNat_cons, ih, top, beBytes_length, pow_succ, Nat.mod_mul]
    ring

/-- A word of at most `8 w` bits comes back from its `w` bytes. -/
theorem ofNat_beNat_beBytes {k : Nat} (w : Nat) (v : BitVec k) (fits : k ≤ 8 * w) :
    BitVec.ofNat k (beNat (beBytes w v.toNat)) = v := by
  have small : v.toNat < 256 ^ w :=
    calc v.toNat < 2 ^ k := v.isLt
      _ ≤ 2 ^ (8 * w) := Nat.pow_le_pow_right (by decide) fits
      _ = 256 ^ w := pow_mul 2 8 w
  rw [beNat_beBytes, Nat.mod_eq_of_lt small, BitVec.ofNat_toNat, BitVec.setWidth_eq]

theorem ofNat_wordBytes (tool : ToolId) : BitVec.ofNat 32 (beNat (wordBytes tool)) = tool :=
  ofNat_beNat_beBytes 4 tool le_rfl

theorem ofNat_shortBytes (v : BitVec 16) : BitVec.ofNat 16 (beNat (beBytes 2 v.toNat)) = v :=
  ofNat_beNat_beBytes 2 v le_rfl

theorem ofNat_oneByte (b : Byte) : BitVec.ofNat 8 (beNat [b]) = b := by simp [beNat]

end Sys2Proof.Machine

namespace Sys2Proof

open Machine

/-! ### Payloads (11.3) -/

/-- The entries of a SET_DEMAND come back from its payload. -/
theorem parseSent_commandPayload (entries : List (BitVec 16 × Byte)) :
    parseSent (commandPayload (.setDemand entries)) = entries := by
  induction entries with
  | nil => rfl
  | cons e rest ih => exact congr(($(ofNat_shortBytes e.1), e.2) :: $ih)

/-- The fields of a command whose frame passes the framing check come back from its payload. -/
theorem decodePayload_commandPayload {i : Instr} {c : Nat} (code : commandCode i = some c)
    (known : ∀ code payload, i ≠ .unknownCommand code payload) : decodePayload c (commandPayload i) = some i := by
  cases i with
  | readStatus | readNotice | configure | join | rejoin | readReservations | abortMeasure | readHead | stopDemand
  | readDemand => cases code; rfl
  | readPeer n => cases code; exact congr(some (Instr.readPeer $(ofNat_oneByte n)))
  | pardon n => cases code; exact congr(some (Instr.pardon $(ofNat_oneByte n)))
  | listRecords n => cases code; exact congr(some (Instr.listRecords $(ofNat_oneByte n)))
  | cancel n => cases code; exact congr(some (Instr.cancel $(ofNat_oneByte n)))
  | clearPocketFault n => cases code; exact congr(some (Instr.clearPocketFault $(ofNat_oneByte n)))
  | readPocket n => cases code; exact congr(some (Instr.readPocket $(ofNat_oneByte n)))
  | readPanel n => cases code; exact congr(some (Instr.readPanel $(ofNat_oneByte n)))
  | unload n => cases code; exact congr(some (Instr.unload $(ofNat_oneByte n)))
  | readSlot n => cases code; exact congr(some (Instr.readSlot $(ofNat_oneByte n)))
  | drop tool => cases code; exact congr(some (Instr.drop $(ofNat_wordBytes tool)))
  | markDamaged tool => cases code; exact congr(some (Instr.markDamaged $(ofNat_wordBytes tool)))
  | readRecord tool => cases code; exact congr(some (Instr.readRecord $(ofNat_wordBytes tool)))
  | identifyHead tool => cases code; exact congr(some (Instr.identifyHead $(ofNat_wordBytes tool)))
  | restore state kind number prior counterpart handoff image =>
    cases code
    exact congr(some (Instr.restore $(ofNat_oneByte state) $(ofNat_oneByte kind) $(ofNat_oneByte number)
      $(ofNat_oneByte prior) $(ofNat_oneByte counterpart) $(ofNat_oneByte handoff) image))
  | create kind number image =>
    cases code
    exact congr(some (Instr.create $(ofNat_oneByte kind) $(ofNat_oneByte number) image))
  | resolve tool choice =>
    cases code
    exact congr(some (Instr.resolve $(ofNat_wordBytes tool) $(ofNat_oneByte choice)))
  | regrind tool len =>
    cases code
    cases len with
    | none => exact congr(some (Instr.regrind $(ofNat_wordBytes tool) none))
    | some n => exact congr(some (Instr.regrind $(ofNat_wordBytes tool) (some $(ofNat_beNat_beBytes 3 n le_rfl))))
  | issue panel cls station =>
    cases code
    exact congr(some (Instr.issue $(ofNat_oneByte panel) $(ofNat_shortBytes cls) $(ofNat_oneByte station)))
  | returnTool panel pocket =>
    cases code
    cases pocket with
    | none => exact congr(some (Instr.returnTool $(ofNat_oneByte panel) none))
    | some p => exact congr(some (Instr.returnTool $(ofNat_oneByte panel) (some $(ofNat_oneByte p))))
  | serviceOpen panel list =>
    cases code
    exact congr(some (Instr.serviceOpen $(ofNat_oneByte panel) list))
  | identifyPocket n tool => cases code; exact congr(some (Instr.identifyPocket $(ofNat_oneByte n) $(ofNat_wordBytes tool)))
  | load n tool => cases code; exact congr(some (Instr.load $(ofNat_oneByte n) $(ofNat_wordBytes tool)))
  | measureReference n t => cases code; exact congr(some (Instr.measureReference $(ofNat_oneByte n) $(ofNat_shortBytes t)))
  | charge n t => cases code; exact congr(some (Instr.charge $(ofNat_oneByte n) $(ofNat_shortBytes t)))
  | measure tool n t =>
    cases code
    exact congr(some (Instr.measure $(ofNat_wordBytes tool) $(ofNat_oneByte n) $(ofNat_shortBytes t)))
  | setDemand entries =>
    cases code
    exact congr(some (Instr.setDemand $(parseSent_commandPayload entries)))
  | startDemand mode interval target hold =>
    cases code
    exact congr(some (Instr.startDemand $(ofNat_oneByte mode) $(ofNat_oneByte interval) $(ofNat_oneByte target)
      $(ofNat_oneByte hold)))
  | unknownCommand b payload => exact absurd rfl (known b payload)
  | _ => cases code

/-- The lemmas on single commands together: a well-formed host command's payload has a length that its code takes. -/
theorem commandPayload_sizeOk (i : Instr) : Laws.SizeOk.Statement i := by
  cases i with
  | unknownCommand code payload => exact Laws.SizeOk.unknownCommand code payload
  | readStatus => exact Laws.SizeOk.readStatus
  | readNotice => exact Laws.SizeOk.readNotice
  | configure payload => exact Laws.SizeOk.configure payload
  | restore state kind number prior counterpart handoff image =>
    exact Laws.SizeOk.restore state kind number prior counterpart handoff image
  | join => exact Laws.SizeOk.join
  | rejoin => exact Laws.SizeOk.rejoin
  | readPeer n => exact Laws.SizeOk.readPeer n
  | pardon n => exact Laws.SizeOk.pardon n
  | create kind number image => exact Laws.SizeOk.create kind number image
  | drop tool => exact Laws.SizeOk.drop tool
  | resolve tool choice => exact Laws.SizeOk.resolve tool choice
  | markDamaged tool => exact Laws.SizeOk.markDamaged tool
  | regrind tool len => exact Laws.SizeOk.regrind tool len
  | readRecord tool => exact Laws.SizeOk.readRecord tool
  | listRecords start => exact Laws.SizeOk.listRecords start
  | issue panel cls station => exact Laws.SizeOk.issue panel cls station
  | returnTool panel pocket => exact Laws.SizeOk.returnTool panel pocket
  | serviceOpen panel list => exact Laws.SizeOk.serviceOpen panel list
  | cancel panel => exact Laws.SizeOk.cancel panel
  | identifyPocket pocket tool => exact Laws.SizeOk.identifyPocket pocket tool
  | clearPocketFault pocket => exact Laws.SizeOk.clearPocketFault pocket
  | readPocket pocket => exact Laws.SizeOk.readPocket pocket
  | readPanel panel => exact Laws.SizeOk.readPanel panel
  | readReservations => exact Laws.SizeOk.readReservations
  | identifyHead tool => exact Laws.SizeOk.identifyHead tool
  | measureReference n t => exact Laws.SizeOk.measureReference n t
  | measure tool n t => exact Laws.SizeOk.measure tool n t
  | abortMeasure => exact Laws.SizeOk.abortMeasure
  | readHead => exact Laws.SizeOk.readHead
  | load slot tool => exact Laws.SizeOk.load slot tool
  | unload slot => exact Laws.SizeOk.unload slot
  | charge slot seconds => exact Laws.SizeOk.charge slot seconds
  | readSlot slot => exact Laws.SizeOk.readSlot slot
  | setDemand entries => exact Laws.SizeOk.setDemand entries
  | startDemand mode interval target hold => exact Laws.SizeOk.startDemand mode interval target hold
  | stopDemand => exact Laws.SizeOk.stopDemand
  | readDemand => exact Laws.SizeOk.readDemand
  | _ => exact Laws.SizeOk.ofNone _ rfl

/-- The image of a well-formed RESTORE has the length that its measured-block bit tells (R190). -/
theorem commandPayload_imageOk {i : Instr} (wf : WellFormed i = true) (restore : commandCode i = some 4)
    (known : ∀ code payload, i ≠ .unknownCommand code payload) :
    imageLengthOk ((commandPayload i).drop 6) = true := by
  cases i with
  | restore => exact wf
  | unknownCommand b payload => exact absurd rfl (known b payload)
  | _ => cases restore

/-- An assigned code is a byte other than 0 (10.2). -/
theorem lengthTaken_code {c n : Nat} (taken : lengthTaken c n = true) : 1 ≤ c ∧ c ≤ 71 := by
  unfold lengthTaken at taken
  split at taken
  any_goals omega
  exact absurd taken Bool.false_ne_true

/-- A code or a length that the framing check refuses spells UNKNOWN_COMMAND (R178). -/
theorem decodeCommand_unknown {code : Byte} {payload : List Byte}
    (wf : WellFormed (.unknownCommand code payload) = true) :
    decodeCommand code payload = some (.unknownCommand code payload) := by
  simp only [WellFormed, Bool.and_eq_true, bne_iff_ne, decide_eq_true_eq, Bool.not_eq_true'] at wf
  obtain ⟨⟨assigned, -⟩, refused⟩ := wf
  rw [decodeCommand, if_neg assigned, refused, if_neg Bool.false_ne_true]

/-- A complete payload that passes the framing check spells its command. -/
theorem decodeCommand_known {i : Instr} {c : Nat} (wf : WellFormed i = true) (code : commandCode i = some c)
    (known : ∀ code payload, i ≠ .unknownCommand code payload) :
    decodeCommand (BitVec.ofNat 8 c) (commandPayload i) = some i := by
  obtain ⟨-, sized⟩ := commandPayload_sizeOk i wf c code
  have taken : lengthTaken c (commandPayload i).length = true :=
    sized.resolve_right fun ⟨b, payload, unknown⟩ => known b payload unknown
  obtain ⟨least, most⟩ := lengthTaken_code taken
  have byte : (BitVec.ofNat 8 c).toNat = c := (BitVec.toNat_ofNat ..).trans (Nat.mod_eq_of_lt (by omega))
  have assigned : BitVec.ofNat 8 c ≠ 0 := fun zero => by
    rw [zero] at byte
    exact absurd byte (by simp; omega)
  have framed : framingOk c (commandPayload i) = true := by
    by_cases restore : c = 4
    · subst restore
      simp [framingOk, taken, commandPayload_imageOk wf code known]
    · simp [framingOk, taken, restore]
  rw [decodeCommand, if_neg assigned, byte, if_pos framed, decodePayload_commandPayload code known]

/-- The payload of a well-formed host command, behind the command's code, spells it (R178). -/
theorem decodeCommand_commandPayload {i : Instr} {c : Nat} (wf : WellFormed i = true) (code : commandCode i = some c) :
    decodeCommand (BitVec.ofNat 8 c) (commandPayload i) = some i := by
  by_cases unknown : ∃ b payload, i = .unknownCommand b payload
  · obtain ⟨b, payload, rfl⟩ := unknown
    cases code
    rw [BitVec.ofNat_toNat, BitVec.setWidth_eq]
    exact decodeCommand_unknown wf
  · exact decodeCommand_known wf code fun b payload e => unknown ⟨b, payload, e⟩

/-! ### Frames (R175) -/

/-- A frame with its payload complete; what follows it in the transaction is ignored. -/
theorem decodeFrame_complete {code length : Byte} {payload : List Byte} (size : length.toNat = payload.length)
    (extra : List Byte) : decodeFrame (code :: length :: payload ++ extra) = decodeCommand code payload := by
  simp [decodeFrame, size]

/-- A frame released one byte early spells no command. -/
theorem decodeFrame_dropLast {code length : Byte} {payload : List Byte} (size : length.toNat = payload.length) :
    decodeFrame (code :: length :: payload).dropLast = none := by
  cases payload with
  | nil => rfl
  | cons b rest =>
    have short : ¬ length.toNat ≤ (b :: rest).dropLast.length := by simp [size]
    exact if_neg short

/-- The frame of a command, byte by byte (11.3). -/
theorem encodeFrame_eq {i : Instr} {bytes : List Byte} (frame : encodeFrame i = some bytes) :
    ∃ c, commandCode i = some c
      ∧ bytes = BitVec.ofNat 8 c :: BitVec.ofNat 8 (commandPayload i).length :: commandPayload i := by
  obtain ⟨c, code, rfl⟩ := Option.map_eq_some_iff.mp frame
  exact ⟨c, code, rfl⟩

end Sys2Proof

namespace Sys2Proof.Proofs

open Sys2Proof.Machine

/-- Settles O3: the length byte says the payload whole, and the payload says the command's fields. -/
theorem commandFramesRoundTrip : Obligations.CommandFramesRoundTrip := by
  unfold Obligations.CommandFramesRoundTrip
  intro i bytes extra wf frame
  obtain ⟨c, code, rfl⟩ := encodeFrame_eq frame
  obtain ⟨short, -⟩ := commandPayload_sizeOk i wf c code
  have size : (BitVec.ofNat 8 (commandPayload i).length).toNat = (commandPayload i).length :=
    (BitVec.toNat_ofNat ..).trans (Nat.mod_eq_of_lt (Nat.lt_succ_of_le short))
  refine ⟨?_, decodeFrame_dropLast size⟩
  rw [decodeFrame_complete size, decodeCommand_commandPayload wf code]

end Sys2Proof.Proofs
end

section
/-! SUPPORT. O20: RESTORE (R7, R185, R186, R190). -/

namespace Sys2Proof.Machine

/-! ### Places and identifiers -/

/-- An image names identifiers outside their range (R7). -/
def RawImage.BadIdentifier (r : RawImage) : Prop :=
  r.base.toolId = 0 ∨ r.base.cls = 0 ∨ ∃ b, r.block = some b ∧ (b.station = 0 ∨ 62 < b.station)

theorem RawImage.badIdentifier_iff {r : RawImage} : r.badIdentifier = true ↔ r.BadIdentifier := by
  unfold RawImage.badIdentifier RawImage.BadIdentifier
  cases r.block <;> simp [or_assoc]

/-- What each kind of place is called by (11.3). -/
theorem parsePlace_eq_some {kind number : Byte} {place : Place} (h : parsePlace kind.toNat number.toNat = some place) :
    kind = 0 ∧ place = .nowhere ∨ kind = 1 ∧ place = .pocket number.toNat ∨ kind = 2 ∧ place = .slot number.toNat
      ∨ kind = 3 ∧ place = .head := by
  unfold parsePlace at h
  split at h
  · next e => exact .inl ⟨BitVec.eq_of_toNat_eq e, (Option.some.inj h).symm⟩
  split at h
  · next e => exact .inr (.inl ⟨BitVec.eq_of_toNat_eq e, (Option.some.inj h).symm⟩)
  split at h
  · next e => exact .inr (.inr (.inl ⟨BitVec.eq_of_toNat_eq e, (Option.some.inj h).symm⟩))
  split at h
  · next e => exact .inr (.inr (.inr ⟨BitVec.eq_of_toNat_eq e, (Option.some.inj h).symm⟩))
  · cases h

section
variable (s : State) (state kind number prior counterpart handoff : Byte)

/-- A place, a counterpart and a prior state that suit the state and this node (R185 step 3). -/
def State.RestoreSuits : Prop :=
  (state = 1 ∧ kind = 1 ∧ s.pocket? number.toNat ≠ none)
    ∨ (state = 2 ∧ kind = 2 ∧ s.slot? number.toNat ≠ none)
    ∨ ((state = 3 ∨ state = 4) ∧ kind = 3 ∧ s.config.head = true)
    ∨ ((state = 5 ∨ state = 6) ∧ kind = 0)
    ∨ ((state = 7 ∨ state = 8) ∧ kind = 0 ∧ 1 ≤ counterpart.toNat ∧ counterpart.toNat ≤ 62
      ∧ (prior = 5 ∨ prior = 6))

/-- RESTORE finds its place unsuitable (R185, PLACE_CONFLICT). -/
def State.RestoreConflict : Prop :=
  (kind = 1 ∧ ∃ k, s.pocket? number.toNat = some k ∧ (k.presence ≠ .present ∨ k.occupancy ≠ .unknown))
    ∨ (kind = 2 ∧ s.slot? number.toNat ≠ some .empty)
    ∨ (kind = 3 ∧ (s.head.seat ≠ .present ∨ s.headRecord ≠ none))

/-- The place and the restored state of a RESTORE, from the bytes of its frame. -/
def State.restored : Option (Place × RecordState) :=
  s.restoreState state.toNat (parsePlace kind.toNat number.toNat) prior.toNat counterpart.toNat handoff

end

section
variable {s : State} {state kind number prior counterpart handoff : Byte}

/-! ### The restored state (R186) -/

theorem restored_stocked {k : Pocket} (entry : s.pocket? number.toNat = some k) :
    s.restored 1 1 number prior counterpart handoff = some (.pocket number.toNat, .stocked number.toNat) := by
  simp [State.restored, State.restoreState, parsePlace, State.hasPlace, entry]

theorem restored_loaded {m : MagSlot} (entry : s.slot? number.toNat = some m) :
    s.restored 2 2 number prior counterpart handoff = some (.slot number.toNat, .loaded number.toNat) := by
  simp [State.restored, State.restoreState, parsePlace, State.hasPlace, entry]

/-- MEASURING becomes SEATED. -/
theorem restored_seated (head : s.config.head = true) (seated : state = 3 ∨ state = 4) :
    s.restored state 3 number prior counterpart handoff = some (.head, .seated) := by
  obtain rfl | rfl := seated <;> simp [State.restored, State.restoreState, parsePlace, State.hasPlace, head]

theorem restored_loose : s.restored 5 0 number prior counterpart handoff = some (.nowhere, .loose) := rfl

theorem restored_missing : s.restored 6 0 number prior counterpart handoff = some (.nowhere, .missing) := rfl

/-- OUTBOUND becomes IN_DOUBT, with no check outstanding. -/
theorem restored_inDoubt {p : Prior} (doubt : state = 7 ∨ state = 8) (least : 1 ≤ counterpart.toNat)
    (most : counterpart.toNat ≤ 62) (before : prior = 5 ∧ p = .loose ∨ prior = 6 ∧ p = .missing) :
    s.restored state 0 number prior counterpart handoff =
      some (.nowhere, .inDoubt { counterpart := counterpart.toNat, handoff := handoff } p none) := by
  have known : priorOf prior.toNat = some p := by
    obtain ⟨rfl, rfl⟩ | ⟨rfl, rfl⟩ := before <;> rfl
  obtain rfl | rfl := doubt <;>
    simp [State.restored, State.restoreState, parsePlace, State.hasPlace, least, most, known]

theorem priorOf_isSome {n : Byte} (known : priorOf n.toNat ≠ none) : n = 5 ∨ n = 6 := by
  unfold priorOf at known
  split at known
  · next e => exact .inl (BitVec.eq_of_toNat_eq e)
  split at known
  · next e => exact .inr (BitVec.eq_of_toNat_eq e)
  · exact absurd rfl known

/-- A custody part and a prior state that RESTORE takes are in their ranges (R185). -/
theorem doubt_known {α : Type} {f : Prior → α}
    (taken : (if 1 ≤ counterpart.toNat ∧ counterpart.toNat ≤ 62 then (priorOf prior.toNat).map f else none) ≠ none) :
    1 ≤ counterpart.toNat ∧ counterpart.toNat ≤ 62 ∧ (prior = 5 ∨ prior = 6) := by
  split at taken
  · next range => exact ⟨range.1, range.2, priorOf_isSome fun none => taken (by rw [none]; rfl)⟩
  · exact absurd rfl taken

/-- Where RESTORE maps a state, it suits the place, the counterpart and the prior state. -/
theorem suits_of_restored (mapped : s.restored state kind number prior counterpart handoff ≠ none) :
    s.RestoreSuits state kind number prior counterpart := by
  unfold State.restored State.restoreState at mapped
  cases parsed : parsePlace kind.toNat number.toNat with
  | none => exact absurd (by simp only [parsed]) mapped
  | some place =>
    have kinds := parsePlace_eq_some parsed
    simp only [parsed] at mapped
    split at mapped
    · exact absurd rfl mapped
    next has =>
    simp only [Bool.not_eq_true', Bool.not_eq_false] at has
    split at mapped
    · next p e =>
      obtain ⟨rfl, rfl⟩ : kind = 1 ∧ p = number.toNat := by simpa using kinds
      exact .inl ⟨BitVec.eq_of_toNat_eq e, rfl, Option.isSome_iff_ne_none.mp has⟩
    · next n e =>
      obtain ⟨rfl, rfl⟩ : kind = 2 ∧ n = number.toNat := by simpa using kinds
      exact .inr (.inl ⟨BitVec.eq_of_toNat_eq e, rfl, Option.isSome_iff_ne_none.mp has⟩)
    · next e => exact .inr (.inr (.inl ⟨.inl (BitVec.eq_of_toNat_eq e), by simpa using kinds, has⟩))
    · next e => exact .inr (.inr (.inl ⟨.inr (BitVec.eq_of_toNat_eq e), by simpa using kinds, has⟩))
    · next e => exact .inr (.inr (.inr (.inl ⟨.inl (BitVec.eq_of_toNat_eq e), by simpa using kinds⟩)))
    · next e => exact .inr (.inr (.inr (.inl ⟨.inr (BitVec.eq_of_toNat_eq e), by simpa using kinds⟩)))
    · next e =>
      obtain ⟨least, most, before⟩ := doubt_known mapped
      exact .inr (.inr (.inr (.inr ⟨.inl (BitVec.eq_of_toNat_eq e), by simpa using kinds, least, most, before⟩)))
    · next e =>
      obtain ⟨least, most, before⟩ := doubt_known mapped
      exact .inr (.inr (.inr (.inr ⟨.inr (BitVec.eq_of_toNat_eq e), by simpa using kinds, least, most, before⟩)))
    · exact absurd rfl mapped

/-- A state that suits is mapped, to a place that the model finds unsuitable where the rule does. -/
theorem restored_of_suits (suits : s.RestoreSuits state kind number prior counterpart) :
    ∃ place st, s.restored state kind number prior counterpart handoff = some (place, st)
      ∧ (s.restoreConflict place = true ↔ s.RestoreConflict kind number) := by
  obtain ⟨rfl, rfl, entry⟩ | ⟨rfl, rfl, entry⟩ | ⟨seated, rfl, head⟩ | ⟨rfl | rfl, rfl⟩
    | ⟨doubt, rfl, least, most, before⟩ := suits
  · obtain ⟨k, entry⟩ := Option.ne_none_iff_exists'.mp entry
    exact ⟨_, _, restored_stocked entry, by simp [State.restoreConflict, State.RestoreConflict, entry]⟩
  · obtain ⟨m, entry⟩ := Option.ne_none_iff_exists'.mp entry
    exact ⟨_, _, restored_loaded entry, by simp [State.restoreConflict, State.RestoreConflict]⟩
  · refine ⟨_, _, restored_seated head seated, ?_⟩
    simp [State.restoreConflict, State.RestoreConflict, Option.isSome_iff_ne_none]
  · exact ⟨_, _, restored_loose, by simp [State.restoreConflict, State.RestoreConflict]⟩
  · exact ⟨_, _, restored_missing, by simp [State.restoreConflict, State.RestoreConflict]⟩
  · obtain ⟨p, before⟩ : ∃ p, prior = 5 ∧ p = Prior.loose ∨ prior = 6 ∧ p = Prior.missing :=
      before.elim (fun e => ⟨.loose, .inl ⟨e, rfl⟩⟩) fun e => ⟨.missing, .inr ⟨e, rfl⟩⟩
    exact ⟨_, _, restored_inDoubt doubt least most before, by simp [State.restoreConflict, State.RestoreConflict]⟩

/-! ### The command -/

variable {bytes : List Byte}

theorem restoreBody_badLength (bad : imageLengthOk bytes = false) :
    restoreBody state kind number prior counterpart handoff bytes s = .error .unknownCommand := by
  simp [restoreBody, bad]

theorem restoreBody_unconfigured (size : imageLengthOk bytes = true) (before : s.port.nodeState = .unconfigured) :
    restoreBody state kind number prior counterpart handoff bytes s = .error .notConfigured := by
  simp [restoreBody, size, State.configured_eq_false before]

theorem restoreBody_joined (size : imageLengthOk bytes = true) (past : s.port.nodeState ≠ .unconfigured)
    (joined : s.port.nodeState ≠ .configured) :
    restoreBody state kind number prior counterpart handoff bytes s = .error .badState := by
  simp [restoreBody, size, State.configured_eq_true past, joined]

section
variable (size : imageLengthOk bytes = true) (configured : s.port.nodeState = .configured)
include size configured

theorem restoreBody_outOfRange (bad : (parseImage bytes).badIdentifier = true
      ∨ s.restored state kind number prior counterpart handoff = none) :
    restoreBody state kind number prior counterpart handoff bytes s = .error .outOfRange := by
  have past : s.configured = true := State.configured_eq_true (by simp [configured])
  obtain bad | none := bad
  · simp [restoreBody, size, past, configured, bad]
  · unfold State.restored at none
    simp [restoreBody, size, past, configured, none]

/-- RESTORE with its identifiers, its state and its place in range. -/
theorem restoreBody_at {place : Place} {st : RecordState} (ids : (parseImage bytes).badIdentifier = false)
    (mapped : s.restored state kind number prior counterpart handoff = some (place, st)) :
    restoreBody state kind number prior counterpart handoff bytes s =
      if (s.find (parseImage bytes).base.toolId).isSome then .error .toolExists
      else if s.restoreConflict place then .error .placeConflict
      else if s.freeRows = 0 then .error .tableFull
      else done (s.restoreAt (parseImage bytes).hostIntake st place) := by
  have past : s.configured = true := State.configured_eq_true (by simp [configured])
  unfold State.restored at mapped
  simp [restoreBody, size, past, configured, ids, mapped]

/-- RESTORE where nothing stands against it. -/
theorem restoreBody_taken {place : Place} {st : RecordState} (ids : (parseImage bytes).badIdentifier = false)
    (fresh : s.find (parseImage bytes).base.toolId = none) (rows : s.freeRows ≠ 0)
    (mapped : s.restored state kind number prior counterpart handoff = some (place, st))
    (suits : s.restoreConflict place = false) :
    restoreBody state kind number prior counterpart handoff bytes s =
      done (s.restoreAt (parseImage bytes).hostIntake st place) := by
  rw [restoreBody_at size configured ids mapped, fresh, suits, if_neg rows]
  rfl

end

end

end Sys2Proof.Machine

namespace Sys2Proof.Proofs

open Sys2Proof.Machine

/-- Settles O20: a RESTORE is taken by the state that it maps; its refusals are the branches of its body in order. -/
theorem restoreMakesARecord : Obligations.RestoreMakesARecord := by
  unfold Obligations.RestoreMakesARecord
  refine ⟨fun state kind number prior counterpart handoff bytes s => ?_,
    fun state kind number prior counterpart handoff bytes s free => ?_⟩
  · intro raw tool c held free configured size ids fresh rows
    have id : raw.hostIntake.toolId = tool := raw.hostIntake_toolId
    have arrived : ∀ st, s.arrive { image := raw.hostIntake, state := st } 0 = held st := fun st =>
      congrArg (fun t => State.post _ .recordArrived t 0) id
    have taken {place : Place} {st : RecordState} := restoreBody_taken (place := place) (st := st) (state := state)
      (kind := kind) (number := number) (prior := prior) (counterpart := counterpart) (handoff := handoff) size
      configured ids fresh rows
    refine ⟨?pocket, ?slot, ?head, ?loose, ?missing, ?doubt⟩
    case pocket =>
      rintro k rfl rfl entry present unknown
      have suits : s.restoreConflict (.pocket number.toNat) = false := by
        simp [State.restoreConflict, entry, present, unknown]
      exact hostCommand_ok free ((taken (restored_stocked entry) suits).trans congr(done (State.markingPass
        (State.setPocket $(arrived _) number.toNat fun k => { k with occupancy := .held $id }))))
    case slot =>
      rintro rfl rfl empty
      have suits : s.restoreConflict (.slot number.toNat) = false := by simp [State.restoreConflict, empty]
      exact hostCommand_ok free ((taken (restored_loaded empty) suits).trans congr(done
        (State.setSlot $(arrived _) number.toNat (.loaded $id))))
    case head =>
      rintro seated rfl head seat none
      have suits : s.restoreConflict .head = false := by simp [State.restoreConflict, seat, none]
      exact hostCommand_ok free ((taken (restored_seated head seated) suits).trans (congrArg done (arrived _)))
    case loose =>
      rintro rfl rfl
      exact hostCommand_ok free ((taken restored_loose rfl).trans (congrArg done (arrived _)))
    case missing =>
      rintro rfl rfl
      exact hostCommand_ok free ((taken restored_missing rfl).trans (congrArg done (arrived _)))
    case doubt =>
      rintro p doubt rfl least most before
      exact hostCommand_ok free
        ((taken (restored_inDoubt doubt least most before) rfl).trans (congrArg done (arrived _)))
  · intro raw answer badIdentifier suits conflict
    refine ⟨fun bad => hostCommand_error free (restoreBody_badLength bad), fun size =>
      ⟨fun before => hostCommand_error free (restoreBody_unconfigured size before),
        fun past joined => hostCommand_error free (restoreBody_joined size past joined), fun configured =>
          ⟨fun bad => ?_, fun good fits => ?_⟩⟩⟩
    · refine hostCommand_error free (restoreBody_outOfRange size configured (bad.imp RawImage.badIdentifier_iff.mpr ?_))
      exact fun unfit => by_contra fun mapped => unfit (suits_of_restored mapped)
    · have ids : raw.badIdentifier = false := eq_false_of_ne_true (mt RawImage.badIdentifier_iff.mp good)
      obtain ⟨place, st, mapped, unsuitable⟩ := restored_of_suits (handoff := handoff) fits
      have body := restoreBody_at size configured ids mapped
      refine ⟨fun held => ?_, fun fresh bad => ?_, fun fresh fine full => ?_⟩
      · exact hostCommand_error free (body.trans (if_pos (Option.isSome_iff_ne_none.mpr held)))
      · rw [fresh] at body
        exact hostCommand_error free (body.trans (if_pos (unsuitable.mpr bad)))
      · rw [fresh, eq_false_of_ne_true (mt unsuitable.mp fine), if_pos full] at body
        exact hostCommand_error free body

end Sys2Proof.Proofs
end

section
/-! SUPPORT. What of a state no command but RESET, RESET_ENDS and CONFIGURE changes, and the operations of all units, none
of which changes it either (R176, R183, R184, R187). -/

namespace Sys2Proof.Machine

/-! ### The backdrop of a command -/

/-- The commands that wait, the count, the configuration, the station number and whether the reset is held. -/
structure Backdrop where
  pending : List Instr
  now : Millis
  config : NodeConfig
  station : BitVec 6
  resetHeld : Bool

/-- The backdrop from the fields that it is made of. -/
def backdropOf (pending : List Instr) (now : Millis) (config : NodeConfig) (port : Port) : Backdrop where
  pending := pending
  now := now
  config := config
  station := port.station
  resetHeld := port.resetHeld

/-- The backdrop of a state. -/
def State.backdrop (s : State) : Backdrop := backdropOf s.pending s.now s.config s.port

@[simp] theorem backdrop_mk {pending now delay port notices config records line roster custody bank panels head magazine
    demand reservations} : (State.mk pending now delay port notices config records line roster custody bank panels head
      magazine demand reservations).backdrop = backdropOf pending now config port := rfl

@[simp] theorem backdropOf_fields (s : State) : backdropOf s.pending s.now s.config s.port = s.backdrop := rfl

theorem State.backdrop_congr {s t : State} (pending : t.pending = s.pending := by simp) (now : t.now = s.now := by simp)
    (config : t.config = s.config := by simp) (port : t.port = s.port := by simp) : t.backdrop = s.backdrop := by
  simp only [State.backdrop, pending, now, config, port]

section
variable (s : State)

/-! ### Operations of all blocks -/

@[simp] theorem State.post_backdrop (k : NoticeKind) (o a : BitVec 32) : (s.post k o a).backdrop = s.backdrop :=
  State.backdrop_congr
@[simp] theorem State.postChanged_backdrop (tool : ToolId) : (s.postChanged tool).backdrop = s.backdrop :=
  State.backdrop_congr
@[simp] theorem State.postDiscarded_backdrop (f : TxFrame) (c : DiscardCause) :
    (s.postDiscarded f c).backdrop = s.backdrop := State.backdrop_congr
@[simp] theorem State.postReferenceDone_backdrop (o : RunOutcome) : (s.postReferenceDone o).backdrop = s.backdrop :=
  State.backdrop_congr
@[simp] theorem State.postMeasureDone_backdrop (tool : ToolId) (o : RunOutcome) (n : Nat) :
    (s.postMeasureDone tool o n).backdrop = s.backdrop := State.backdrop_congr
@[simp] theorem State.updateRecord_backdrop (tool : ToolId) (f : ToolRecord → ToolRecord) :
    (s.updateRecord tool f).backdrop = s.backdrop := rfl
@[simp] theorem State.setState_backdrop (tool : ToolId) (st : RecordState) :
    (s.setState tool st).backdrop = s.backdrop := rfl
@[simp] theorem State.setImage_backdrop (tool : ToolId) (f : Image → Image) :
    (s.setImage tool f).backdrop = s.backdrop := rfl
@[simp] theorem State.addRecord_backdrop (r : ToolRecord) : (s.addRecord r).backdrop = s.backdrop := rfl
@[simp] theorem State.setPocket_backdrop (p : Nat) (f : Pocket → Pocket) : (s.setPocket p f).backdrop = s.backdrop :=
  State.backdrop_congr
@[simp] theorem State.setSlot_backdrop (n : Nat) (m : MagSlot) : (s.setSlot n m).backdrop = s.backdrop :=
  State.backdrop_congr
@[simp] theorem State.setPanel_backdrop (i : PanelId) (f : Panel → Panel) : (s.setPanel i f).backdrop = s.backdrop :=
  State.backdrop_congr
@[simp] theorem State.setPeer_backdrop (n : Nat) (f : Peer → Peer) : (s.setPeer n f).backdrop = s.backdrop := by
  unfold State.setPeer
  split <;> rfl
@[simp] theorem State.unmark_backdrop (p : Nat) : (s.unmark p).backdrop = s.backdrop := State.backdrop_congr
@[simp] theorem State.markingPass_backdrop : s.markingPass.backdrop = s.backdrop := rfl
@[simp] theorem State.deleteRows_backdrop (gone : Reservation → Bool) : (s.deleteRows gone).backdrop = s.backdrop := rfl
@[simp] theorem State.startAttempt_backdrop : s.startAttempt.backdrop = s.backdrop := State.backdrop_congr
@[simp] theorem State.offerFrame_backdrop (f : TxFrame) : (s.offerFrame f).backdrop = s.backdrop := State.backdrop_congr
@[simp] theorem State.refreshDemand_backdrop (again : Bool) : (s.refreshDemand again).backdrop = s.backdrop := rfl
@[simp] theorem State.offerPresence_backdrop : s.offerPresence.backdrop = s.backdrop := State.backdrop_congr
@[simp] theorem State.offerDemand_backdrop : s.offerDemand.backdrop = s.backdrop := State.backdrop_congr
@[simp] theorem State.closeCall_backdrop (i : Nat) (o : CallOutcome) (n : Nat) :
    (s.closeCall i o n).backdrop = s.backdrop := State.backdrop_congr
@[simp] theorem State.withdrawCall_backdrop (why : Purpose) : (s.withdrawCall why).backdrop = s.backdrop :=
  State.backdrop_congr
@[simp] theorem State.freeOut_backdrop (i : Nat) : (s.freeOut i).backdrop = s.backdrop := rfl
@[simp] theorem State.lapse_backdrop (i : Nat) (c : DoubtCause) : (s.lapse i c).backdrop = s.backdrop :=
  State.backdrop_congr
@[simp] theorem State.lapseAll_backdrop (test : OutSlot → Bool) (c : DoubtCause) :
    (s.lapseAll test c).backdrop = s.backdrop :=
  State.lapseAll_keeps State.backdrop (fun u i => u.lapse_backdrop i c) s test
@[simp] theorem State.depart_backdrop (tool : ToolId) (n : Nat) : (s.depart tool n).backdrop = s.backdrop :=
  State.backdrop_congr
@[simp] theorem State.returnToPrior_backdrop (tool : ToolId) (p : Prior) :
    (s.returnToPrior tool p).backdrop = s.backdrop := State.backdrop_congr
@[simp] theorem State.enterListenOnly_backdrop : s.enterListenOnly.backdrop = s.backdrop := rfl
@[simp] theorem State.reseat_backdrop (tool : ToolId) : (s.reseat tool).backdrop = s.backdrop := State.backdrop_congr
@[simp] theorem State.idleRun_backdrop : s.idleRun.backdrop = s.backdrop := rfl
@[simp] theorem State.endRun_backdrop (o : RunOutcome) : (s.endRun o).backdrop = s.backdrop := State.backdrop_congr
@[simp] theorem State.closeLock_backdrop (p : Nat) : (s.closeLock p).backdrop = s.backdrop := State.backdrop_congr
@[simp] theorem State.endOperation_backdrop (i : PanelId) (o : OpOutcome) : (s.endOperation i o).backdrop = s.backdrop :=
  State.backdrop_congr
@[simp] theorem State.report_backdrop (why : Opening) (p : Nat) (r : Report) : (s.report why p r).backdrop = s.backdrop :=
  State.backdrop_congr
@[simp] theorem State.stock_backdrop (tool : ToolId) (p : Nat) : (s.stock tool p).backdrop = s.backdrop :=
  State.backdrop_congr
@[simp] theorem State.unstock_backdrop (tool : ToolId) (p : Nat) (st : RecordState) :
    (s.unstock tool p st).backdrop = s.backdrop := State.backdrop_congr

/-! ### Roster and reservations -/

@[simp] theorem State.hear_backdrop (n : Nat) (a : Option Announced) : (s.hear n a).backdrop = s.backdrop := by
  unfold State.hear
  split
  · rfl
  · dsimp only
    split <;> simp

@[simp] theorem State.strike_backdrop (n kind : Nat) : (s.strike n kind).backdrop = s.backdrop := by
  unfold State.strike
  split
  · rfl
  · dsimp only
    split <;> simp

@[simp] theorem State.rosterTakes_backdrop (f : RxFrame) (k : FrameKind) (ok : Bool) :
    (s.rosterTakes f k ok).backdrop = s.backdrop := by
  unfold State.rosterTakes State.clean
  cases ok <;> simp

@[simp] theorem postEnded_backdrop (cause : EndCause) (rows : List Reservation) :
    (postEnded cause rows s).backdrop = s.backdrop := postEnded_keeps State.backdrop State.post_backdrop cause rows s

@[simp] theorem State.goAbsent_backdrop (n : Nat) (p : Peer) : (s.goAbsent n p).backdrop = s.backdrop := by
  simp [State.goAbsent, State.dropReservationsOf]

@[simp] theorem State.startCheck_backdrop (n : Nat) (r : ToolRecord) : (s.startCheck n r).backdrop = s.backdrop := by
  unfold State.startCheck
  split <;> simp

@[simp] theorem State.presenceReport_backdrop (n : Nat) : (s.presenceReport n).backdrop = s.backdrop := by
  unfold State.presenceReport
  split
  · exact foldl_keeps State.backdrop (fun u r => u.startCheck_backdrop n r) _ _
  · rfl

@[simp] theorem State.postFate_backdrop (n : Nat) (e : DemandEntry × EntryFate) :
    (s.postFate n e).backdrop = s.backdrop := by
  unfold State.postFate
  split <;> simp

@[simp] theorem State.takeDemand_backdrop (f : RxFrame) : (s.takeDemand f).backdrop = s.backdrop := by
  unfold State.takeDemand State.applyDemand
  dsimp only
  split
  · rfl
  · refine (foldl_keeps State.backdrop (fun u e => u.postFate_backdrop _ e) _ _).trans ?_
    rw [postEnded_backdrop, markingPass_backdrop]
    rfl

@[simp] theorem State.serveReservation_backdrop (station cls : Nat) :
    (s.serveReservation station cls).backdrop = s.backdrop := by
  unfold State.serveReservation
  split
  · rfl
  · dsimp only
    split <;> simp

/-! ### Custody -/

@[simp] theorem State.reply_backdrop (k : FrameKind) (n : Nat) (payload : List Byte) :
    (s.reply k n payload).backdrop = s.backdrop := s.offerFrame_backdrop _

@[simp] theorem State.postDuplicate_backdrop (tool : ToolId) (n : Nat) (k : FrameKind) :
    (s.postDuplicate tool n k).backdrop = s.backdrop := s.post_backdrop _ _ _

@[simp] theorem State.here_backdrop (n : Nat) (tool : ToolId) (why : BlockReason) :
    (s.here n tool why).backdrop = s.backdrop := s.reply_backdrop _ _ _

@[simp] theorem State.decline_backdrop (n : Nat) (tool : ToolId) (h : Byte) (why : DeclineReason) :
    (s.decline n tool h why).backdrop = s.backdrop := s.reply_backdrop _ _ _

@[simp] theorem State.offerOrBusy_backdrop (n : Nat) (r : ToolRecord) (p : Prior) :
    (s.offerOrBusy n r p).backdrop = s.backdrop := by
  unfold State.offerOrBusy
  split
  · simp
  · simp [State.beginOffer]

@[simp] theorem State.answerByState_backdrop (n : Nat) (r : ToolRecord) :
    (s.answerByState n r).backdrop = s.backdrop := by
  unfold State.answerByState
  cases r.state with
  | outbound c p => dsimp only; split <;> simp
  | _ => simp

@[simp] theorem State.takeCall_backdrop (f : RxFrame) : (s.takeCall f).backdrop = s.backdrop := by
  unfold State.takeCall
  dsimp only
  split
  · rfl
  split
  · rfl
  · split <;> simp

@[simp] theorem State.fillPlace_backdrop (why : Purpose) (tool : ToolId) :
    (s.fillPlace why tool).backdrop = s.backdrop := by
  cases why <;> simp [State.fillPlace]

@[simp] theorem State.arrivalEffects_backdrop (why : Purpose) (i : Image) :
    (s.arrivalEffects why i).backdrop = s.backdrop := by
  unfold State.arrivalEffects State.lowerDemand
  split
  · simp
  · split <;> simp
  · rfl

@[simp] theorem State.takeRecord_backdrop (i : Nat) (c : CallSlot) (n : Nat) (h : Byte) (image : Image) :
    (s.takeRecord i c n h image).backdrop = s.backdrop := by
  simp only [State.takeRecord, arrivalEffects_backdrop, closeCall_backdrop, post_backdrop, reply_backdrop]
  exact (s.addRecord _).fillPlace_backdrop _ _

@[simp] theorem State.takeOffer_backdrop (f : RxFrame) : (s.takeOffer f).backdrop = s.backdrop := by
  unfold State.takeOffer State.decideOffer
  dsimp only
  split
  · rfl
  split
  · simp
  split
  · split <;> simp
  split
  · split
    · rfl
    · split <;> simp
  · split <;> simp

@[simp] theorem State.takeAccept_backdrop (f : RxFrame) : (s.takeAccept f).backdrop = s.backdrop := by
  unfold State.takeAccept State.applyAccept
  split
  · simp
  · split <;> simp

@[simp] theorem State.declined_backdrop (n : Nat) (tool : ToolId) (reason : Nat) :
    (s.declined n tool reason).backdrop = s.backdrop := by
  unfold State.declined
  cases (s.find tool).bind (·.state.prior) <;> dsimp only <;> split <;> simp

@[simp] theorem State.takeDecline_backdrop (f : RxFrame) : (s.takeDecline f).backdrop = s.backdrop := by
  unfold State.takeDecline State.applyDecline
  split
  · simp
  · split <;> simp

@[simp] theorem State.takeHere_backdrop (f : RxFrame) : (s.takeHere f).backdrop = s.backdrop := by
  unfold State.takeHere State.applyHere State.noteBusy
  split
  · split <;> simp
  · split <;> simp

@[simp] theorem State.takeCheck_backdrop (f : RxFrame) : (s.takeCheck f).backdrop = s.backdrop := by
  unfold State.takeCheck
  dsimp only
  split <;> simp

@[simp] theorem State.takeCheckReply_backdrop (f : RxFrame) : (s.takeCheckReply f).backdrop = s.backdrop := by
  unfold State.takeCheckReply State.applyCheckReply
  split
  · rfl
  · dsimp only
    split <;> simp

@[simp] theorem State.retryCall_backdrop (i : Nat) (c : CallSlot) : (s.retryCall i c).backdrop = s.backdrop := by
  unfold State.retryCall
  dsimp only
  split <;> simp

@[simp] theorem State.retryOffer_backdrop (i : Nat) (o : OutSlot) : (s.retryOffer i o).backdrop = s.backdrop := by
  unfold State.retryOffer
  dsimp only
  split
  · simp
  · split <;> simp

theorem State.openCall_backdrop {s t : State} {tool : ToolId} {why : Purpose} (h : s.openCall tool why = .ok t) :
    t.backdrop = s.backdrop := by
  unfold State.openCall at h
  split at h
  · cases h
  split at h
  · cases h
  split at h
  · cases h
  split at h
  · cases h
  split at h
  · cases h
  · cases h
    simp

/-! ### Pockets and locks -/

@[simp] theorem State.startRule_backdrop : s.startRule.backdrop = s.backdrop := by rw [s.startRule_frame]; rfl

theorem State.openRequest_backdrop {s t : State} {p : Nat} {why : Opening} {station : Option Nat}
    (h : s.openRequest p why station = .ok t) : t.backdrop = s.backdrop := by
  unfold State.openRequest at h
  split at h
  · cases h
  split at h
  · cases h
  split at h
  · cases h
  split at h
  · cases h
  · cases h
    simp

@[simp] theorem State.closeRequest_backdrop (p : Nat) : (s.closeRequest p).backdrop = s.backdrop := by
  unfold State.closeRequest
  split <;> simp

@[simp] theorem State.latchFault_backdrop (p : Nat) (why : Opening) (f : LockFault) :
    (s.latchFault p why f).backdrop = s.backdrop := by simp [State.latchFault]

@[simp] theorem State.endCourse_backdrop (p : Nat) (why : Opening) (r : Report) :
    (s.endCourse p why r).backdrop = s.backdrop := by simp [State.endCourse]

@[simp] theorem State.forcedRemoval_backdrop (p : Nat) (tool : ToolId) (lock : Lock) :
    (s.forcedRemoval p tool lock).backdrop = s.backdrop := by
  unfold State.forcedRemoval
  cases lock <;> simp

@[simp] theorem State.completeIssue_backdrop (p : Nat) (k : Pocket) (tool : ToolId) (why : Opening) :
    (s.completeIssue p k tool why).backdrop = s.backdrop := by
  unfold State.completeIssue
  simp only [markingPass_backdrop, startRule_backdrop]
  split
  · split <;> simp
  · simp

@[simp] theorem State.removal_backdrop (p : Nat) (k : Pocket) : (s.removal p k).backdrop = s.backdrop := by
  unfold State.removal State.heldRemoval State.serviceRemoval State.setOccupancy
  cases k.occupancy with
  | held tool =>
    dsimp only
    split
    · simp
    · simp
    all_goals split <;> simp
  | _ => simp

@[simp] theorem State.insertion_backdrop (p : Nat) (lock : Lock) : (s.insertion p lock).backdrop = s.backdrop := by
  unfold State.insertion State.postInsert
  cases lock with
  | holding why d => dsimp only; split <;> simp
  | _ => simp

@[simp] theorem State.hold_backdrop (p : Nat) (why : Opening) : (s.hold p why).backdrop = s.backdrop := by
  simp [State.hold, State.freePullIn]

@[simp] theorem State.supplyLow_backdrop : s.supplyLow.backdrop = s.backdrop := by
  simp [State.supplyLow, State.cutSupply]

@[simp] theorem State.clearFault_backdrop (p : Nat) (k : Pocket) : (s.clearFault p k).backdrop = s.backdrop := by
  simp [State.clearFault]

/-! ### Panels -/

@[simp] theorem State.closeWindow_backdrop (i : PanelId) (c : CloseCause) :
    (s.closeWindow i c).backdrop = s.backdrop := by
  unfold State.closeWindow State.postClosed
  split <;> simp

@[simp] theorem State.openWindow_backdrop (i : PanelId) (e : CodeEntry) (n : Nat) :
    (s.openWindow i e n).backdrop = s.backdrop := by simp [State.openWindow]

@[simp] theorem State.mismatch_backdrop (i : PanelId) : (s.mismatch i).backdrop = s.backdrop := by
  unfold State.mismatch
  dsimp only
  split <;> simp

@[simp] theorem State.startOperation_backdrop (i : PanelId) (kind : OpKind) (l : List Nat) :
    (s.startOperation i kind l).backdrop = s.backdrop := by simp [State.startOperation]

@[simp] theorem openEach_backdrop (i : PanelId) (list : List Byte) : (openEach s i list).1.backdrop = s.backdrop := by
  induction list generalizing s with
  | nil => rfl
  | cons b rest ih =>
    unfold openEach
    split
    · exact ih s
    · next t opened => exact (ih t).trans (State.openRequest_backdrop opened)

/-! ### The line and the demand sequencer -/

@[simp] theorem State.cyclePoint_backdrop : s.cyclePoint.backdrop = s.backdrop := by
  unfold State.cyclePoint
  split <;> simp

@[simp] theorem State.stopCycles_backdrop : s.stopCycles.backdrop = s.backdrop := by simp [State.stopCycles]

@[simp] theorem State.notQueued_backdrop (f : TxFrame) : (s.notQueued f).backdrop = s.backdrop := by
  unfold State.notQueued
  split
  · split
    · split <;> simp
    · split <;> simp
    · rfl
  · rfl

@[simp] theorem State.abortAttempt_backdrop (f : TxFrame) : (s.abortAttempt f).backdrop = s.backdrop := by
  unfold State.abortAttempt
  split
  · simp
  · split <;> simp

@[simp] theorem State.reportSent_backdrop (f : TxFrame) : (s.reportSent f).backdrop = s.backdrop := by
  unfold State.reportSent State.demandSent
  split
  · split
    · rfl
    · dsimp only
      split <;> simp
  · rfl

@[simp] theorem State.takeValid_backdrop (f : WireFrame) : (s.takeValid f).backdrop = s.backdrop := by
  unfold State.takeValid State.duplicateStation State.queueReceived
  split
  · rfl
  split
  · split <;> simp
  split
  · rfl
  · split <;> simp

/-! ### Slots, records, the head -/

@[simp] theorem State.loadHere_backdrop (n : Nat) (tool : ToolId) (i : Image) :
    (s.loadHere n tool i).backdrop = s.backdrop := by
  unfold State.loadHere
  split <;> simp

@[simp] theorem State.unloadSlot_backdrop (n : Nat) (m : MagSlot) : (s.unloadSlot n m).backdrop = s.backdrop := by
  unfold State.unloadSlot
  cases m <;> simp

@[simp] theorem State.postIf_backdrop (c : Bool) (k : NoticeKind) (o a : BitVec 32) :
    (s.postIf c k o a).backdrop = s.backdrop := by
  unfold State.postIf
  split <;> simp

@[simp] theorem State.charge_backdrop (tool : ToolId) (n : Nat) (i : Image) (seconds : Nat) :
    (s.charge tool n i seconds).backdrop = s.backdrop := by
  simp only [State.charge, State.postCharge, postIf_backdrop]
  split <;> simp

@[simp] theorem State.loseFitness_backdrop (r : ToolRecord) : (s.loseFitness r).backdrop = s.backdrop := by
  unfold State.loseFitness
  split <;> simp

@[simp] theorem State.vacate_backdrop (r : ToolRecord) : (s.vacate r).backdrop = s.backdrop := by
  unfold State.vacate
  split <;> simp

@[simp] theorem State.arrive_backdrop (r : ToolRecord) (n : Nat) : (s.arrive r n).backdrop = s.backdrop := by
  simp [State.arrive]

@[simp] theorem State.putAt_backdrop (i : Image) (place : Place) : (s.putAt i place).backdrop = s.backdrop := by
  cases place <;> simp [State.putAt]

@[simp] theorem State.restoreAt_backdrop (i : Image) (st : RecordState) (place : Place) :
    (s.restoreAt i st place).backdrop = s.backdrop := by
  unfold State.restoreAt
  split <;> simp

@[simp] theorem State.displaceRun_backdrop (place : Place) : (s.displaceRun place).backdrop = s.backdrop := by
  unfold State.displaceRun
  split
  · split <;> simp
  · rfl

@[simp] theorem State.takeSample_backdrop (r : Run) : (s.takeSample r).backdrop = s.backdrop := by
  unfold State.takeSample State.completeMeasurement State.formReference
  dsimp only
  split
  · simp
  split
  · simp
  · split
    · simp
    · split <;> simp

@[simp] theorem State.postOutcome_backdrop (r : Run) (o : RunOutcome) : (s.postOutcome r o).backdrop = s.backdrop := by
  unfold State.postOutcome
  split <;> simp

@[simp] theorem State.reseatRun_backdrop (r : Run) : (s.reseatRun r).backdrop = s.backdrop := by
  unfold State.reseatRun
  split <;> simp

@[simp] theorem State.scaleError_backdrop (scale : Scale) : (s.scaleError scale).backdrop = s.backdrop := by
  unfold State.scaleError
  dsimp only
  split
  · split <;> simp
  · simp

@[simp] theorem State.liftOff_backdrop (r : Option ToolRecord) : (s.liftOff r).backdrop = s.backdrop := by
  unfold State.liftOff
  split <;> simp

@[simp] theorem State.unseatRun_backdrop : s.unseatRun.backdrop = s.backdrop := by
  unfold State.unseatRun
  split <;> simp

@[simp] theorem State.unseat_backdrop : s.unseat.backdrop = s.backdrop := by simp [State.unseat]

@[simp] theorem State.rejoin_backdrop : s.rejoin.backdrop = s.backdrop :=
  State.rejoin_keeps State.backdrop (fun _ => rfl) (fun u i => u.lapse_backdrop i _) (fun u i => u.closeCall_backdrop i _ _) s

end

end Sys2Proof.Machine
end

section
/-! SUPPORT. What the own rule of each host command leaves alone (R176). -/

namespace Sys2Proof.Machine

/-- A next state on the same backdrop: no command is queued or taken from the queue, and the count, the configuration, the
station number and the reset stay. -/
def Keeps (s t : State) : Prop := t.backdrop = s.backdrop

theorem Keeps.refl (s : State) : Keeps s s := rfl

section
variable {s t : State} (h : Keeps s t)
include h

theorem Keeps.pending : t.pending = s.pending := congrArg Backdrop.pending h
theorem Keeps.now : t.now = s.now := congrArg Backdrop.now h
theorem Keeps.config : t.config = s.config := congrArg Backdrop.config h
theorem Keeps.station : t.port.station = s.port.station := congrArg Backdrop.station h
theorem Keeps.resetHeld : t.port.resetHeld = s.port.resetHeld := congrArg Backdrop.resetHeld h

end

section
variable (s : State)

/-! ### The port, the roster and the records -/

theorem readNoticeBody_keeps : Answers (Keeps s) (readNoticeBody s) := by
  unfold readNoticeBody
  split <;> exact Keeps.refl s

theorem readPeerBody_keeps (b : Byte) : Answers (Keeps s) (readPeerBody b s) := by
  refine .unless fun _ => .unless fun _ => ?_
  split
  · exact trivial
  · exact Keeps.refl s

theorem dropBody_keeps (tool : ToolId) : Answers (Keeps s) (dropBody tool s) := by
  refine .unless fun _ => .unless fun _ => ?_
  split
  · exact trivial
  · exact .unless fun _ => by simp [Answers, done, Keeps]

theorem resolveBody_keeps (tool : ToolId) (choice : Byte) : Answers (Keeps s) (resolveBody tool choice s) := by
  refine .unless fun _ => .unless fun _ => ?_
  split
  · exact trivial
  split
  · split
    · exact State.postChanged_backdrop _ _
    · exact s.depart_backdrop tool 0
  · exact trivial

theorem readRecordBody_keeps (tool : ToolId) : Answers (Keeps s) (readRecordBody tool s) := by
  refine .unless fun _ => .unless fun _ => ?_
  split
  · exact trivial
  · exact Keeps.refl s

/-! ### Pockets and panels -/

theorem callCommand_keeps (tool : ToolId) (why : Purpose) : Answers (Keeps s) (callCommand s tool why) := by
  unfold callCommand
  split
  · exact trivial
  · next opened => exact State.openCall_backdrop opened

theorem clearPocketFaultBody_keeps (b : Byte) : Answers (Keeps s) (clearPocketFaultBody b s) := by
  refine .unless fun _ => ?_
  split
  · exact trivial
  · refine .unless fun _ => ?_
    split
    · exact Keeps.refl s
    · exact s.clearFault_backdrop _ _

theorem readPocketBody_keeps (b : Byte) : Answers (Keeps s) (readPocketBody b s) := by
  refine .unless fun _ => ?_
  split
  · exact trivial
  · exact Keeps.refl s

theorem identifyPocketBody_keeps (b : Byte) (tool : ToolId) : Answers (Keeps s) (identifyPocketBody b tool s) := by
  have stocked : Keeps s ((s.stock tool b.toNat).postChanged tool) :=
    (State.postChanged_backdrop _ _).trans (s.stock_backdrop _ _)
  refine .unless fun _ => ?_
  split
  · exact trivial
  refine .unless fun _ => .unless fun _ => ?_
  split
  · exact callCommand_keeps s _ _
  split
  · exact .unless fun _ => stocked
  · exact .unless fun _ => stocked
  all_goals exact trivial

theorem issueBody_keeps (b : Byte) (cls : BitVec 16) (n : Byte) : Answers (Keeps s) (issueBody b cls n s) := by
  unfold issueBody
  dsimp only
  split
  · exact trivial
  split
  · exact trivial
  split
  · exact trivial
  · next t opened => exact (State.startOperation_backdrop _ _ _ _).trans (State.openRequest_backdrop opened)

theorem returnBody_keeps (b : Byte) (p : Option Byte) : Answers (Keeps s) (returnBody b p s) := by
  unfold returnBody
  split
  · exact trivial
  split
  · exact trivial
  split
  · exact trivial
  · next t opened =>
    exact (State.markingPass_backdrop _).trans
      ((State.startOperation_backdrop _ _ _ _).trans (State.openRequest_backdrop opened))

theorem serviceOpenBody_keeps (b : Byte) (list : List Byte) : Answers (Keeps s) (serviceOpenBody b list s) := by
  refine .unless fun _ => ?_
  split
  · exact trivial
  · next i _ =>
    have opened := openEach_backdrop s i list
    split
    · exact trivial
    · next t pockets answer _ e =>
      rw [e] at opened
      exact (State.markingPass_backdrop _).trans ((State.startOperation_backdrop _ _ _ _).trans opened)

theorem cancelBody_keeps (b : Byte) : Answers (Keeps s) (cancelBody b s) := by
  refine .unless fun _ => ?_
  split
  · exact trivial
  refine .unless fun _ => ?_
  split
  · exact trivial
  · refine (State.markingPass_backdrop _).trans ((State.endOperation_backdrop _ _ _).trans ?_)
    exact foldl_keeps State.backdrop State.closeRequest_backdrop _ _

theorem readPanelBody_keeps (b : Byte) : Answers (Keeps s) (readPanelBody b s) := by
  refine .unless fun _ => ?_
  split
  · exact trivial
  · exact .unless fun _ => .refl s

/-! ### The measuring unit, the magazine and the sequencer -/

theorem identifyHeadBody_keeps (tool : ToolId) : Answers (Keeps s) (identifyHeadBody tool s) := by
  refine .unless fun _ => .unless fun _ => .unless fun _ => ?_
  split
  · exact callCommand_keeps s _ _
  split
  · exact .unless fun _ => State.postChanged_backdrop _ _
  · exact .unless fun _ => State.postChanged_backdrop _ _
  all_goals exact trivial

theorem loadBody_keeps (b : Byte) (tool : ToolId) : Answers (Keeps s) (loadBody b tool s) := by
  refine .unless fun _ => ?_
  split
  · exact trivial
  refine .unless fun _ => .unless fun _ => .unless fun _ => ?_
  split
  · split
    · exact trivial
    · next opened => exact (State.setSlot_backdrop _ _ _).trans (State.openCall_backdrop opened)
  split
  · exact s.loadHere_backdrop _ _ _
  all_goals exact trivial

theorem unloadBody_keeps (b : Byte) : Answers (Keeps s) (unloadBody b s) := by
  refine .unless fun _ => ?_
  split
  · exact trivial
  · exact s.unloadSlot_backdrop _ _

theorem readSlotBody_keeps (b : Byte) : Answers (Keeps s) (readSlotBody b s) := by
  refine .unless fun _ => ?_
  split
  · exact trivial
  · exact Keeps.refl s

theorem startDemandBody_keeps (m i t h : Byte) : Answers (Keeps s) (startDemandBody m i t h s) := by
  refine .unless fun _ => ?_
  split
  · exact trivial
  · exact .unless fun _ => .unless fun _ => .unless fun _ => State.cyclePoint_backdrop _

/-! ### Every host command -/

/-- Every host command but CONFIGURE keeps the backdrop. -/
theorem hostBody_keeps (c : Instr) (other : ∀ p, c ≠ .configure p) : Answers (Keeps s) (hostBody c s) := by
  cases c with
  | configure p => exact absurd rfl (other p)
  | readStatus => exact Keeps.refl s
  | readNotice => exact readNoticeBody_keeps s
  | restore state kind number prior counterpart handoff image =>
    exact restoreBody_answers fun st place _ => s.restoreAt_backdrop _ st place
  | join => exact .unless fun _ => .unless fun _ => .refl s
  | rejoin => exact .unless fun _ => .unless fun _ => s.rejoin_backdrop
  | readPeer n => exact readPeerBody_keeps s n
  | pardon n => exact .unless fun _ => .unless fun _ => s.setPeer_backdrop _ _
  | create kind number image =>
    exact createBody_answers fun place _ => (State.displaceRun_backdrop _ place).trans (s.putAt_backdrop _ place)
  | drop tool => exact dropBody_keeps s tool
  | resolve tool choice => exact resolveBody_keeps s tool choice
  | markDamaged tool => exact markDamagedBody_answers (Keeps.refl s) fun r => by simp [Keeps]
  | regrind tool len => exact regrindBody_answers fun r _ _ => by simp [Keeps]
  | readRecord tool => exact readRecordBody_keeps s tool
  | listRecords start => exact .unless fun _ => .refl s
  | issue panel cls station => exact issueBody_keeps s panel cls station
  | returnTool panel pocket => exact returnBody_keeps s panel pocket
  | serviceOpen panel list => exact serviceOpenBody_keeps s panel list
  | cancel panel => exact cancelBody_keeps s panel
  | identifyPocket pocket tool => exact identifyPocketBody_keeps s pocket tool
  | clearPocketFault pocket => exact clearPocketFaultBody_keeps s pocket
  | readPocket pocket => exact readPocketBody_keeps s pocket
  | readPanel panel => exact readPanelBody_keeps s panel
  | readReservations => exact .unless fun _ => .refl s
  | identifyHead tool => exact identifyHeadBody_keeps s tool
  | measureReference n t => exact measureReferenceBody_answers fun _ => .refl s
  | measure tool n t => exact measureBody_answers fun _ => State.postChanged_backdrop _ _
  | abortMeasure => exact .unless fun _ => .unless fun _ => .unless fun _ => s.endRun_backdrop _
  | readHead => exact .unless fun _ => .unless fun _ => .refl s
  | load slot tool => exact loadBody_keeps s slot tool
  | unload slot => exact unloadBody_keeps s slot
  | charge slot seconds =>
    exact chargeBody_answers s.post_backdrop (Keeps.refl s) fun tool i n => s.charge_backdrop tool _ i n
  | readSlot slot => exact readSlotBody_keeps s slot
  | setDemand entries => exact .unless fun _ => .unless fun _ => .unless fun _ => .refl s
  | startDemand mode interval target hold => exact startDemandBody_keeps s mode interval target hold
  | stopDemand => exact .unless fun _ => .unless fun _ => .unless fun _ => s.stopCycles_backdrop
  | readDemand => exact .unless fun _ => .unless fun _ => .refl s
  | _ => exact trivial

end

end Sys2Proof.Machine
end

section
/-! SUPPORT. O10: a host command on a free port, and one that waits in the slot (R176). -/

namespace Sys2Proof.Machine

/-- A command that is taken leaves the slot free, so READY is high (R176). -/
theorem State.answered_ready {s : State} (running : s.port.resetHeld = false) (r : HostResult) (payload : List Byte) :
    (s.answered r payload).ready = true := by
  simp [State.ready, State.answered, running]

/-- On a free port a host command answers what its own rule gives. -/
theorem exec_free {c : Instr} {s : State} (host : (commandCode c).isSome = true) (free : s.PortFree) :
    (∃ reason, hostBody c s = .error reason ∧ exec c s = .next (s.answered reason []))
      ∨ ∃ t payload, hostBody c s = .ok (t, payload) ∧ exec c s = .next (t.answered .ok payload) := by
  rw [exec_hostBody host, hostCommand_free free]
  cases hostBody c s with
  | error reason => exact .inl ⟨reason, rfl, rfl⟩
  | ok answer => exact .inr ⟨answer.1, answer.2, rfl, rfl⟩

/-- CONFIGURE's own rule: a refusal, or the event of R184. -/
theorem configureBody_cases (p : List Byte) (s : State) : (∃ r, configureBody p s = .error r ∧ r ≠ .ok)
    ∨ ∃ payload, configureBody p s = .ok (s.configure (parseConfig p), payload) := by
  unfold configureBody
  split
  · exact .inl ⟨_, rfl, nofun⟩
  split
  · exact .inl ⟨_, rfl, nofun⟩
  split
  · exact .inl ⟨_, rfl, nofun⟩
  · exact .inr ⟨_, rfl⟩

/-- Any other command on a free port keeps the backdrop under its answer. -/
theorem exec_free_keeps {c : Instr} {s : State} (host : (commandCode c).isSome = true)
    (other : ∀ p, c ≠ .configure p) (free : s.PortFree) :
    ∃ t r payload, exec c s = .next (t.answered r payload) ∧ Keeps s t ∧ (r ≠ .ok → t = s ∧ payload = []) := by
  have keeps := hostBody_keeps s c other
  obtain ⟨reason, -, taken⟩ | ⟨t, payload, body, taken⟩ := exec_free host free
  · exact ⟨s, reason, [], taken, .refl s, fun _ => ⟨rfl, rfl⟩⟩
  · rw [body] at keeps
    exact ⟨t, .ok, payload, taken, keeps, fun refused => absurd rfl refused⟩

end Sys2Proof.Machine

namespace Sys2Proof.Proofs

open Sys2Proof.Machine

/-- Settles O10: on a free port the command's own rule is answered, and only CONFIGURE's changes the routing mask; a frame
that is taken later enters the slot. -/
theorem hostCommandsAnswerOnce : Obligations.HostCommandsAnswerOnce := by
  unfold Obligations.HostCommandsAnswerOnce
  refine ⟨fun c s host free => ?_, fun c s host running none slot later => ?_⟩
  · by_cases configure : ∃ p, c = .configure p
    · obtain ⟨p, rfl⟩ := configure
      obtain ⟨reason, body, refused⟩ | ⟨payload, body⟩ := configureBody_cases p s
      · exact ⟨_, _, hostCommand_error free body, rfl, rfl, State.answered_ready free.running _ _, rfl, rfl, rfl,
          (if_neg refused).symm, fun _ => rfl⟩
      · have ready := State.answered_ready (s := s.configure (parseConfig p)) free.running .ok payload
        exact ⟨_, _, hostCommand_ok free body, rfl, rfl, ready, rfl, rfl, rfl, rfl, fun refused => absurd rfl refused⟩
    · have other : ∀ p, c ≠ .configure p := fun p e => configure ⟨p, e⟩
      obtain ⟨t, r, payload, taken, keeps, refused⟩ := exec_free_keeps host other free
      refine ⟨_, _, taken, rfl, rfl, State.answered_ready (keeps.resetHeld.trans free.running) _ _, keeps.station,
        keeps.pending, keeps.now, ?_, fun error => ?_⟩
      · split
        · next p => exact absurd rfl (other p)
        · exact congrArg NodeConfig.routing keeps.config
      · obtain ⟨rfl, rfl⟩ := refused error
        rfl
  · rw [exec_hostBody host]
    exact ⟨hostCommand_waits running none slot later c _, by simp [State.ready]⟩

end Sys2Proof.Proofs
end

section
/-! SUPPORT. O2: every command and event answers a next state, and leaves the queue of waiting commands alone. -/

namespace Sys2Proof.Machine

/-! ### Outcomes -/

/-- An outcome is a next state of which a predicate holds: the node goes on. -/
def Leads (P : State → Prop) : StepOutcome → Prop
  | .next t => P t
  | _ => False

theorem Leads.exists_next {P : State → Prop} {o : StepOutcome} (h : Leads P o) : ∃ t, o = .next t ∧ P t := by
  cases o with
  | next t => exact ⟨t, rfl, h⟩
  | _ => exact h.elim

theorem Leads.mono {P Q : State → Prop} {o : StepOutcome} (h : Leads P o) (imp : ∀ t, P t → Q t) : Leads Q o := by
  cases o with
  | next t => exact imp t h
  | _ => exact h.elim

/-- An event that may find nothing to do. -/
theorem Leads.onlyIf {s t : State} {c : Prop} [Decidable c] (h : Keeps s t) :
    Leads (Keeps s) (if c then .next t else .next s) := by
  split
  · exact h
  · exact Keeps.refl s

/-- A host command goes on, whatever the port's state: what its own rule keeps and the port's slots do not touch holds of
the next state (R176, R177). -/
theorem leads_hostCommand {P : State → Prop} {c : Instr} {body : State → CommandResult} {s : State} (same : P s)
    (port : ∀ (u : State) (q : Port), P u → q.station = u.port.station → q.resetHeld = u.port.resetHeld →
      P { u with port := q })
    (ok : Answers P (body s)) : Leads P (hostCommand c body s) := by
  unfold hostCommand takeCommand
  split
  · exact same
  split
  · exact port s _ same rfl rfl
  split
  · exact port s _ same rfl rfl
  cases e : body s with
  | error reason => exact port s _ same rfl rfl
  | ok answer =>
    rw [e] at ok
    exact port answer.1 _ ok rfl rfl

theorem Keeps.withPort {s t : State} (h : Keeps s t) {q : Port} (station : q.station = t.port.station)
    (reset : q.resetHeld = t.port.resetHeld) : Keeps s { t with port := q } := by
  refine Eq.trans ?_ h
  simp only [backdrop_mk, backdropOf, station, reset]
  rfl

theorem leads_deliver {kind : FrameKind} {act : State → RxFrame → State} {s : State}
    (taken : ∀ (u : State) (f : RxFrame), (act u f).backdrop = u.backdrop) : Leads (Keeps s) (deliver kind act s) := by
  unfold deliver
  split
  · exact .refl s
  split
  · dsimp only [Leads, Keeps]
    split <;> simp [taken]
  · exact .refl s

section
variable (s : State)

/-! ### Events that may find nothing to do -/

theorem execReadTransaction_keeps (n : Nat) : Leads (Keeps s) (execReadTransaction n s) := by
  unfold execReadTransaction
  split
  · exact .refl s
  · split <;> exact Keeps.refl s

theorem execMalformedFrame_keeps : Leads (Keeps s) (execMalformedFrame s) := by
  unfold execMalformedFrame
  split
  · exact .refl s
  · exact .onlyIf (by simp [Keeps])

theorem execPeerAbsent_keeps (n : Nat) : Leads (Keeps s) (execPeerAbsent n s) := by
  unfold execPeerAbsent
  split
  · exact .refl s
  · exact .onlyIf (s.goAbsent_backdrop _ _)

theorem execCallWaitExpiry_keeps (slot : Nat) : Leads (Keeps s) (execCallWaitExpiry slot s) := by
  unfold execCallWaitExpiry
  split
  · exact .refl s
  split
  · exact .refl s
  split
  · exact .refl s
  split
  · exact s.retryCall_backdrop _ _
  · exact s.closeCall_backdrop _ _ _

theorem execOfferWaitExpiry_keeps (slot : Nat) : Leads (Keeps s) (execOfferWaitExpiry slot s) := by
  unfold execOfferWaitExpiry
  split
  · exact .refl s
  split
  · exact .refl s
  split
  · exact .refl s
  split
  · exact s.retryOffer_backdrop _ _
  · exact s.lapse_backdrop _ _

theorem execCheckWaitExpiry_keeps (tool : ToolId) : Leads (Keeps s) (execCheckWaitExpiry tool s) := by
  unfold execCheckWaitExpiry
  split
  · exact .refl s
  split
  · exact .onlyIf rfl
  · exact .refl s

theorem execPocketFirstReading_keeps (p : Nat) (high : Bool) : Leads (Keeps s) (execPocketFirstReading p high s) := by
  have read : ∀ r, (s.setReading p r).backdrop = s.backdrop := fun r => s.setPocket_backdrop p _
  unfold execPocketFirstReading
  split
  · exact .refl s
  split
  · exact .refl s
  dsimp only
  split
  · exact read _
  split
  · exact (State.forcedRemoval_backdrop _ _ _ _).trans (read _)
  all_goals exact (State.setPocket_backdrop _ _ _).trans (read _)

theorem execPocketRemoval_keeps (p : Nat) : Leads (Keeps s) (execPocketRemoval p s) := by
  unfold execPocketRemoval
  split
  · exact .refl s
  · exact .onlyIf ((State.removal_backdrop _ _ _).trans (s.setPocket_backdrop _ _))

theorem execPocketInsertion_keeps (p : Nat) : Leads (Keeps s) (execPocketInsertion p s) := by
  unfold execPocketInsertion
  split
  · exact .refl s
  · exact .onlyIf ((State.insertion_backdrop _ _ _).trans
      ((State.setPocket_backdrop _ _ _).trans (s.setPocket_backdrop _ _)))

theorem execCurrentSeen_keeps (p : Nat) : Leads (Keeps s) (execCurrentSeen p s) := by
  unfold execCurrentSeen
  split
  · exact .refl s
  split
  · exact s.setPocket_backdrop _ _
  · exact .refl s

theorem execPullInExpiry_keeps (p : Nat) : Leads (Keeps s) (execPullInExpiry p s) := by
  unfold execPullInExpiry
  split
  · split
    · split
      · exact .refl s
      split
      · exact s.hold_backdrop _ _
      · exact s.latchFault_backdrop _ _ _
    · exact .refl s
  · exact .refl s

theorem execShortCurrent_keeps (p : Nat) : Leads (Keeps s) (execShortCurrent p s) := by
  unfold execShortCurrent
  split
  · exact .refl s
  split
  · exact s.latchFault_backdrop _ _ _
  · exact s.latchFault_backdrop _ _ _
  · exact .refl s

theorem execHoldExpiry_keeps (p : Nat) : Leads (Keeps s) (execHoldExpiry p s) := by
  unfold execHoldExpiry
  split
  · exact .refl s
  split
  · exact .onlyIf (s.endCourse_backdrop _ _ _)
  · exact .refl s

theorem execEnter_keeps (i : PanelId) : Leads (Keeps s) (execEnter i s) := by
  have emptied : (s.setPanel i Panel.emptied).backdrop = s.backdrop := s.setPanel_backdrop i _
  unfold execEnter
  split
  · dsimp only
    split
    · exact emptied
    split
    · exact (State.openWindow_backdrop _ _ _ _).trans emptied
    · exact (State.mismatch_backdrop _ _).trans emptied
  · exact .refl s

theorem execScaleStep_keeps (scale : Scale) (up : Bool) : Leads (Keeps s) (execScaleStep scale up s) := by
  unfold execScaleStep
  split
  · exact .refl s
  · cases scale <;> exact Keeps.refl s

theorem execCapture_keeps (rising : Bool) : Leads (Keeps s) (execCapture rising s) := by
  unfold execCapture
  split
  · exact .refl s
  split
  · exact s.post_backdrop _ _ _
  · exact s.takeSample_backdrop _

theorem execReservationExpiry_keeps (n cls : Nat) : Leads (Keeps s) (execReservationExpiry n cls s) := by
  unfold execReservationExpiry
  split
  · exact .refl s
  · exact .onlyIf (by simp [Keeps])

theorem execBitError_keeps (mark : Bool) : Leads (Keeps s) (execBitError mark s) := by
  unfold execBitError
  split
  · exact .refl s
  · exact State.abortAttempt_backdrop _ _

theorem execFrameSent_keeps : Leads (Keeps s) (execFrameSent s) := by
  unfold execFrameSent
  split
  · exact .refl s
  · exact (State.notQueued_backdrop _ _).trans (State.reportSent_backdrop _ _)

/-! ### Every command -/

/-- Every event but RESET and RESET_ENDS goes on and keeps the backdrop. -/
theorem exec_event_keeps (c : Instr) (event : commandCode c = none) (reset : c ≠ .reset)
    (ends : ∀ straps, c ≠ .resetEnds straps) : Leads (Keeps s) (exec c s) := by
  cases c with
  | reset => exact absurd rfl reset
  | resetEnds straps => exact absurd rfl (ends straps)
  | readTransaction n => exact execReadTransaction_keeps s n
  | commandCollision => exact .onlyIf rfl
  | lineIdle => exact .onlyIf (State.startAttempt_backdrop _)
  | arbitrationLost => exact .onlyIf rfl
  | bitError mark => exact execBitError_keeps s mark
  | frameSent => exact execFrameSent_keeps s
  | frameReceived f => exact .onlyIf (by split <;> simp [Keeps])
  | malformedFrame => exact execMalformedFrame_keeps s
  | presence => exact leads_deliver fun u f => u.presenceReport_backdrop f.source.toNat
  | call => exact leads_deliver State.takeCall_backdrop
  | offer => exact leads_deliver State.takeOffer_backdrop
  | accept => exact leads_deliver State.takeAccept_backdrop
  | decline => exact leads_deliver State.takeDecline_backdrop
  | here => exact leads_deliver State.takeHere_backdrop
  | check => exact leads_deliver State.takeCheck_backdrop
  | checkReply => exact leads_deliver State.takeCheckReply_backdrop
  | demand => exact leads_deliver State.takeDemand_backdrop
  | lineHeld ns asserting => exact .onlyIf (by split <;> simp [Keeps, State.driverFault])
  | lineReleased ns => exact .onlyIf (by split <;> simp [Keeps])
  | nodeOnline => exact .onlyIf ((State.offerPresence_backdrop _).trans (State.post_backdrop _ _ _ _))
  | beaconExpiry => exact .onlyIf s.offerPresence_backdrop
  | peerAbsent n => exact execPeerAbsent_keeps s n
  | callWaitExpiry slot => exact execCallWaitExpiry_keeps s slot
  | offerWaitExpiry slot => exact execOfferWaitExpiry_keeps s slot
  | checkWaitExpiry tool => exact execCheckWaitExpiry_keeps s tool
  | pocketFirstReading p high => exact execPocketFirstReading_keeps s p high
  | pocketRemoval p => exact execPocketRemoval_keeps s p
  | pocketInsertion p => exact execPocketInsertion_keeps s p
  | currentSeen p => exact execCurrentSeen_keeps s p
  | pullInExpiry p => exact execPullInExpiry_keeps s p
  | shortCurrent p => exact execShortCurrent_keeps s p
  | holdExpiry p => exact execHoldExpiry_keeps s p
  | supplyLow => exact .onlyIf s.supplyLow_backdrop
  | supplyNormal => exact .onlyIf (State.post_backdrop _ _ _ _)
  | digitKey i d => exact .onlyIf (s.setPanel_backdrop i _)
  | enter i => exact execEnter_keeps s i
  | clear i => exact .onlyIf ((State.closeWindow_backdrop _ _ _).trans (s.setPanel_backdrop i _))
  | interKeyExpiry i => exact .onlyIf (s.setPanel_backdrop i _)
  | lockoutExpiry i => exact .onlyIf (s.setPanel_backdrop i _)
  | windowExpiry i => exact .onlyIf (s.closeWindow_backdrop i _)
  | scaleStep scale up => exact execScaleStep_keeps s scale up
  | scaleError scale => exact .onlyIf (s.scaleError_backdrop scale)
  | capture rising => exact execCapture_keeps s rising
  | captureTimeout => exact .onlyIf (s.endRun_backdrop _)
  | seatFirstReading high => exact .onlyIf rfl
  | headSeated => exact .onlyIf (State.post_backdrop _ _ _ _)
  | headUnseated => exact .onlyIf s.unseat_backdrop
  | cycleExpiry => exact .onlyIf (State.cyclePoint_backdrop _)
  | triggerEdge high => exact .onlyIf s.cyclePoint_backdrop
  | reservationExpiry n cls => exact execReservationExpiry_keeps s n cls
  | dominantEdge => exact .onlyIf rfl
  | startMarkRead width => exact .onlyIf rfl
  | framingError cause => exact .onlyIf rfl
  | _ => cases event

/-- Every host command goes on; CONFIGURE too leaves the queue alone. -/
theorem exec_host_pending (c : Instr) (host : (commandCode c).isSome = true) :
    Leads (fun t => t.pending = s.pending) (exec c s) := by
  rw [exec_hostBody host]
  by_cases configure : ∃ p, c = .configure p
  · obtain ⟨p, rfl⟩ := configure
    refine leads_hostCommand rfl (fun _ _ h _ _ => h) ?_
    exact .unless fun _ => .unless fun _ => .unless fun _ => rfl
  · have body := hostBody_keeps s c fun p e => configure ⟨p, e⟩
    exact (leads_hostCommand (Keeps.refl s) (fun _ _ h => h.withPort) body).mono fun _ h => h.pending

/-- Every command and event goes on and leaves the queue alone. -/
theorem exec_pending (c : Instr) : Leads (fun t => t.pending = s.pending) (exec c s) := by
  cases code : commandCode c with
  | some n => exact exec_host_pending s c (by simp [code])
  | none =>
    by_cases reset : c = .reset
    · subst reset
      exact rfl
    by_cases ends : ∃ straps, c = .resetEnds straps
    · obtain ⟨straps, rfl⟩ := ends
      show Leads _ (execResetEnds straps s)
      unfold execResetEnds
      split <;> exact rfl
    · exact (exec_event_keeps s c code reset fun straps e => ends ⟨straps, e⟩).mono fun _ h => h.pending

end

end Sys2Proof.Machine

namespace Sys2Proof.Proofs

open Sys2Proof.Machine

/-- Settles O2: a host command by its own rule behind the port, an event by its branches. -/
theorem everyCommandGoesOn : Obligations.EveryCommandGoesOn := by
  unfold Obligations.EveryCommandGoesOn
  exact fun c s => (exec_pending s c).exists_next

end Sys2Proof.Proofs
end
